-- ==== Sys2Proof/Word.lean ====
section
/-! DEFINITION. The word types of the model: a register is 32 bits wide, a byte stream is made of 8-bit bytes (00 R2, R3). -/

namespace Sys2Proof

/-- A register or one half of a 64-bit pair. -/
abbrev W32 := BitVec 32

/-- One byte of a stored or transmitted structure; bit 7 is its most significant bit (00 R3). -/
abbrev Byte := BitVec 8

end Sys2Proof
end

