-- ==== Sys2Proof/Syntax.lean ====
section
/-! DEFINITION. The commands and events of the block: one constructor of `Instr` for each row of spec/opcode_table.json,
with the operands the row's rule names. Where the spec dates a row, `t` is its instant in loom cycles (625 ps) since the
model's time origin; warp-lane blocks carry theirs in data UI (16 to a loom cycle, 03). -/

namespace Sys2Proof

/-- A block instance of the register map (19 R517). -/
inductive Blk where
  | glb | ref | pck | wrp (p : Fin 64) | crl | lom (k : Fin 68) | apu | hrn (h : Fin 64) | hst | btn | zch | pwd
  | trd (e : Fin 4) | jrn | clo (c : Fin 32) | spl | drm (d : Fin 24) | sht | mtx | hdl | wge
  deriving DecidableEq, Repr

/-- A matrix master (16 R450): 0 and 1 the heddle pairs, 2 the shuttle engine, 3 the Rosesque host bridge, 4 the debug port. -/
abbrev Master := Fin 5

/-- An endpoint of the management network: MAC, IPv4, UDP port, 802.1Q tag word (15 R413). -/
structure Endpoint where
  mac : BitVec 48
  ip : W32
  udp : BitVec 16
  tag : Option (BitVec 16)
  deriving DecidableEq, Repr

/-- What a Rosesque command or BULK message carries beside its body: the heddle port it arrived on, its sender, its
`seq` and the key that authenticated it (15 R413, R414). -/
structure HostHdr where
  port : Fin 2
  src : Endpoint
  seq : BitVec 64
  factory : Bool
  deriving DecidableEq, Repr

/-- What reading a byte lane's sweeps found in training (13 R368): centres and widths in 1/64 UI. -/
structure LaneFit where
  rdCentre : Fin 256
  rdWidth : Fin 256
  wrCentre : Fin 256
  wrWidth : Fin 256
  deriving DecidableEq, Repr

/-- What a channel's SPD hub and its population say in the terms of 13 R361: a registered DIMM or another type, the DRAM width
in bits, the die density in Gb and whether the dies are stacked, ranks, capacity in GB as marked, speed bin in MT/s, modules on
the channel, check devices with on-die ECC and ECS, a sideband of I3C Basic; and, where the module declares refresh management
required, the activates of a bank at which it asks for an RFM command (R378). -/
structure Spd where
  registered : Bool
  width : Nat
  dieGb : Nat
  stacked : Bool
  ranks : Nat
  capGb : Nat
  bin : Nat
  modules : Nat
  checked : Bool
  i3c : Bool
  rfm : Option Nat
  deriving DecidableEq, Repr

/-- A channel's report at cold start: its SPD, none when it is empty, and what training found of its ten byte lanes
(13 R361 to R368). -/
structure ModuleReport where
  spd : Option Spd
  lanes : List LaneFit
  deriving DecidableEq, Repr

/-- How a channel left self-refresh (13 R369): its stored results verified, it trained again, or it failed. -/
inductive ExitResult where
  | verified | retrained (lanes : List LaneFit) | failed
  deriving DecidableEq, Repr

/-- The errors of a line on the bus, after the DRAMs' on-die ECC (13 R371): the devices whose symbols are wrong, the rank, and
whether an error in more than two devices shows. -/
structure LineEcc where
  devices : List (Fin 20)
  rank : Fin 2
  shows : Bool
  deriving DecidableEq, Repr

/-- The traffic of attached memory (13 R381); `matrix m` is an access by matrix master `m`. -/
inductive MemUser where
  | journal | chainState | ledger | shedDump | spillDrain | parking | negate | table | bankWrite | engineLoad | replay | spillLog
  | readout | ring | capture | matrix (m : Fin 5)
  deriving DecidableEq, Repr

/-- One access of attached memory (13 R379 to R382): a read, a write, or an atomic add of one element (R167). -/
inductive MemReq where
  | read (addr len : Nat)
  | write (addr : Nat) (data : List Byte)
  | add (addr : Nat) (re im : Int) (fray : Bool) (count : Nat)
  deriving DecidableEq, Repr

/-- A request that comes to a controller: its traffic, itself, when it comes, and the errors of the lines that it will read. -/
structure MemAsk where
  user : MemUser
  req : MemReq
  since : Nat
  ecc : List LineEcc
  deriving DecidableEq, Repr

/-- What a cloth port found of a received frame: the RS-FEC codewords corrected and uncorrectable, and whether the frame check
sequence holds (11 R297, R324). -/
structure LineCheck where
  fixed : Nat
  lost : Nat
  fcsOk : Bool
  deriving DecidableEq, Repr

/-- An offset measurement: a reference's offset from the DPLL output, and the DPLL output's own from 16 × LOCLK (14 R393, R397;
log 82). -/
structure Offsets where
  ofs : BitVec 32
  dpll : BitVec 32
  deriving DecidableEq, Repr

/-- Where and when a fault source's event falls: what its FDETAIL does not name, 0 where nothing is missing (log 35), and the
instant. -/
structure FaultPlace where
  subject : Nat
  t : Nat
  deriving DecidableEq, Repr

/-- Which loom fault was contained (05 R123, R141; 17 R479): the LOM source it raises. -/
inductive LoomFault where
  | countErr | operandPar | spillqU
  deriving DecidableEq, Repr

/-- What a pulse input showed (14 R393): an edge in its place, a misplaced edge, or a second with no edge. -/
inductive PulseSeen where
  | good | misplaced | missing
  deriving DecidableEq, Repr

/-- The commands and events, one constructor for each row of spec/opcode_table.json. -/
inductive Instr where
  -- start-up and reset (18, 20)
  | powerOnReset
  | pwrokFall
  | coldStart (t : Nat) (testen : Bool)
  | activationCopyDone
  | firmwareStart (t : Nat)
  | startWatchdogExpiry
  | dramTrainingDone (reports : List ModuleReport)
  | resetWarm (h : HostHdr) (t : Nat)
  | resetCold (h : HostHdr) (t : Nat)
  | quiesceComplete
  | quiesceTimeout
  | selfRefreshExit (ch : Fin 24) (r : ExitResult)
  | resume (pick : Nat)
  -- picks, sheds, looms (02, 05, 06)
  | pickBoundary
  | weightSetComplete
  | passEnd (slot : Fin 9)
  | spillDrainEntry (loom : Fin 68)
  | shedDumpStart (loom : Fin 68)
  | shedDumpEnd (loom : Fin 68)
  | periodEnd (ent : Nat)
  | matrixReadoutEnd (ent : Nat) (buf : Fin 2)
  | loomContainedFault (loom : Fin 68) (src : LoomFault) (detail : W32)
  | replayPickStaged
  | replayEnd
  | statePrefetchComplete (unit : Fin 640) (ok : Bool)
  | stateWritebackComplete (unit : Fin 640)
  -- commits and device time (02)
  | commitStoppedApply (t : Nat)
  | commitRequest (m : Master) (t : Nat)
  | commitAtRequest (m : Master) (t : Nat)
  | commitCancel (m : Master)
  | loadArm (m : Master)
  | loadCancel (m : Master) (alsoArm : Bool)
  | deviceSecond (t : Nat)
  | syncInEdge (t high low : Nat)
  | syncGo (m : Master) (t : Nat)
  -- capture (10)
  | trigInEdge (t high low : Nat)
  | trigAckEnd (t : Nat)
  | captureTrigger (m : Master) (useAt : Bool) (t : Nat)
  | captureRead (m : Master) (slot : Fin 16) (autoRelease : Bool)
  | captureRelease (m : Master) (slot : Fin 16)
  | captureReadoutStart (slot : Fin 16)
  | captureReadoutEnd (slot : Fin 16)
  -- warp lanes and frames (03, 04)
  | dataBlock (p : Fin 64) (k : Fin 4) (u : Nat) (bits : List Bool) (overflow : Bool)
  | idleBlock (p : Fin 64) (k : Fin 4) (u : Nat) (bits : List Bool)
  | trainBlock (p : Fin 64) (k : Fin 4) (u : Nat) (bits : List Bool)
  | markerBlock (p : Fin 64) (k : Fin 4) (u : Nat) (bits : List Bool)
  | markerTimeout (p : Fin 64) (k : Fin 4)
  | forwardedClockDetect (p : Fin 64) (ofs : BitVec 16)
  | forwardedClockLoss (p : Fin 64)
  | trainTimeout (p : Fin 64)
  | eqAdaptUpdate (p : Fin 64) (k : Fin 4) (settings : BitVec 30)
  | adaptWindowEnd (p : Fin 64) (k : Fin 4) (disagree : List Nat)
  | pickFrame (p : Fin 64)
  | tieWordSend (p : Fin 64) (t : Nat)
  -- treadle engines (09): engine e executes the word at its program counter
  | waitp (e : Fin 4)
  | waitpReturn (e : Fin 4)
  | nop (e : Fin 4)
  | halt (e : Fin 4)
  | br (e : Fin 4)
  | brz (e : Fin 4)
  | brnz (e : Fin 4)
  | brgt (e : Fin 4)
  | brle (e : Fin 4)
  | djnz (e : Fin 4)
  | seta (e : Fin 4)
  | adda (e : Fin 4)
  | setb (e : Fin 4)
  | setl (e : Fin 4)
  | geta (e : Fin 4)
  | lis (e : Fin 4)
  | adds (e : Fin 4)
  | subs (e : Fin 4)
  | addis (e : Fin 4)
  | muls (e : Fin 4)
  | ands (e : Fin 4)
  | ors (e : Fin 4)
  | xors (e : Fin 4)
  | shls (e : Fin 4)
  | shrs (e : Fin 4)
  | gets (e : Fin 4)
  | vext (e : Fin 4)
  | vadd (e : Fin 4)
  | vsub (e : Fin 4)
  | vmul (e : Fin 4)
  | vmax (e : Fin 4)
  | vmin (e : Fin 4)
  | vabs (e : Fin 4)
  | vspl (e : Fin 4)
  | vins (e : Fin 4)
  | vshl (e : Fin 4)
  | vshr (e : Fin 4)
  | vgt (e : Fin 4)
  | vand (e : Fin 4)
  | aclr (e : Fin 4)
  | mac (e : Fin 4)
  | maca (e : Fin 4)
  | accr (e : Fin 4)
  | asum (e : Fin 4)
  | ina (e : Fin 4)
  | ind (e : Fin 4)
  | maxi (e : Fin 4)
  | mini (e : Fin 4)
  | emit (e : Fin 4)
  | trig (e : Fin 4) (t : Nat)
  | ldv (e : Fin 4)
  | stv (e : Fin 4)
  | lds (e : Fin 4)
  | sts (e : Fin 4)
  | illegalOpcode (e : Fin 4)
  | engineStart (e : Fin 4)
  -- drafts and weaving (12)
  | checkRequest (m : Master)
  | checkEnd
  | armRequest (m : Master) (t : Nat)
  | cancelRequest (m : Master)
  | unweaveRequest (m : Master) (t : Nat)
  | stagingClear (m : Master)
  | weavePreparationDone
  -- cloth ports and spool queues (11)
  | clothRxFrame (c : Fin 32) (t : Nat) (line : LineCheck) (frame : List Byte)
  | boltFlushTimeout (q : Fin 8192) (t : Nat)
  | portSendSlot (c : Fin 32) (t : Nat)
  | retxTimeout (q : Fin 8192) (t : Nat)
  | heartbeatTimer (q : Fin 8192) (t : Nat)
  | clothLinkLoss (c : Fin 32) (fec : Bool)
  | clothPortFail (c : Fin 32) (t : Nat)
  | clothLinkUp (c : Fin 32) (t : Nat)
  | provingEnd (c : Fin 32) (t : Nat)
  -- Rosesque (15, 18)
  | heddleRxFrame (m : Fin 2) (fcsOk : Bool) (frame : List Byte)
  | ping (h : HostHdr)
  | regRead (h : HostHdr) (addrs : List W32)
  | regWrite (h : HostHdr) (pairs : List (W32 × W32)) (t : Nat)
  | memRead (h : HostHdr) (addr : BitVec 48) (len chunk : Nat)
  | pieceCommit (h : HostHdr) (piece : W32) (len : Nat) (sha : List Byte)
  | pieceProgramDone (ok : Bool)
  | pieceMap (h : HostHdr) (first : W32) (count : Nat)
  | setNet (h : HostHdr) (port : Byte) (mac : BitVec 48) (ip : W32) (udp : BitVec 16)
  | setHost (h : HostHdr) (port primary : Byte) (dst : Endpoint)
  | noticeCfg (h : HostHdr) (rate rto : Nat)
  | provision (h : HostHdr) (body : List Byte)
  | setKey (h : HostHdr) (body : List Byte)
  | deprovision (h : HostHdr) (t : Nat)
  | setDraftKey (h : HostHdr) (slot : Byte) (key : List Byte)
  | clearDraftKey (h : HostHdr) (slot : Byte)
  | stats (h : HostHdr)
  | memoryWrite (h : HostHdr) (addr : BitVec 48) (data : List Byte)
  | imageWrite (h : HostHdr) (addr : BitVec 48) (data : List Byte)
  | hostAck (h : HostHdr) (upTo : BitVec 64) (also : List (BitVec 64))
  | settingsStored (ref : BitVec 64)
  | noticeSend (t : Nat)
  | noticeTimeout (nseq : Nat) (t : Nat)
  | noticePrimaryReturn (t : Nat)
  | heddleLinkChange (m : Fin 2) (up : Bool) (t : Nat)
  -- heddle cores, matrix, shuttle engine (16)
  | pairFail (pair : Fin 2) (mismatch : Bool)
  | heddleWatchdogExpiry (pair : Fin 2)
  | controlTakeover
  | hdlKick (m : Master) (t : Nat)
  | hdlDoorbellWrite (m : Master) (value : W32)
  | clean (m : Master) (sl : Fin 4) (dirty : List (Nat × Byte))
  | cleanInv (m : Master) (sl : Fin 4) (dirty : List (Nat × Byte))
  | inv (m : Master) (sl : Fin 4)
  | cleanSlotDone (sl : Fin 4)
  | shtStart (m : Master) (n : Fin 16) (alsoStop heddle : Bool)
  | shtStop (m : Master) (n : Fin 16) (heddle : Bool)
  | channelRunStart
  | descriptorStart
  | descriptorComplete
  | shtBusError (cause : Fin 5)
  | matrixMemoryWrite (m : Master) (addr : BitVec 48) (data : List Byte)
  -- register accesses (00, 19) and the write-only actions of each block
  | registerWrite (m : Master) (addr value : W32) (t : Nat)
  | pairLoRead (m : Master) (addr : W32)
  | pairLoWrite (m : Master) (addr value : W32)
  | pairHiWrite (m : Master) (addr value : W32)
  | wrpCntClr (p : Fin 64)
  | wrpFcntClr (p : Fin 64)
  | lomChkClear (k : Fin 68)
  | lomBbClr (k : Fin 68)
  | hrnClr (h : Fin 64)
  | btnClr
  | zchClr
  | pwdClr
  | trdClr (e : Fin 4)
  | jrnClr
  | cloClr (c : Fin 32)
  | splClr
  | splQselWrite (q : Fin 8192)
  | drmClr (d : Fin 24)
  | mtxClr
  -- reference selection and outputs (14)
  | refStepWrite (step : BitVec 20)
  | refCompWrite (x : Fin 4) (comp : BitVec 20)
  | refPpsoutOfsWrite (ofs : BitVec 24) (t : Nat)
  | refPickoutOfsWrite (ofs : BitVec 12) (t : Nat)
  | outputOffsetTakesEffect (pick : Bool) (t : Nat)
  | refClockLoss (x : Fin 4)
  | ppsEdge (x : Fin 4) (seen : PulseSeen) (phase : BitVec 32)
  | offsetMeasurement (x : Fin 4) (m : Offsets) (offNominal : Bool)
  | qualificationTimer (x : Fin 4)
  | wtrExpiry (x : Fin 4)
  | switchSlewEnd
  | holdoverHistoryValid (est : BitVec 32)
  | holdoverExpiry
  | loclkLoss
  -- faults, injection, wear (17, 20)
  | faultRaised (b : Blk) (src : Fin 16) (real inj : Bool) (detail : W32) (place : FaultPlace)
  | faultNotice (b : Blk)
  | fatalResetTimer (t : Nat)
  | finjGo (b : Blk) (src : Fin 16)
  | rejectPoll
  | wgeStartWrite (n : Fin 5) (value : W32)
  | gaugeDone (dom : Fin 133) (path sram : Byte) (temp : BitVec 16)
  | wearReplan
  | wgeBobOffWrite (n : Fin 3) (value : W32)
  | vrAlert (statusWord : BitVec 16)
  | vrSettleTimeout
  -- attached memory and on-chip storage (13)
  | refreshDue (d : Fin 24) (rank : Fin 2) (issued : Nat)
  | thermalRead (d : Fin 24) (temp : Option (BitVec 16))
  | dqsOscTrack (d : Fin 24) (moves : List (Int × Int))
  | dramPatrolScrub (d : Fin 24) (addr : BitVec 48) (ecc : LineEcc) (endOfPass : Bool) (progress : BitVec 16)
  | ecsReading (d : Fin 24) (count : W32)
  | sramPatrolScrub (b : Blk) (corrected : Bool) (uncorrectable : Bool) (detail : W32)
  | memoryAccess (d : Fin 24) (asks : List MemAsk) (busy : List Nat) (younger : Bool) (t : Nat)
  | invalidTypeBlock (p : Fin 64) (k : Fin 4) (u : Nat) (bits : List Bool)
  | eventNotice (addr : W32)
  | refClockReturn (x : Fin 4)
  | voutSettled
  | tapInstruction (code : BitVec 16) (standard : Bool)
  | outputEdge (pick : Bool) (t : Nat)
  | outputPulseEnd (pick : Bool) (t : Nat)
  deriving DecidableEq, Repr

end Sys2Proof
end

