-- ==== Sys2Proof/Config.lean ====
section
/-! DEFINITION. What an implementation fixes and the spec does not give: opaque constants, which nothing in Lean can
evaluate. A free value is one of them applied to a counter of the state or to the operands it depends on. -/

namespace Sys2Proof.Config

/-- A value the spec leaves open where a result must stand (log 6): the n-th such value. -/
opaque free : Nat → Nat

/-- What the fuses of this device hold, byte k, from which 17 R490's fields are formed (log 7). -/
opaque identity : Nat → BitVec 8

/-- The 32 bytes of the factory key (15 R420), byte k (log 7). -/
opaque factoryKey : Nat → BitVec 8

/-- The image verification key in the boot ROM (18 R504), byte k (log 7). -/
opaque imageKey : Nat → BitVec 8

/-- The bytes of the image that the device is delivered with in its active bank (18 R501, log 11), byte k. -/
opaque deliveredImage : Nat → BitVec 8

/-- A byte of the flash's sector of piece marks, for which 18 R501 gives no layout (log 9): its place in the sector, the marked
pieces p as the sum of 2^p, the SHA-256 stored there. -/
opaque pieceSector : Nat → Nat → List (BitVec 8) → BitVec 8

/-- Whether the running firmware's rule migrates a settings layout to its own (18 R513, log 12): from, to. -/
opaque migrates : Nat → Nat → Bool

/-- The severity of a notice for which the spec names none (15 R437, R438, log 13): its type and pair 0's address. -/
opaque severity : Nat → Nat → Fin 4

/-- The boot ROM's bytes (16 R451), byte k (log 7). -/
opaque bootRom : Nat → BitVec 8

/-- The resampler coefficient c[p][k] of preset s, signed, where the phase's coefficients are what 08 R215 and R220 say of
them: the spec gives no values (log 8). -/
opaque resampler : Nat → Nat → Nat → Int

/-- The rank, bank and row of a channel offset, which 13 R365 calls internal to the device (log 79). -/
opaque dramPlace : Nat → Nat × Nat × Nat

/-- The next value of channel ch's 32-bit generator, of which 13 R377 gives no rule (log 79). -/
opaque dramDraw : Nat → BitVec 32 → BitVec 32

/-- A byte of an entry of the ledger's tables, for which 10 R286 gives no byte layout (log 9): the entry, what it says, its
sequence number, whether its write completed, the byte's place. -/
opaque tableByte : Nat → List Nat → Nat → Bool → Nat → BitVec 8

/-- The layout version in the header of a ledger copy (10 R286, log 9). -/
opaque ledgerLayout : Nat

/-- The body bytes of a record of the state area past its tag: internal to the device (08 R229, log 9). -/
opaque stateByte : Nat → BitVec 8

/-- The phase of CLKOUT, in loom cycles of its 16, while no device second exists: 14 R407 ties it to device seconds only (log 93). -/
opaque clkPhase : Nat

/-- The data word of VOUT_COMMAND for a voltage in microvolts, in the format that the regulator reports through VOUT_MODE (20 R534,
log 95). -/
opaque voutWord : Nat → BitVec 16

/-- The regulator's address on the VR bus that the bytes of a boot configuration part name (20 R534, log 95). -/
opaque vrAddress : List (BitVec 8) → BitVec 7

end Sys2Proof.Config
end

