-- ==== Sys2Proof/Machine/RegField.lean ====
section
/-! DEFINITION. What a register table of the spec says of a register: fields, access codes, reset values (00 R2, R5, R7). -/

namespace Sys2Proof.Machine

/-- A field of one register: the register's address, the field's lowest bit and its width. -/
structure Fld where
  addr : Nat
  lo : Nat
  w : Nat
  deriving DecidableEq, Repr

/-- The access codes (00 R5). -/
inductive Access where
  | rw | ro | roh | w1c | wo | rwp
  deriving DecidableEq, Repr

/-- One row of a register table: lowest bit, width, access code, reset value. -/
structure FieldDesc where
  lo : Nat
  w : Nat
  acc : Access
  reset : Nat
  deriving DecidableEq, Repr

/-- The registers of the spec's tables, under their names. -/
inductive Reg where
  | PCK_CFG | PCK_STATE | PCK_LOAD | PCK_LOAD_PN_LO | PCK_LOAD_PN_HI | PCK_ANCHOR_LO | PCK_ANCHOR_HI | PCK_PN_LO
  | PCK_PN_HI | PCK_SHED_POS | PCK_TBASE_PN_LO | PCK_TBASE_PN_HI | PCK_COMMIT | PCK_COMMIT_AT_LO | PCK_COMMIT_AT_HI
  | PCK_COMMIT_STAT | PCK_COMMIT_PN_LO | PCK_COMMIT_PN_HI | PCK_SYNC | PCK_SYNC_STAT | PCK_SYNC_PN_LO
  | PCK_SYNC_PN_HI | WRP_CTL | WRP_PSTAT | WRP_TRAIN | WRP_CLKOFS | WRP_CNT_CLR | WRP_LSTAT | WRP_LEQ | WRP_LSNAP
  | WRP_LIDLE | WRP_LCNT_STUFF | WRP_LCNT_HDR | WRP_LCNT_MRK | WRP_LCNT_LOCK | WRP_LSKEW | WRP_BLANK_LO
  | WRP_BLANK_HI | WRP_FRAME_STAT | WRP_LAST_PN | WRP_ACC_LO | WRP_ACC_HI | WRP_FMT_ERR | WRP_UFLAG | WRP_ARRIVAL
  | WRP_SRC_ID | WRP_ANS_LAT | WRP_FCNT_CLR | WRP_REJ | LOM_ROLE | LOM_STAT | LOM_RETIRE | LOM_CHK | LOM_PASS
  | CRL_CFG | CRL_STATE | CRL_ABSENT | CRL_LMAP | CRL_PLACE | CRL_ORDER | APU_SHED_LO | APU_SHED_HI | APU_PEAK
  | APU_BLANKED | LOM_SPILL_CNT | LOM_SPILL_PEAK | LOM_SPILL_DEFER | LOM_FRAY | LOM_FRAY_TOTAL | LOM_BOBBIN_ECC
  | LOM_DUMP_STAT | LOM_SPILLQ | LOM_SPILL_LOST | LOM_BB_CLR | HRN_STAT | HRN_WECC | HRN_CLR | HST_SWAP | HST_STATE
  | HST_SW_PN_LO | HST_SW_PN_HI | HST_SW_LEN | HST_EVENT | HST_EVT_EN | HST_GAIN_SEL | HST_BASE_A_LO | HST_BASE_A_HI
  | HST_BASE_B_LO | HST_BASE_B_HI | HST_GAIN0_LO | HST_GAIN0_HI | HST_GAIN1_LO | HST_GAIN1_HI | HST_GEN | HST_CNT_SAT
  | HST_CNT_REFUSED | BTN_SAT | BTN_PEAK | BTN_PEAK_BEAM | BTN_CLASSES | BTN_ROUTE_ERR | BTN_CLR | ZCH_GEN | ZCH_STAT
  | ZCH_SAT | ZCH_GAP | ZCH_CLR | ZCH_STATE_BASE_LO | ZCH_STATE_BASE_HI | ZCH_COEF_SEL | ZCH_COEF_DATA | ZCH_CFG
  | ZCH_RATIO | ZCH_SHIFT | ZCH_SEQ | PWD_STAT | PWD_SAT | PWD_GAP | PWD_CLR | PWD_CFG | PWD_OUT | PWD_LAST | TRD_CTL
  | TRD_STAT | TRD_PC | TRD_CFG | TRD_BUSY | TRD_OVERRUN | TRD_SATCNT | TRD_TRIG_CNT | TRD_EMIT_CNT | TRD_CLAMP
  | TRD_DROP | TRD_FIFO | TRD_TRIG_CAUSE | TRD_TRIG_PN | TRD_DADDR | TRD_DDATA | TRD_CLR | TRD_PARAM | TRD_DSUB
  | TRD_QUEUE | JRN_CFG | JRN_SEG_STAT | JRN_WSEG | JRN_BASE_LO | JRN_BASE_HI | JRN_DIR_BASE_LO | JRN_DIR_BASE_HI
  | JRN_SLOG_BASE_LO | JRN_SLOG_BASE_HI | JRN_OLDEST_LO | JRN_OLDEST_HI | JRN_CAP_PRE | JRN_CAP_POST | JRN_CAP_AT_LO
  | JRN_CAP_AT_HI | JRN_CAP_PORTS_LO | JRN_CAP_PORTS_HI | JRN_CAP_CMD | JRN_EVENT | JRN_EVT_EN | JRN_TRIG_CNT
  | JRN_REPLAY | JRN_REPLAY_PROG | JRN_REPLAY_CNT | JRN_LSEQ_LO | JRN_LSEQ_HI | JRN_LEDGER_ERR | JRN_UNJOURNALLED
  | JRN_DIR_ERR | JRN_LEDGER_LOST | JRN_CLR | JRN_CAP_STAT | JRN_CAP_T_LO | JRN_CAP_T_HI | JRN_CAP_PROG | JRN_CAP_SEG
  | CLO_CTL | CLO_STAT | CLO_MAC_LO | CLO_MAC_HI | CLO_IP | CLO_UDP | CLO_TX_FRAMES_LO | CLO_TX_FRAMES_HI
  | CLO_TX_BYTES_LO | CLO_TX_BYTES_HI | CLO_RETX | CLO_RX_RCPT | CLO_RX_DROP | CLO_FEC | CLO_CLR | SPL_CFG | SPL_STAT
  | SPL_RING_BASE_LO | SPL_RING_BASE_HI | SPL_INCARN | SPL_DEV_TAG | SPL_QSEL | SPL_QSTAT | SPL_QNEXT_LO
  | SPL_QNEXT_HI | SPL_QBASE_LO | SPL_QBASE_HI | SPL_QFILL | SPL_QLOST | SPL_QRETX | SPL_EVENT | SPL_EVT_EN
  | SPL_CNT_RCPT | SPL_CNT_BADRCPT | SPL_CLR | SPL_RC_RATE | SPL_RC_TIME | SPL_QCFG_A | SPL_QCFG_B | SPL_DEST
  | PCK_WEAVE | PCK_WEAVE_AT_LO | PCK_WEAVE_AT_HI | PCK_WEAVE_STAT | PCK_WEAVE_ERR_OFS | PCK_DRAFT_ID_LO
  | PCK_DRAFT_ID_HI | PCK_STAGE_ID_LO | PCK_STAGE_ID_HI | PCK_WEAVE_PN_LO | PCK_WEAVE_PN_HI | PCK_WEAVE_CNT | DRM_CFG
  | DRM_STAT | DRM_REF | DRM_RH | DRM_DRFM_CNT | DRM_ECC_CNT | DRM_ECS | DRM_UE_ADDR_LO | DRM_UE_ADDR_HI | DRM_DEV
  | DRM_SCRUB | DRM_CLR | DRM_TRAIN | DRM_PWAIT | REF_CFG | REF_LIMITS | REF_TIMES | REF_PRIO | REF_COMP | REF_STAT
  | REF_DQ | REF_OFS | REF_PHASE | REF_HOLD_EST | REF_HOLD_TIME | REF_STEP | REF_THETA | REF_THETA_APP | REF_OUT
  | REF_PPSOUT_OFS | REF_PICKOUT_OFS | REF_EVENT | REF_EVT_EN | REF_SW_CNT | MTX_STAT | MTX_DEFAULT_LO
  | MTX_DEFAULT_HI | MTX_CNT | MTX_PEAK | MTX_RATE | MTX_CLR | SHT_STAT | SHT_EVENT | SHT_EVT_EN | SHT_CH_CTL
  | SHT_CH_STAT | SHT_CH_NEXT_LO | SHT_CH_NEXT_HI | SHT_CH_CUR_LO | SHT_CH_CUR_HI | SHT_CH_REMAIN | SHT_CH_COUNT
  | HDL_ROLE | HDL_BOOT | HDL_FW_VER | HDL_PAIR_ERR | HDL_MBOX | HDL_DOORBELL | HDL_BARRIER | HDL_CLEAN_LO
  | HDL_CLEAN_HI | HDL_CLEAN_LEN | HDL_CLEAN_CTL | FSTAT | FMASK | FCOUNT | FFIRST | FINJ | FDETAIL | FPN_LO | FPN_HI
  | GLB_ID | GLB_IDCODE | GLB_TEST | GLB_CTL | GLB_FATAL | GLB_LAST_FATAL | WGE_START | WGE_BUSY | WGE_BOB_OFF
  | WGE_DOM_SET | WGE_DOM_READ | WGE_DOM_HIST
  deriving DecidableEq, Repr

/-- Which half of a 64-bit pair a register is (00 R8). -/
inductive Half where
  | single | lo | hi
  deriving DecidableEq, Repr

/-- One register of a block, or an indexed family of them: its name, its half of a pair, offset, how many, step of the index,
whether it survives a warm restart (00 R7), and its fields. -/
structure RegDesc where
  id : Reg
  half : Half
  off : Nat
  cnt : Nat
  step : Nat
  warm : Bool
  fields : List FieldDesc
  deriving DecidableEq, Repr

/-- A block of the map (19 R517): instances, base, step, span, and its registers. -/
structure BlockDesc where
  count : Nat
  base : Nat
  step : Nat
  span : Nat
  regs : List RegDesc
  deriving DecidableEq, Repr

end Sys2Proof.Machine
end

