-- ==== Sys2Proof/Machine/Bits.lean ====
section
/-! DEFINITION. Bit fields, signs, saturation, rounding and byte order (00 R2, R3, R10): every helper a meaning uses to
take a number apart or to put one together. -/

namespace Sys2Proof.Machine

/-- The field `f` of the register value `x`. -/
def Fld.of (f : Fld) (x : W32) : Nat := x.toNat / 2 ^ f.lo % 2 ^ f.w

/-- The register value `x` with `v` (its low bits) in the field `f`. -/
def Fld.into (f : Fld) (x : W32) (v : Nat) : W32 :=
  BitVec.ofNat 32 (x.toNat / 2 ^ (f.lo + f.w) * 2 ^ (f.lo + f.w) + v % 2 ^ f.w * 2 ^ f.lo + x.toNat % 2 ^ f.lo)

/-- The field lies in the 32 bits of a register. -/
abbrev Fld.fits (f : Fld) : Prop := f.lo + f.w ≤ 32

/-- Two fields of one register share no bit. -/
abbrev Fld.apart (f g : Fld) : Prop := f.lo + f.w ≤ g.lo ∨ g.lo + g.w ≤ f.lo

/-- Bits `[lo + w - 1 : lo]` of `x`. -/
def bits (x lo w : Nat) : Nat := x / 2 ^ lo % 2 ^ w

/-- Bit `n` of `x`. -/
def bit (x n : Nat) : Bool := x / 2 ^ n % 2 == 1

/-- The low `n` bits of `x` read as two's complement (00 R2). -/
def sx (n x : Nat) : Int :=
  let y := x % 2 ^ n
  if 2 * y < 2 ^ n then (y : Int) else (y : Int) - (2 ^ n : Nat)

/-- The low `n` bits of the integer `x` (00 R10: assignment to a narrower type). -/
def low (n : Nat) (x : Int) : Nat := (x % ((2 ^ n : Nat) : Int)).toNat

/-- `x` saturated to the signed range of `n` bits. -/
def satS (n : Nat) (x : Int) : Int :=
  let m : Int := ((2 ^ (n - 1) : Nat) : Int)
  if x < -m then -m else if m ≤ x then m - 1 else x

/-- `x` saturated to a symmetric range: at most `2^(n-1) - 1` in magnitude. -/
def satSym (n : Nat) (x : Int) : Int :=
  let m : Int := ((2 ^ (n - 1) : Nat) : Int) - 1
  if x < -m then -m else if m < x then m else x

/-- `x` saturated at the largest unsigned value of `n` bits. -/
def satU (n x : Nat) : Nat := if x < 2 ^ n then x else 2 ^ n - 1

/-- Arithmetic right shift (00 R10). -/
def sar (x : Int) (n : Nat) : Int := x / ((2 ^ n : Nat) : Int)

/-- `n` as `k` bytes, most significant first (00 R3). -/
def be : Nat → Nat → List Byte
  | 0, _ => []
  | k + 1, n => be k (n / 256) ++ [BitVec.ofNat 8 n]

/-- `n` as `k` bytes, least significant first. -/
def le : Nat → Nat → List Byte
  | 0, _ => []
  | k + 1, n => BitVec.ofNat 8 n :: le k (n / 256)

/-- The number whose bytes are `bs`, most significant first. -/
def ofBe (bs : List Byte) : Nat := bs.foldl (fun a b => a * 256 + b.toNat) 0

/-- The number whose bytes are `bs`, least significant first. -/
def ofLe (bs : List Byte) : Nat := bs.foldr (fun b a => a * 256 + b.toNat) 0

/-- `n` bytes of `bs` from position `off`, most significant first, as a number; bytes past the end count as 0. -/
def beAt (bs : List Byte) (off n : Nat) : Nat :=
  (List.range n).foldl (fun a i => a * 256 + (bs.getD (off + i) 0).toNat) 0

/-- `x` rounded up to a multiple of `m`. -/
def roundUp (x m : Nat) : Nat := (x + m - 1) / m * m

end Sys2Proof.Machine
end

