-- ==== Sys2Proof/Machine/Codes.lean ====
section
/-! DEFINITION. Check codes, digests and signatures: CRC-32C (04 R90), the Ethernet CRC, the tie lane's CRC-8 (03 R71),
SHA-256, HMAC-SHA-256 (15 R415), and Ed25519 over SHA-512 (12 R331). PRESUMED (log 10): the spec names the digests and
the signature; their constants and steps are those of FIPS 180-4, RFC 2104 and RFC 8032. -/

namespace Sys2Proof.Machine

/-- One byte into a reflected 32-bit CRC register. -/
def crcByte (poly c : Nat) (b : Byte) : Nat :=
  (List.range 8).foldl (fun x _ => if x % 2 = 1 then (x / 2) ^^^ poly else x / 2) (c ^^^ b.toNat)

/-- A reflected CRC-32 with initial value and final complement of all ones. -/
def crcReflected (poly : Nat) (bs : List Byte) : Nat := bs.foldl (crcByte poly) 0xFFFFFFFF ^^^ 0xFFFFFFFF

/-- CRC-32C over bytes in order (04 R90). -/
def crc32c (bs : List Byte) : Nat := crcReflected 0x82F63B78 bs

/-- The Ethernet frame check sequence. -/
def crcEther (bs : List Byte) : Nat := crcReflected 0xEDB88320 bs

/-- CRC-8 x^8 + x^2 + x + 1 over the low `n` bits of `x`, most significant first, no reflection, no complement
(03 R71). -/
def crc8 (n x : Nat) : Nat :=
  (List.range n).foldl (fun c i =>
    let top := (c / 128 + x / 2 ^ (n - 1 - i)) % 2
    (c * 2 % 256) ^^^ (if top = 1 then 7 else 0)) 0

/-- The bytes followed by their CRC-32C, most significant byte first. -/
def withCrc (bs : List Byte) : List Byte := bs ++ be 4 (crc32c bs)

/-! ### SHA-2 -/

/-- A SHA-2 function: word width, round constants, the rotations of Σ0, Σ1, σ0 and σ1 (the last of each σ a shift). -/
structure Sha where
  w : Nat
  k : List Nat
  h : List Nat
  big0 : Nat × Nat × Nat
  big1 : Nat × Nat × Nat
  sml0 : Nat × Nat × Nat
  sml1 : Nat × Nat × Nat

/-- Rotation right by `n` in `w` bits. -/
def rotr (w n x : Nat) : Nat := (x / 2 ^ n) ||| (x * 2 ^ (w - n) % 2 ^ w)

/-- One round: the eight working words and the sixteen schedule words, oldest first. -/
def Sha.round (p : Sha) (st : List Nat × List Nat) (k : Nat) : List Nat × List Nat :=
  let m := 2 ^ p.w
  let g (i : Nat) := st.1.getD i 0
  let x (i : Nat) := st.2.getD i 0
  let r3 (t : Nat × Nat × Nat) (v : Nat) := rotr p.w t.1 v ^^^ rotr p.w t.2.1 v ^^^ rotr p.w t.2.2 v
  let rs (t : Nat × Nat × Nat) (v : Nat) := rotr p.w t.1 v ^^^ rotr p.w t.2.1 v ^^^ (v / 2 ^ t.2.2)
  let ch := (g 4 &&& g 5) ^^^ ((m - 1 - g 4) &&& g 6)
  let maj := (g 0 &&& g 1) ^^^ (g 0 &&& g 2) ^^^ (g 1 &&& g 2)
  let t1 := g 7 + r3 p.big1 (g 4) + ch + k + x 0
  let t2 := r3 p.big0 (g 0) + maj
  let nw := (rs p.sml1 (x 14) + x 9 + rs p.sml0 (x 1) + x 0) % m
  ([(t1 + t2) % m, g 0, g 1, g 2, (g 3 + t1) % m, g 4, g 5, g 6], st.2.drop 1 ++ [nw])

/-- One block of sixteen words into the chaining value. -/
def Sha.block (p : Sha) (h ws : List Nat) : List Nat :=
  ((p.k.foldl p.round (h, ws)).1.zip h).map fun q => (q.1 + q.2) % 2 ^ p.w

/-- The message padded to whole blocks: 0x80, zeros, the bit length in two words. -/
def Sha.pad (p : Sha) (bs : List Byte) : List Byte :=
  let blk := 2 * p.w
  let n := bs.length + 1 + p.w / 4
  bs ++ [0x80] ++ List.replicate (roundUp n blk - n) 0 ++ be (p.w / 4) (8 * bs.length)

/-- The digest's bytes. -/
def Sha.hash (p : Sha) (bs : List Byte) : List Byte :=
  let msg := p.pad bs
  let wb := p.w / 8
  let h := (List.range (msg.length / (16 * wb))).foldl (fun h i =>
    let blk := msg.drop (i * 16 * wb)
    p.block h ((List.range 16).map fun j => ofBe ((blk.drop (j * wb)).take wb))) p.h
  h.flatMap (be wb)

/-- The largest `r` below `2 ^ top` whose `e`-th power is at most `n`. -/
def rootFloor (e n top : Nat) : Nat :=
  (List.range top).foldr (fun i r => if (r + 2 ^ i) ^ e ≤ n then r + 2 ^ i else r) 0

/-- The prime numbers up to 409: the first eighty. -/
def smallPrimes : List Nat :=
  (List.range 410).filter fun n => 2 ≤ n && (List.range 21).all fun q => q < 2 || n ≤ q || n % q != 0

/-- The first `w` bits of the fraction of the `e`-th root of each of the first `n` primes: the square roots of eight primes
start the chaining value, the cube roots give one constant per round. -/
def rootWords (e w n : Nat) : List Nat :=
  (smallPrimes.take n).map fun q => rootFloor e (q * 2 ^ (e * w)) (w + 5) % 2 ^ w

/-- SHA-256. -/
def sha256p : Sha where
  w := 32
  k := rootWords 3 32 64
  h := rootWords 2 32 8
  big0 := (2, 13, 22)
  big1 := (6, 11, 25)
  sml0 := (7, 18, 3)
  sml1 := (17, 19, 10)

/-- SHA-512. -/
def sha512p : Sha where
  w := 64
  k := rootWords 3 64 80
  h := rootWords 2 64 8
  big0 := (28, 34, 39)
  big1 := (14, 18, 41)
  sml0 := (1, 8, 7)
  sml1 := (19, 61, 6)

/-- SHA-256 of a byte string. -/
def sha256 (bs : List Byte) : List Byte := sha256p.hash bs

/-- HMAC-SHA-256 under a key of at most 64 bytes. -/
def hmac (key msg : List Byte) : List Byte :=
  let k := key ++ List.replicate (64 - key.length) 0
  sha256 (k.map (· ^^^ 0x5c) ++ sha256 (k.map (· ^^^ 0x36) ++ msg))

/-! ### Ed25519 -/

/-- The field prime 2^255 - 19. -/
def edP : Nat := 2 ^ 255 - 19

/-- The curve constant d. -/
def edD : Nat := 0x52036cee2b6ffe738cc740797779e89800700a4d4141d8ab75eb4dca135978a3

/-- The order of the base point. -/
def edL : Nat := 0x1000000000000000000000000000000014def9dea2f79cd65812631a5cf5d3ed

/-- `b ^ e mod m` over the low `n` bits of `e`. -/
def powMod (m b e n : Nat) : Nat :=
  (List.range n).foldr (fun i a => let s := a * a % m; if e / 2 ^ i % 2 = 1 then s * b % m else s) 1
  |> fun x => x % m

/-- A point in extended coordinates. -/
structure EdPoint where
  x : Nat
  y : Nat
  z : Nat
  t : Nat

/-- Point addition. -/
def EdPoint.add (p q : EdPoint) : EdPoint :=
  let m := edP
  let a := (p.y + m - p.x) * (q.y + m - q.x) % m
  let b := (p.y + p.x) * (q.y + q.x) % m
  let c := 2 * p.t * q.t % m * edD % m
  let dd := 2 * p.z * q.z % m
  let e := (b + m - a) % m
  let f := (dd + m - c) % m
  let g := (dd + c) % m
  let h := (b + a) % m
  ⟨e * f % m, g * h % m, f * g % m, e * h % m⟩

/-- Scalar multiplication by the low 256 bits of `k`. -/
def EdPoint.mul (p : EdPoint) (k : Nat) : EdPoint :=
  (List.range 256).foldr (fun i a => let s := a.add a; if k / 2 ^ i % 2 = 1 then s.add p else s) ⟨0, 1, 1, 0⟩

/-- The base point. -/
def edBase : EdPoint := ⟨0x216936d3cd6e53fec0a4e231fdd6dc5c692cc7609525a7b2c9562d608f25d51a,
  0x6666666666666666666666666666666666666666666666666666666666666658, 1,
  0x67875f0fd78b766566ea4e8e64abe37d20f09f80775152f56dde8ab3a5b7dda3⟩

/-- The point that 32 bytes encode, if any. -/
def edDecode (bs : List Byte) : Option EdPoint :=
  let n := ofLe bs
  let y := n % 2 ^ 255
  let sign := n / 2 ^ 255 % 2
  if edP ≤ y then none
  else
    let u := (y * y + edP - 1) % edP
    let v := (edD * (y * y % edP) + 1) % edP
    let v3 := v * v % edP * v % edP
    let c := u * v3 % edP * powMod edP (u * v3 % edP * (v3 * v % edP) % edP) ((edP - 5) / 8) 255 % edP
    let w := v * (c * c % edP) % edP
    let x := if w = u then some c
             else if (w + u) % edP = 0 then some (c * 0x2b8324804fc1df0b2b4d00993dfbd7a72f431806ad2fe478c4ee1b274a0ea0b0 % edP) else none
    x.bind fun x =>
      if x = 0 ∧ sign = 1 then none
      else
        let x := if x % 2 = sign then x else edP - x
        some ⟨x, y, 1, x * y % edP⟩

/-- The signature `sig` of `msg` verifies under the public key: [S]B = R + [k]A. -/
def edVerify (key msg sig : List Byte) : Bool :=
  let s := ofLe (sig.drop 32)
  match edDecode key, edDecode (sig.take 32) with
  | some a, some r =>
    let k := ofLe (sha512p.hash (sig.take 32 ++ key ++ msg)) % edL
    let l := edBase.mul s
    let q := r.add (a.mul k)
    sig.length == 64 && key.length == 32 && decide (s < edL) && l.x * q.z % edP == q.x * l.z % edP &&
      l.y * q.z % edP == q.y * l.z % edP
  | _, _ => false

end Sys2Proof.Machine
end

