-- ==== Sys2Proof/Machine/Store.lean ====
section
/-! DEFINITION. Sparse storage in one canonical form: a list of key and value pairs, keys strictly rising, no entry
equal to what an unlisted key reads as. Register files, attached memory and every indexed array of the state use it. -/

namespace Sys2Proof.Machine

/-- Key and value pairs; an unlisted key reads as a default that the owner of the storage names. -/
abbrev Sparse (α : Type) := List (Nat × α)

/-- What key `k` holds; `dflt` is what an unlisted key reads as. -/
def Sparse.get {α : Type} (dflt : Nat → α) : Sparse α → Nat → α
  | [], k => dflt k
  | (j, v) :: m, k => if j = k then v else Sparse.get dflt m k

/-- The entries whose keys satisfy `p`; every other key returns to its default. -/
def Sparse.keep {α : Type} (p : Nat → Bool) (m : Sparse α) : Sparse α := m.filter fun e => p e.1

/-- `v` at key `k` in its place among the rising keys. -/
def Sparse.insert {α : Type} : Sparse α → Nat → α → Sparse α
  | [], k, v => [(k, v)]
  | (j, w) :: m, k, v =>
    if k < j then (k, v) :: (j, w) :: m else if k = j then (k, v) :: m else (j, w) :: Sparse.insert m k v

/-- Writes `v` at key `k`, keeping the canonical form: a value equal to the default removes the entry. -/
def Sparse.put {α : Type} [DecidableEq α] (dflt : Nat → α) (m : Sparse α) (k : Nat) (v : α) : Sparse α :=
  if v = dflt k then Sparse.keep (fun j => decide (j ≠ k)) m else Sparse.insert m k v

/-- Keys strictly rising. -/
def Sparse.rising {α : Type} : Sparse α → Bool
  | [] => true
  | [_] => true
  | (i, _) :: (j, w) :: m => decide (i < j) && Sparse.rising ((j, w) :: m)

/-- The canonical form. -/
def Sparse.wf {α : Type} [DecidableEq α] (dflt : Nat → α) (m : Sparse α) : Bool :=
  Sparse.rising m && m.all fun e => decide (e.2 ≠ dflt e.1)

/-- The entries that the values of `vs` make at keys `k`, `k + 1`, …: none for a value that is the default. -/
def Sparse.entries {α : Type} [DecidableEq α] (dflt : Nat → α) : Nat → List α → Sparse α
  | _, [] => []
  | k, v :: vs => if v = dflt k then Sparse.entries dflt (k + 1) vs else (k, v) :: Sparse.entries dflt (k + 1) vs

/-- Writes the values of `vs` at keys `k`, `k + 1`, …. -/
def Sparse.putAll {α : Type} [DecidableEq α] (dflt : Nat → α) (m : Sparse α) (k : Nat) (vs : List α) : Sparse α :=
  let top := k + vs.length
  Sparse.keep (fun j => decide (j < k)) m ++ (Sparse.entries dflt k vs ++ Sparse.keep (fun j => decide (top ≤ j)) m)

/-- The values at keys `k`, …, `k + n - 1` of storage whose keys rise from at least `k`. -/
def Sparse.walk {α : Type} (dflt : Nat → α) : Sparse α → Nat → Nat → List α
  | _, _, 0 => []
  | [], k, n + 1 => dflt k :: Sparse.walk dflt [] (k + 1) n
  | (j, v) :: m, k, n + 1 =>
    if j = k then v :: Sparse.walk dflt m (k + 1) n else dflt k :: Sparse.walk dflt ((j, v) :: m) (k + 1) n

/-- The values at keys `k`, …, `k + n - 1`. -/
def Sparse.getAll {α : Type} (dflt : Nat → α) (m : Sparse α) (k n : Nat) : List α :=
  Sparse.walk dflt (m.dropWhile fun e => decide (e.1 < k)) k n

end Sys2Proof.Machine
end

