-- ==== Sys2Proof/Machine/State.lean ====
section
/-! DEFINITION. The state of the block, as plain data: the register files, every store the spec names that is not a
register, the pins, the outputs last sent, and the queue of waiting commands. `State.reset` is the machine right after
reset. Instants are loom cycles (625 ps), pick numbers are extended: epoch number × 2^48 + PN. -/

namespace Sys2Proof.Machine

/-- Why a step stops with a fault. No command of this block does: every command the spec lists has an effect, and a
command whose condition does not hold changes nothing. -/
inductive Fault where
  /-- Never raised. It stands for a stop that no rule of the spec gives; safe. -/
  | none
  deriving DecidableEq, Repr

/-- Why a command is refused by the model. -/
inductive Refusal where
  /-- Raised by `exec` for a command that has no meaning yet; safe, the machine stops. -/
  | notModelled (mnemonic : String)
  deriving DecidableEq, Repr

/-- A complex integer: a product, a sum, a beam sample, a weight. -/
structure Cpx where
  re : Int
  im : Int
  deriving DecidableEq, Repr

/-! ### Device time and commits (02) -/

/-- A pending commit (R46, R48): the copied shadows, the boundary it names if it names one, the moment of R47, and whether
it takes effect at that moment itself, as one requested without a boundary while PCK is not RUNNING does (R543). -/
structure Commit where
  shadows : Sparse W32
  at_ : Option Nat
  moment : Nat
  atMoment : Bool
  deriving DecidableEq, Repr

/-- A decision to stretch (R37): the pick at which it was decided and the shed boundary at which it takes effect, if
any qualifies. -/
structure StretchWait where
  decided : Nat
  at_ : Option Nat
  deriving DecidableEq, Repr

/-- The pick timer and what waits on it. `mark` is the register file as the current matrix cycle found it (00 R6); `bases`
are the changes of period so far, newest first: the first pick, its instant, the period from it on (02 R28). -/
structure Clock where
  now : Nat
  mark : Sparse W32
  pickStart : Nat
  bases : List (Nat × Nat × Nat)
  second : Option Nat
  armedFrom : Nat
  commit : Option Commit
  syncFrom : Option Nat
  stretch : Option StretchWait
  fwCommit : Bool
  deriving DecidableEq, Repr

/-! ### Warp lanes and frames (03, 04) -/

/-- What a lane hands to the reed, in order: a chunk with its start field and arrival (data UI), an error mark (R85), a
chunk lost to overflow (R68), or a marker with its chunk_count when its CRC held (R69). -/
inductive ReedEntry where
  | chunk (start : Nat) (body : List Byte) (u : Nat)
  | errored
  | lost
  | marker (q : Option Nat)
  deriving DecidableEq, Repr

/-- One window of the adaptation history (R81): eye figure and equaliser settings. -/
structure EyeEntry where
  eye : Nat
  settings : Nat
  deriving DecidableEq, Repr

/-- A physical data lane: the generator of R60 (0 before the first marker), the run of R61, stuffing violations since the
last marker and failed CRCs in a row (R76), the last marker's count and port, whether a block that is not TRAIN has come
since READY, the window's blocks, its IDLE blocks and the windows in a row with an eye of 64 (R79, R80), whether the window began after
a rollback, the history and the rollbacks of the last 256 windows, newest first (R81, R82), and the queue to the reed. -/
structure Lane where
  gen : Nat
  run : Nat
  runBit : Bool
  violations : Nat
  crcFails : Nat
  lastCount : Option Nat
  markerPort : Nat
  nonTrain : Bool
  windowBlocks : Nat
  windowIdle : Nat
  goodEyes : Nat
  afterRollback : Bool
  history : List EyeEntry
  rollbacks : List Bool
  fifo : List ReedEntry
  deriving DecidableEq, Repr

/-- A frame being assembled: its bytes so far, newest first, whether an error mark or slip fell in it, its index, and
whether the receive path or the creel lost a byte of it (R100 code 11). -/
structure FrameAsm where
  bytes : List Byte
  errored : Bool
  index : Nat
  faulty : Bool
  deriving DecidableEq, Repr

/-- A frame that has ended and waits for its checks: its bytes in order, when its last block arrived, whether it was
truncated, and whether a fatal fault had closed the ports by then (17 R477). -/
structure EndedFrame where
  bytes : List Byte
  errored : Bool
  truncated : Bool
  faulty : Bool
  fatal : Bool
  index : Nat
  ended : Nat
  deriving DecidableEq, Repr

/-- An answer waiting for its tie word (R105). -/
structure Answer where
  code : Nat
  index : Nat
  pn32 : Nat
  ended : Nat
  deriving DecidableEq, Repr

/-- A PERIOD word to send (R108, R109): the boundary, its period, and whether it is due now. -/
structure PeriodMsg where
  boundary : Nat
  period : Nat
  due : Bool
  deriving DecidableEq, Repr

/-- A warp port beside its registers: the reed's chunk counter and the arrival of the last chunk it took (data UI), the
frame being assembled and the next frame_index, frames that wait for their checks and answers that wait for their tie word,
the last accepted pick, and the tie lane: the place in its 1,024 words, generator and run, PERIOD words, the last word sent
and its line bits. -/
structure WarpPort where
  chunk : Nat
  lastChunkU : Nat
  frame : Option FrameAsm
  frameIndex : Nat
  ended : List EndedFrame
  answers : List Answer
  lastAccepted : Option Nat
  tieCount : Nat
  tieGen : Nat
  tieRun : Nat
  tieRunBit : Bool
  periods : List PeriodMsg
  tieWord : Nat
  tieLine : List Bool
  deriving DecidableEq, Repr

/-! ### The creel, the looms, long integration (05, 06) -/

/-- A creel slot (R128): the pick it holds, which ports' frames were accepted, the 4,096-bit effective blank mask, and
the sample bytes at 4,096 t + i. `damaged` lists the 64-bit words lost to an uncorrectable error (17 R481). -/
structure CreelSlot where
  pick : Nat
  accepted : Nat
  blank : Nat
  bytes : Sparse Byte
  damaged : List Nat
  deriving DecidableEq, Repr

/-- A bobbin word (R154). -/
structure BobWord where
  re : Int
  im : Int
  fray : Bool
  count : Nat
  deriving DecidableEq, Repr

/-- A cell's dump latch (R121, R122, R132). -/
structure Latch where
  re : Int
  im : Int
  cnt : Nat
  deriving DecidableEq, Repr

/-- A spill-queue entry (06): the pass and word it belongs to, its values and the shed it was admitted in. -/
structure Spill where
  region : Nat
  word : Nat
  re : Int
  im : Int
  bank : Bool
  pass : Nat
  shed : Nat
  deriving DecidableEq, Repr

/-- A shed whose picks the looms compute or whose banks are dumped: its first pick and the boundary that ends it, its
entry and channel, whether its products are kept, its integration period's number, the bank it accumulates in (R545), its
matrix and the spill log that it uses (R165, R166, R338, 10 R275), log2 of S, the regions that hold its sums (owner, region, pass), the regions
(16 × owner + region) that hold only part of it, and the passes ABSENT in it. -/
structure ShedRef where
  start : Nat
  stop : Nat
  ent : Nat
  chan : Nat
  keeps : Bool
  num : Nat
  bank : Bool
  base : Nat
  slog : Nat
  log2 : Nat
  map : List (Nat × Nat × Nat)
  part : List Nat
  absent : List Nat
  deriving DecidableEq, Repr

/-- A slot that some loom computes in this interval: the loom and slot, the pass, and the bobbin and region it adds
into (R132, R149). -/
structure WorkSlot where
  loom : Nat
  slot : Nat
  pass : Nat
  owner : Nat
  region : Nat
  deriving DecidableEq, Repr

/-- A physical loom's stores: two banks of words keyed region × 16,384 + word, the dump latches, the spill queue. `lost` are the
words, by bank and key, that stand replaced after an uncorrectable error (06 R169) until their bank is cleared. -/
structure Loom where
  bank0 : Sparse BobWord
  bank1 : Sparse BobWord
  latch : Sparse Latch
  spills : List Spill
  lost : List (Bool × Nat)
  eccU : Nat
  deriving DecidableEq, Repr

/-- The auto-power unit: per-input shed sums and counts now accumulating, and those of the shed last closed. -/
structure Apu where
  sums : Sparse Nat
  counts : Sparse Nat
  closedSums : Sparse Nat
  closedCounts : Sparse Nat
  pickSums : Sparse Nat
  fault : Bool
  closedFault : Bool
  frayed : List Nat
  closedFrayed : List Nat
  deriving DecidableEq, Repr

/-- A shed with dumps that were late (02 R39) and still wait for its buffer (R171): the looms whose banks hold its sums, and the
auto-power unit with the sums that it closed for the shed, and whether those have been added. -/
structure LateShed where
  shed : ShedRef
  looms : List Nat
  apu : Apu
  apuDone : Bool
  deriving DecidableEq, Repr

/-- An integration period of a channel-table entry (R165, R170, R174, R175): its number, the sheds begun and done, its
first and last pick, the pick period at its first pick, and N. `absent` counts, per pass, the sheds in which it was ABSENT;
`memErr` lists passes (512: the autocorrelations; 1,024 + a pass: every element of its record frays, 17 R481). -/
structure Period where
  num : Nat
  n : Nat
  started : Nat
  done : Nat
  first : Nat
  last : Nat
  pick0 : Nat
  changed : Bool
  absent : Sparse Nat
  replayed : Bool
  memErr : List Nat
  apuFault : Bool
  deriving DecidableEq, Repr

/-- A period that has ended and whose records wait to be queued (R178, R282). `due` says that its PERIOD_END came and was
held; `queues` are the queue references of the passes and, at 512, of the autocorrelations. -/
structure EndedPeriod where
  ent : Nat
  chan : Nat
  base : Nat
  log2 : Nat
  cut : Bool
  per : Period
  queues : List Nat
  due : Bool
  deriving DecidableEq, Repr

/-- A readout of a matrix buffer in progress: entry, buffer, base address (R170, R171). -/
structure Readout where
  ent : Nat
  buf : Nat
  base : Nat
  deriving DecidableEq, Repr

/-- The shed boundary machinery: the shed being computed, the shed being dumped, sheds that wait for a replay, the slots
computed in this interval, whether the bank switch of the last shed boundary is due, the accumulating bank, the dumps
under way and done, negations that wait for the drain (shed, pass), retire requests, the looms retired for wear at the last
boundary with their logical loom and takeover spare (R144), whether a re-placement is due, whether a draft has placed the
looms, the integration periods keyed entry + 4,096 × number, each entry's number, when the ending shed's drain ended and
whether a readout held its dumps (R171, R180), the sheds with late dumps, the loom last served by the spill engine and the
entries drained in this pick (R161). -/
structure Sheds where
  cur : Option ShedRef
  ending : Option ShedRef
  waiting : List ShedRef
  work : List WorkSlot
  flipDue : Bool
  bank : Bool
  dumping : List Nat
  dumped : List Nat
  apuDone : Bool
  negate : List (Nat × Nat)
  retireReq : List Nat
  worn : List (Nat × Option Nat × Option Nat)
  replaceDue : Bool
  placed : Bool
  nums : Sparse Nat
  periods : Sparse Period
  ended : List EndedPeriod
  readouts : List Readout
  drainEnd : Option Nat
  bufHeld : Bool
  late : List LateShed
  turn : Nat
  drainedNow : Nat
  deriving DecidableEq, Repr

/-! ### Harnesses, chains, detectors (07, 08) -/

/-- A weight set (R194): its bank and shed, what it is made from (the bank's base, the gain set's, ν_c, s and P), whether
its generation is complete, the descriptors of its enabled beams, the beams that carry wfault, and the weights keyed
4,096 b + i. -/
structure WeightSet where
  bank : Bool
  shed : Nat
  base : Nat
  gains : Nat
  nu : Nat
  log2 : Nat
  period : Nat
  complete : Bool
  descs : Sparse Nat
  wfault : List Nat
  weights : Sparse Cpx
  deriving DecidableEq, Repr

/-- A swap request (R199). -/
structure SwapReq where
  target : Bool
  len : Nat
  deriving DecidableEq, Repr

/-- A scheduled or running switch (R200, R201): its target, s_0 and F_e. -/
structure Switch where
  target : Bool
  start : Nat
  fEff : Nat
  running : Bool
  deriving DecidableEq, Repr

/-- A generation under way (R196): the shed's first pick, and the pick of the generation start. -/
structure GenJob where
  shed : Nat
  startPick : Nat
  deriving DecidableEq, Repr

/-- The harness setter and the weight store: requests, the switch, the last req_seq seen, the generation under way, the
sets, the sheds whose sets were late (R198), the weight-store words found uncorrectable (shed, bank, beam, group of
four inputs) and the lines of attached memory whose copies in the staging SRAM are lost (17 R479). -/
structure Setter where
  pend : Option SwapReq
  sw : Option Switch
  latched : Option SwapReq
  lastSeq : Nat
  job : Option GenJob
  sets : List WeightSet
  late : List Nat
  badGroups : List (Nat × Bool × Nat × Nat)
  hurt : List Nat
  deriving DecidableEq, Repr

/-- A pick that the harnesses compute: its entry, channel and shed, the enabled beams' descriptors and their bank; the
weights keyed 4,096 b + i of the active bank and, in a switch, the numerator a of R201 and the target's; the queue
references of its voltage beams, its marks, whether a synchronising reset or a weave takes effect at it, and the registers
in force for it (02 R33). -/
structure BeamPick where
  pick : Nat
  ent : Nat
  chan : Nat
  shed : Nat
  descs : Sparse Nat
  bank : Bool
  old : Bool
  oldW : Sparse Cpx
  mix : Option Nat
  newW : Sparse Cpx
  wfault : List Nat
  refs : Sparse Nat
  partialAll : Bool
  partialBeams : List Nat
  reset : Bool
  fresh : Bool
  cfgRegs : Sparse W32
  cfgLive : Sparse W32
  deriving DecidableEq, Repr

/-- An output block that is still open (R227, R228). -/
structure OpenBlock where
  beam : Nat
  chan : Nat
  pick : Nat
  seq : Nat
  shift : Nat
  cfg : Nat
  flags : Nat
  settle : Nat
  count : Nat
  bytes : List Byte
  deriving DecidableEq, Repr

/-- The series state of a chain or a detector (R230): delay lines newest first, the resampler's time accumulator, the
detector's sub-sums, `seq`, and the settling samples left. -/
structure Series where
  hb : List (List Cpx)
  odd : List Bool
  taps : List Cpx
  inCount : Nat
  tacc : Nat
  subs : List Nat
  cur : Nat
  curN : Nat
  seq : Nat
  settle : Nat
  gap : Bool
  started : Bool
  deriving DecidableEq, Repr

/-- What the prefetch of a record brought: nothing yet, a record with its tag, a failed read, or a failure that is reported
already (R232). -/
inductive Prefetch where
  | none | arrived (tag : Nat) (rec_ : Option Series) | failed | unusable
  deriving DecidableEq, Repr

/-- A chain (0 to 127) or detector (128 to 639): its live state (none: cleared), the prefetched record, the write-back
buffer (record address, tag, state), and the open block. -/
structure Unit where
  live : Option Series
  pre : Prefetch
  wb : Option (Nat × Nat × Option Series)
  open_ : Option OpenBlock
  deriving DecidableEq, Repr

/-- The chains and detectors together: the units, the records saved in state areas keyed by record address, the
channel-table entry whose state is live with its state area's base, the generation live when the last pick was processed,
the pick of the last synchronising reset, the pick at which the woven draft begins, and the blocks closed in this interval
(unit, queue reference, block). -/
structure Chains where
  units : Sparse Unit
  saved : Sparse (Option Series)
  liveEnt : Option Nat
  liveBase : Nat
  liveTag : Nat
  resetAt : Option Nat
  freshAt : Option Nat
  closed : List (Nat × Nat × OpenBlock)
  deriving DecidableEq, Repr

/-! ### Treadle engines (09) -/

/-- A detector-FIFO entry: value and tag without the clamp bit (R249), and whether it is settling. -/
structure DetEntry where
  value : Nat
  tag : Nat
  deriving DecidableEq, Repr

/-- An auto-power FIFO entry: 16 sums and a tag (R248). -/
structure ApEntry where
  lanes : List Nat
  tag : Nat
  pick : Nat
  deriving DecidableEq, Repr

/-- Engine state of R240 and its streams. Vector and accumulator registers are keyed 16 × register + lane; a pending length
is 0 when there is none. `badData` are the data-memory words lost to an uncorrectable error (R257); `busy` counts the busy
cycles since the last WAITP returned (none before the first); `slow` is the register that a 2-cycle instruction has just
written (S k: k, V k: 16 + k, ACC n: 32 + n); `trigged` says that the engine pick has presented its trigger; `startAt` and
`fifoFrom` are the pick of ENGINE_START and of the first interval whose stream entries are taken (R256). `handed` are the
registers in force for the pick that this interval hands to the engine, `cfg` those for the engine's pick (02 R33). -/
structure Engine where
  v : Sparse Int
  s : Sparse Int
  acc : Sparse Int
  a : Sparse Nat
  b : Sparse Nat
  l : Sparse Nat
  lPend : Sparse Nat
  pc : Nat
  prog : Sparse (BitVec 64)
  data : Sparse W32
  badData : List Nat
  ap : List ApEntry
  det : List DetEntry
  event : Bool
  pick : Nat
  busy : Option Nat
  slow : Option Nat
  trigged : Bool
  startAt : Option Nat
  fifoFrom : Option Nat
  handed : Option (Sparse W32 × Sparse W32)
  cfg : Option (Sparse W32 × Sparse W32)
  deriving DecidableEq, Repr

/-! ### Journal, capture, replay, ledger (10) -/

/-- A segment of the ring (R259 to R261): the span it holds, its place in the order of opening, and the picks written in it. -/
structure Seg where
  span : Option Nat
  opened : Nat
  openPick : Nat
  lastPick : Nat
  deriving DecidableEq, Repr

/-- A capture slot beside its registers (R264 to R274). `lastDir` is what the readout has found of the window's last pick: its
segment, its directory entry, whether that failed. -/
structure Capture where
  first : Nat
  last : Nat
  trig : Nat
  sources : Nat
  merged : Nat
  cause : Nat
  segs : List Nat
  ports : Nat
  wantRead : Bool
  autoRelease : Bool
  lastByte : Option (Nat × Nat)
  lastDir : Option (Option Nat × List Byte × Bool)
  nPieces : Nat
  deriving DecidableEq, Repr

/-- A replay (R277 to R283): `slots` are the retired loom's slots and passes, `staged` and `computed` count its picks, and
`computing` says that the replaying loom computes the next one in this interval. `hurt` are the passes whose words in the parked
bank were replaced (06 R169). -/
structure Replay where
  logical : Nat
  retired : Nat
  spare : Option Nat
  takeover : Nat
  shed : ShedRef
  first : Nat
  last : Nat
  slots : List (Nat × Nat)
  staged : Nat
  computed : Nat
  computing : Bool
  parked : Option Nat
  hurt : List Nat
  deriving DecidableEq, Repr

/-- An event entry of the ledger (R287). -/
structure LedEvent where
  ty : Nat
  seq : Nat
  pick : Nat
  body : List Byte
  ok : Bool
  deriving DecidableEq, Repr

/-- An entry of a ledger table (R286, R288): its sequence number, when it was written, what it says, whether its CRC holds. -/
structure LedEntry where
  seq : Nat
  at_ : Nat
  ok : Bool
  val : List Nat
  deriving DecidableEq, Repr

/-- The journal block. `landing` are slots and directory entries (pick, address, bytes) that are not yet readable, `opens` counts
openings, `unjournalled` lists the spans of R262 and `gone` the ranges of picks overwritten (R261, R265). `quiesced` is
`some false` from a warm reset's request and `some true` from its quiesce's end until the device resumes at `resumePick`;
`quiesceBad` says that the quiesce has met an uncorrectable error (R290 to R292). `lastTrig` is the last pin or engine trigger:
its T, the slot it took (16: refused), and whether TRIG_IN and an engine are in it (R266). `copy0` and `copy1` are the event
rings, newest first; `tab0` and `tab1` the tables, keyed 65,536 × area + index; `table` is what they hold of the blocks'
registers since the last quiesce (R286, R288). -/
structure Journal where
  segs : Sparse Seg
  cur : Option Nat
  landing : List (Nat × Nat × List Byte)
  opens : Nat
  unjournalled : List Nat
  gone : List (Nat × Nat)
  captures : Sparse Capture
  serial : Nat
  replays : List Replay
  copy0 : List LedEvent
  copy1 : List LedEvent
  tab0 : Sparse LedEntry
  tab1 : Sparse LedEntry
  tabSeq : Nat
  quiesced : Option Bool
  quiesceBad : Bool
  resumePick : Option Nat
  reopen : Bool
  lastTrig : Option (Nat × Nat × Bool × Bool)
  table : Sparse W32
  deriving DecidableEq, Repr

/-! ### Cloth ports and spool queues (11) -/

/-- A closed bolt that is still in its ring: where its data lies, what its header said, when it was last sent and the dev_tag that
it was first sent with (R311). -/
structure Bolt where
  seq : Nat
  start : Nat
  len : Nat
  first : Nat
  items : Nat
  lost : Nat
  sent : Option Nat
  tag : Nat
  deriving DecidableEq, Repr

/-- A spool queue. Stream positions count bytes from the cold start (R299); `starts` are those of the items that begin in the
ring. -/
structure Queue where
  next : Nat
  base : Nat
  wr : Nat
  free : Nat
  openAt : Nat
  openSince : Option Nat
  openFirst : Option Nat
  openItems : Nat
  starts : List Nat
  lostNow : Nat
  lost : Nat
  retxCount : Nat
  bolts : List Bolt
  retx : List Nat
  moved : Bool
  timeout : Nat
  expiries : Nat
  timer : Option Nat
  stalled : Bool
  port : Option Nat
  lastPort : Nat
  lastSend : Nat
  tokens : Nat
  tokensAt : Nat
  hbDue : Bool
  deriving DecidableEq, Repr

/-- A cloth port beside its registers: the last frame sent, why it failed (1 link, 2 fault, 3 disabled), whether it failed
since the cold start, the state it left at a loss of lock, since when it proves, whose turn it was (R314, keyed 4 × kind +
priority), and the retransmissions sent (end, duration) of R315. -/
structure Cloth where
  lastFrame : List Byte
  cause : Nat
  failedOnce : Bool
  before : Nat
  provingFrom : Option Nat
  turns : Sparse Nat
  retxLog : List (Nat × Nat)
  deriving DecidableEq, Repr

/-! ### Drafts (12) -/

/-- An armed weave or unweave (R348, R351, R357). -/
structure Armed where
  w : Nat
  unweave : Bool
  deadline : Nat
  changesP : Bool
  prepared : Bool
  deriving DecidableEq, Repr

/-- The two draft slots (R326). `written` holds the staging bytes written since the slot was last EMPTY, as half-open
ranges in rising order. -/
structure Drafts where
  slot0 : Sparse Byte
  slot1 : Sparse Byte
  woven1 : Bool
  written : List (Nat × Nat)
  armed : Option Armed
  deriving DecidableEq, Repr

/-! ### Attached memory (13) -/

/-- An access that a controller has accepted: its traffic, where it lies, whether it changes memory, whether the matrix still owes its
master the response, and when it came. Its effect on memory is made when it is accepted (R380, log 79). -/
structure MemSlot where
  user : MemUser
  addr : Nat
  len : Nat
  writes : Bool
  owed : Bool
  since : Nat
  deriving DecidableEq, Repr

/-- A DRAM channel beside its registers: sensor failures in a row; per bank the open row, the marked rows and the activates since
its last RFM command (R377, R378); the activates at which the module asks for one; the generator of R377; and the accesses
that the controller has accepted and that wait for a command slot, oldest first (R379 to R382). A bank is keyed
2 × bank + rank. -/
structure DramCh where
  sensorFails : Nat
  rows : Sparse (Option Nat)
  marks : Sparse (List Nat)
  acts : Sparse Nat
  rfm : Option Nat
  draw : W32
  queue : List MemSlot
  deriving DecidableEq, Repr

/-! ### Reference (14) -/

/-- The conditions of R393 that a reference now holds. -/
structure RefCond where
  clock : Bool
  nominal : Bool
  pulse : Bool
  window : Bool
  deriving DecidableEq, Repr

/-- The DPLL's conditions, the loom cycles of slew of θ short of the next picosecond (R404), and the outputs of R407: the
offsets written with the moments from which they may apply, those in force, the pulses running and when they end, and the second and
the boundary that had their pulse last. `dpll` is
the DPLL output's own offset from 16 × LOCLK at the last measurement. `slewLeft` is what a switch has still to slew, in ps,
and `slewPart` its loom cycles short of the next one; `moved` is by how much switches have moved the device second in all, and
`seenAt` what it was when each reference's phase was measured (R398, R400). -/
structure RefState where
  cond : Sparse RefCond
  dpll : Int
  slewLeft : Int
  slewPart : Nat
  moved : Int
  seenAt : Sparse Int
  slewFrac : Nat
  newPps : List (Int × Nat)
  newPick : List (Int × Nat)
  ppsOfs : Int
  pickOfs : Int
  ppsOut : Bool
  pickOut : Bool
  ppsEnd : Nat
  pickEnd : Nat
  ppsDone : Option Nat
  pickDone : Option Nat
  deriving DecidableEq, Repr

/-! ### Rosesque and settings (15, 18) -/

/-- A heddle port's addresses (R411). -/
structure Net where
  mac : Nat
  ip : Nat
  udp : Nat
  deriving DecidableEq, Repr

/-- A notice destination: the port and the endpoint (R427 SET_HOST). -/
structure Dest where
  port : Nat
  ep : Endpoint
  deriving DecidableEq, Repr

/-- The contents of the settings store (18 R512). -/
structure Settings where
  net0 : Option Net
  net1 : Option Net
  primary : Option Dest
  alternate : Option Dest
  rate : Nat
  rto : Nat
  key : Option (List Byte)
  draftKeys : Sparse (List Byte)
  session : Nat
  incarn : Nat
  retired : List (Nat × Nat)
  bobOff : List Nat
  domSet : Sparse Nat
  domHist : Sparse W32
  rejected : Nat × Nat × Nat × Nat
  deriving DecidableEq, Repr

/-- What a settings command changes (15 R428): a port's addresses, a destination, NOTICE_CFG's values, the installation key, all
the keys, a draft verification key. -/
inductive SettingChange where
  | net (port : Nat) (n : Net)
  | host (primary : Bool) (x : Dest)
  | notices (rate rto : Nat)
  | key (k : List Byte)
  | deprovision
  | draftKey (slot : Nat) (k : List Byte)
  deriving DecidableEq, Repr

/-- A settings store copy (R512). -/
structure StoreCopy where
  layout : Nat
  seq : Nat
  body : Settings
  deriving DecidableEq, Repr

/-- A notice (R436, R437). -/
structure Notice where
  nseq : Nat
  ty : Nat
  severity : Nat
  count : Nat
  firstPick : Nat
  lastPick : Nat
  subject : Nat
  ref : List Byte
  pairs : List (Nat × Nat)
  sent : Bool
  expiries : Nat
  timeout : Nat
  sentAt : Nat
  deriving DecidableEq, Repr

/-- A message accepted and not yet executed (R425), with the key that authenticated it and its port's addresses as it arrived
(R415, R428). -/
structure Waiting where
  hdr : HostHdr
  kind : Nat
  code : Nat
  body : List Byte
  key : List Byte
  net : Net
  deriving DecidableEq, Repr

/-- A reply in the cache (R418): the message it answers, and the UDP payload. -/
structure Reply where
  hdr : HostHdr
  payload : List Byte
  deriving DecidableEq, Repr

/-- A chunk of a MEM_READ that waits to be sent (R435, R458), with the key and the addresses that its command arrived under, and
whether HDL_BARRIER.held has counted it. -/
structure HeldChunk where
  hdr : HostHdr
  key : List Byte
  net : Net
  addr : Nat
  len : Nat
  last : Bool
  counted : Bool
  deriving DecidableEq, Repr

/-- A piece buffer (R434). -/
structure PieceBuf where
  piece : Option Nat
  bytes : Sparse Byte
  written : List (Nat × Nat)
  deriving DecidableEq, Repr

/-- The firmware's protocol state. -/
structure Rosesque where
  cfg : Settings
  store0 : Option StoreCopy
  store1 : Option StoreCopy
  dirty : List (Nat × SettingChange)
  h : Nat
  accepted : List Nat
  cache : List Reply
  waiting : List Waiting
  devSeq : Nat
  queue : List Notice
  nseq : Nat
  dropped : Nat
  dropFirst : Nat
  dropLast : Nat
  released : Bool
  tokens : Nat
  tokensAt : Nat
  onAlternate : Bool
  linkUp0 : Bool
  linkUp1 : Bool
  linkAt0 : Nat
  linkAt1 : Nat
  ackSinceUp : Bool
  counters : Sparse Nat
  tx0 : List (List Byte)
  tx1 : List (List Byte)
  held : List HeldChunk
  pieces : List PieceBuf
  programming : List (Nat × List Byte × Nat)
  hdrUp : Bool
  coldAt : Nat
  deriving DecidableEq, Repr

/-! ### Flash and start-up (18) -/

/-- A boot record (R502). -/
structure BootRec where
  state : Nat
  seq : Nat
  run : Nat
  trials : Nat
  reason : Nat
  warmOk : Nat
  vAct : Nat
  vPrev : Nat
  vStag : Nat
  deriving DecidableEq, Repr

/-- Where the start stands: held in reset, in the boot ROM, an activation copy in progress, or firmware running. -/
inductive StartPhase where
  | off | rom | copyPrev | copyAct | loaded | running | stuck
  deriving DecidableEq, Repr

/-- The flash (R501) and the start in progress: boot record copies, banks that still hold the delivered image (0 active, 1
previous, log 11), pieces marked stored and piece 0's SHA-256, the bytes of the banks; the phase of the start, its kind,
whether it is a TRIAL start, whether the previous bank runs, UPDATE events that firmware is to report with the other
version, whether attached memory is in use, and the settings layout found at this start (R516; 0 when no copy was valid). -/
structure Boot where
  rec0 : Option BootRec
  rec1 : Option BootRec
  delivered : List Nat
  stored : List Nat
  sha0 : List Byte
  flash : Sparse Byte
  phase : StartPhase
  warm : Bool
  trialRun : Bool
  usePrev : Bool
  note : List (Nat × Nat)
  dramReady : Bool
  found : Nat
  deriving DecidableEq, Repr

/-! ### Heddle pairs, shuttle, wear (16, 17) -/

/-- A descriptor of the shuttle engine (R460). -/
structure Desc where
  src : Nat
  dst : Nat
  len : Nat
  srcW : Nat
  dstW : Nat
  inc : Nat
  flags : Nat
  next : Nat
  deriving DecidableEq, Repr

/-- Heddle pairs, clean slots and the shuttle engine beside their registers: when each pair last wrote kick, the dirty bytes
that each busy slot is writing back, the descriptor fetched, and the clean slots that it waits
for; and the memory requests that wait at their masters' interfaces, oldest first (R454). -/
structure Heddle where
  kick0 : Nat
  kick1 : Nat
  dirty : Sparse (List (Nat × Byte))
  desc : Option Desc
  waitSlots : List Nat
  atPort : List MemAsk
  deriving DecidableEq, Repr

/-- The day's re-plan in progress (R487, 20 R537): each domain's new code, the rail code commanded, attempts made. -/
structure Replan where
  codes : List (Nat × Nat)
  rail : Nat
  tries : Nat
  deriving DecidableEq, Repr

/-- The core supply's rail code and the re-plan that waits for a higher one (20 R535, R537); the attempts at a command outside a
re-plan that has not settled yet (20 R538), and the last VOUT_COMMAND on the VR bus, with the address it went to (20 R534), none
since a cold reset; the fatal fault in force: whether frames are
answered with code 11 already, when it was raised and whether by injection (R477, R478); the WRP_REJ counts last reported,
keyed 16 × port + code (R476); the blocks whose fault has taken their loom, port or pair away since it was last reported (R475), by
base; the source that go armed in each block, by base (R483); the IEEE 1149.1 instruction in effect and whether it is one of
those that a locked port offers, none for BYPASS (R485). -/
structure Supply where
  rail : Nat
  plan : Option Replan
  settling : Option Nat
  vout : Option (BitVec 7 × BitVec 16)
  fatalReject : Bool
  fatalAt : Option Nat
  fatalInj : Bool
  rejSeen : Sparse Nat
  took : List Nat
  armedSrc : Sparse Nat
  tap : Option (Nat × Bool)
  deriving DecidableEq, Repr

/-! ### The device and the state -/

/-- Everything but the command queue. `hot` are the bits of the register file that hardware has set in the current matrix cycle,
by address (00 R6). -/
structure Device where
  held : Bool
  powered : Bool
  testen : Bool
  freeN : Nat
  tm : Clock
  regs : Sparse W32
  hot : Sparse W32
  live : Sparse W32
  rlatch : Sparse (Option (Nat × W32))
  wlatch : Sparse (Option (Nat × W32))
  lanes : Sparse Lane
  ports : Sparse WarpPort
  creel : Sparse CreelSlot
  looms : Sparse Loom
  apu : Apu
  sheds : Sheds
  setter : Setter
  beams : Option BeamPick
  apBuf : Option (Nat × Sparse Nat)
  chains : Chains
  engines : Sparse Engine
  jrn : Journal
  queues : Sparse Queue
  cloth : Sparse Cloth
  drafts : Drafts
  mem : Sparse Byte
  poison : List Nat
  drm : Sparse DramCh
  ref : RefState
  rsq : Rosesque
  boot : Boot
  hdl : Heddle
  sup : Supply
  trigAck : Option Nat
  deriving DecidableEq, Repr

/-- What a cold reset leaves of device time (02 R26, R44): STOPPED, PN and epoch zero, no device second. -/
def Clock.cold : Clock :=
  { now := 0, mark := [], pickStart := 0, bases := [], second := none, armedFrom := 0, commit := none,
    syncFrom := none, stretch := none, fwCommit := false }

/-- The auto-power unit with nothing summed. -/
def Apu.cold : Apu :=
  { sums := [], counts := [], closedSums := [], closedCounts := [], pickSums := [], fault := false, closedFault := false,
    frayed := [], closedFrayed := [] }

/-- No shed, no period, accumulating bank 0 (06 R545). -/
def Sheds.cold : Sheds :=
  { cur := none, ending := none, waiting := [], work := [], flipDue := false, bank := false, dumping := [],
    dumped := [], apuDone := false, negate := [], retireReq := [], worn := [], replaceDue := false, placed := false,
    nums := [], periods := [], ended := [], readouts := [], drainEnd := none, bufHeld := false, late := [], turn := 67,
    drainedNow := 0 }

/-- The harness setter idle, no set made. -/
def Setter.cold : Setter :=
  { pend := none, sw := none, latched := none, lastSeq := 0, job := none, sets := [], late := [], badGroups := [],
    hurt := [] }

/-- No chain or detector has state. -/
def Chains.cold : Chains :=
  { units := [], saved := [], liveEnt := none, liveBase := 0, liveTag := 0, resetAt := none, freshAt := none, closed := [] }

/-- An empty journal. -/
def Journal.cold : Journal :=
  { segs := [], cur := none, landing := [], opens := 0, unjournalled := [], gone := [], captures := [], serial := 0,
    replays := [], copy0 := [], copy1 := [], tab0 := [], tab1 := [], tabSeq := 0, quiesced := none, quiesceBad := false,
    resumePick := none, reopen := true, lastTrig := none, table := [] }

/-- Both draft slots EMPTY (12 R326). -/
def Drafts.cold : Drafts := { slot0 := [], slot1 := [], woven1 := false, written := [], armed := none }

/-- FREE_RUN with nothing qualified (14 R402); outputs low, offsets 0. -/
def RefState.cold : RefState :=
  { cond := [], dpll := 0, slewLeft := 0, slewPart := 0, moved := 0, seenAt := [], slewFrac := 0, newPps := [], newPick := [], ppsOfs := 0, pickOfs := 0, ppsOut := false,
    pickOut := false, ppsEnd := 0, pickEnd := 0, ppsDone := none, pickDone := none }

/-- The settings a device starts from when both copies are invalid (18 R512): unprovisioned, rate 100, rto 100 ms. -/
def Settings.default : Settings :=
  { net0 := none, net1 := none, primary := none, alternate := none, rate := 100, rto := 100, key := none, draftKeys := [],
    session := 0, incarn := 0, retired := [], bobOff := [], domSet := [], domHist := [], rejected := (0, 0, 0, 0) }

/-- Management state with an empty queue and no session; both heddle links are up (log 83). -/
def Rosesque.cold : Rosesque :=
  { cfg := Settings.default, store0 := none, store1 := none, dirty := [], h := 0, accepted := [], cache := [],
    waiting := [], devSeq := 0, queue := [], nseq := 1, dropped := 0, dropFirst := 0, dropLast := 0, released := false, tokens := 102400000000, tokensAt := 0,
    onAlternate := false, linkUp0 := true, linkUp1 := true, linkAt0 := 0, linkAt1 := 0, ackSinceUp := false,
    counters := [], tx0 := [], tx1 := [], held := [], pieces := [], programming := [],
    hdrUp := false, coldAt := 0 }

/-- The boot record of a device as delivered (log 11): IDLE, the active bank runs. -/
def BootRec.delivered : BootRec :=
  { state := 0, seq := 1, run := 0, trials := 0, reason := 0, warmOk := 0,
    vAct := (List.range 4).foldl (fun a k => a * 256 + (Config.deliveredImage (4 + k)).toNat) 0, vPrev := 0, vStag := 0 }

/-- The boot ROM about to run; the active bank holds the delivered image, the rest of the flash is erased (log 11). -/
def Boot.cold : Boot :=
  { rec0 := some BootRec.delivered, rec1 := none, delivered := [0], stored := [], sha0 := [], flash := [], phase := .rom,
    warm := false, trialRun := false, usePrev := false, note := [], dramReady := false, found := 0 }

/-- Watchdogs at zero, no clean, no descriptor. -/
def Heddle.cold : Heddle := { kick0 := 0, kick1 := 0, dirty := [], desc := none, waitSlots := [], atPort := [] }

/-- The regulator at code 80, 0.82 V (20 R536); no plan, no fatal fault. -/
def Supply.cold : Supply :=
  { rail := 80, plan := none, settling := none, vout := none, fatalReject := false, fatalAt := none, fatalInj := false, rejSeen := [], took := [], armedSrc := [],
    tap := none }

/-- The device as a cold reset leaves it at the rising edge of RST_N (18 R495, R496). -/
def Device.cold : Device :=
  { held := false, powered := true, testen := false, freeN := 0, tm := Clock.cold, regs := [], hot := [], live := [], rlatch := [],
    wlatch := [], lanes := [], ports := [], creel := [], looms := [], apu := Apu.cold, sheds := Sheds.cold,
    setter := Setter.cold, beams := none, apBuf := none, chains := Chains.cold, engines := [], jrn := Journal.cold,
    queues := [], cloth := [], drafts := Drafts.cold, mem := [], poison := [], drm := [], ref := RefState.cold,
    rsq := Rosesque.cold, boot := Boot.cold, hdl := Heddle.cold, sup := Supply.cold, trigAck := none }

/-- The whole state: the device and the commands that wait, first in, first out. -/
structure State where
  dev : Device
  pending : List Instr
  deriving DecidableEq, Repr

/-- The machine right after reset: the device of `Device.cold`, no command waiting. -/
def State.reset : State := { dev := Device.cold, pending := [] }

end Sys2Proof.Machine
end

