-- ==== Sys2Proof/Machine/Flash.lean ====
section
/-! DEFINITION. The flash (18 R501 to R505): the boot record's two copies, the banks and what the checks of an image are,
the settings store's two copies, and the bytes that the flash window shows. -/

/-- The contents of a settings store copy, whose encoding 18 R512 calls internal to each layout version (log 9): the layout, and
what they hold. -/
opaque Sys2Proof.Config.storeContents : Nat → Sys2Proof.Machine.Settings → List (BitVec 8)

namespace Sys2Proof.Machine

/-! ### The boot record (R502, R503) -/

/-- The record that a reader takes: the valid copy with the higher seq. -/
def Boot.newest (x : Boot) : Option BootRec :=
  match x.rec0, x.rec1 with
  | some a, some b => if a.seq < b.seq then some b else some a
  | some a, none => some a
  | none, r => r

/-- The record in force; with no valid copy, IDLE and the active bank (log 14). -/
def Boot.record (x : Boot) : BootRec :=
  x.newest.getD { state := 0, seq := 0, run := 0, trials := 0, reason := 0, warmOk := 0, vAct := 0, vPrev := 0, vStag := 0 }

/-- A new record goes into the copy with the lower seq, or into an invalid one, with seq increased by one. -/
def Boot.write (x : Boot) (r : BootRec) : Boot :=
  let r := { r with seq := x.record.seq + 1 }
  match x.rec0, x.rec1 with
  | none, _ => { x with rec0 := some r }
  | some _, none => { x with rec1 := some r }
  | some a, some b => if a.seq < b.seq then { x with rec0 := some r } else { x with rec1 := some r }

/-- The 64 bytes of a record. -/
def BootRec.enc (r : BootRec) : List Byte :=
  withCrc (be 2 0x4252 ++ be 1 1 ++ be 1 r.state ++ be 8 r.seq ++ be 1 r.run ++ be 1 r.trials ++ be 1 r.reason ++
    be 1 r.warmOk ++ be 4 r.vAct ++ be 4 r.vPrev ++ be 4 r.vStag ++ List.replicate 32 0)

/-! ### Banks and images (R504, R505) -/

/-- The flash offset of bank 0 (active), 1 (previous) or 2 (staging). -/
def flashBank (b : Nat) : Nat := 0x1000000 * (b + 1)

/-- Byte `k` of bank `b`. -/
def Boot.bankByte (x : Boot) (b k : Nat) : Byte :=
  if x.delivered.contains b then Config.deliveredImage k else Sparse.get (fun _ => (0xFF : Byte)) x.flash (flashBank b + k)

/-- `n` bytes from `off` of an image given by its bytes. -/
def imgBytes (f : Nat → Byte) (off n : Nat) : List Byte := (List.range n).map fun i => f (off + i)

/-- An `n`-byte field at `off` of an image. -/
def imgN (f : Nat → Byte) (off n : Nat) : Nat := ofBe (imgBytes f off n)

/-- The image verification key (R504). -/
def imageKeyBytes : List Byte := (List.range 32).map Config.imageKey

/-- The manifest's own fields meet R504, and its signature verifies. -/
def manifestOk (f : Nat → Byte) : Bool :=
  imgN f 0 2 == 0x4D46 && imgN f 2 1 == 1 && imgN f 3 1 == 5 && imgN f 4 4 != 0 && decide (imgN f 8 4 ≤ 16777216) &&
  decide (imgN f 14 2 ≤ imgN f 12 2) && imgN f 16 1 == 0x41 && decide (imgN f 17 1 < 2) && imgN f 18 46 == 0 &&
  ((List.range 5).all fun k =>
    let p := 64 + 48 * k
    decide (1 ≤ imgN f p 2) && decide (imgN f p 2 ≤ 5) && imgN f (p + 2) 2 == 0 && imgN f (p + 8) 4 != 0 &&
      imgN f (p + 12) 4 == 0) &&
  edVerify imageKeyBytes (imgBytes f 0 304) (imgBytes f 304 64)

/-- The checks of R505. -/
def imageOk (f : Nat → Byte) : Bool :=
  let part (k : Nat) : Nat × Nat := (imgN f (64 + 48 * k + 4) 4, imgN f (64 + 48 * k + 8) 4)
  let types := (List.range 5).map fun k => imgN f (64 + 48 * k) 2
  manifestOk f && types.eraseDups.length == 5 &&
  ((List.range 5).all fun k =>
    let (o, n) := part k
    decide (368 ≤ o) && o % 64 == 0 && decide (o + n ≤ imgN f 8 4) &&
      ((List.range k).all fun j =>
        let (o', n') := part j
        decide (o + n ≤ o') || decide (o' + n' ≤ o)) &&
      imgBytes f (64 + 48 * k + 16) 32 == sha256 (imgBytes f o n))

/-- Bank `b` passes its checks; the delivered image does (log 11). -/
def Boot.bankOk (x : Boot) (b : Nat) : Bool := x.delivered.contains b || imageOk (x.bankByte b)

/-- Copies bank `a` into bank `b`. -/
def Boot.copyBank (x : Boot) (a b : Nat) : Boot :=
  let kept := Sparse.keep (fun k => !(decide (flashBank b ≤ k) && decide (k < flashBank b + 0x1000000))) x.flash
  let old := x.flash.filter fun e => decide (flashBank a ≤ e.1) && decide (e.1 < flashBank a + 0x1000000)
  let new := old.map fun e => (e.1 - flashBank a + flashBank b, e.2)
  { x with
    flash := new.foldl (fun m e => Sparse.put (fun _ => (0xFF : Byte)) m e.1 e.2) kept
    delivered := (x.delivered.filter fun c => c != b) ++ (if x.delivered.contains a then [b] else []) }

/-- The pieces of the staged image: ⌈image_len / 65,536⌉, by the manifest in the staging bank, 0 before piece 0 is stored. -/
def Boot.pieceTotal (x : Boot) : Nat :=
  if x.stored.contains 0 then (imgN (x.bankByte 2) 8 4 + 65535) / 65536 else 0

/-- The bank that runs, or is to run. -/
def Boot.running (x : Boot) : Nat := if x.usePrev then 1 else 0

/-- The version of the firmware that runs. -/
def Boot.version (x : Boot) : Nat := imgN (x.bankByte x.running) 4 4

/-- The settings layout that the running image writes, and the oldest that it can migrate. -/
def Boot.layout (x : Boot) : Nat := imgN (x.bankByte x.running) 12 2

/-- The oldest layout that the running image migrates. -/
def Boot.oldest (x : Boot) : Nat := imgN (x.bankByte x.running) 14 2

/-! ### The settings store (R512) -/

/-- The valid copy with the higher seq. -/
def Rosesque.store (x : Rosesque) : Option StoreCopy :=
  match x.store0, x.store1 with
  | some a, some b => if a.seq < b.seq then some b else some a
  | some a, none => some a
  | none, c => c

/-- Writes the contents `body` into the other copy, as R503 does for the boot record. -/
def Rosesque.save (x : Rosesque) (layout : Nat) (body : Settings) : Rosesque :=
  let n : Nat := match x.store with
    | some c => c.seq + 1
    | none => 1
  let c : StoreCopy := { layout := layout, seq := n, body := body }
  match x.store0, x.store1 with
  | none, _ => { x with store0 := some c }
  | some _, none => { x with store1 := some c }
  | some a, some b => if a.seq < b.seq then { x with store0 := some c } else { x with store1 := some c }

/-- Changes the settings in force. -/
def Device.setCfg (d : Device) (f : Settings → Settings) : Device := { d with rsq := { d.rsq with cfg := f d.rsq.cfg } }

/-- The settings after change `x` (15 R427, R428). -/
def SettingChange.apply (x : SettingChange) (c : Settings) : Settings :=
  match x with
  | .net port n => if port = 0 then { c with net0 := some n } else { c with net1 := some n }
  | .host primary x => if primary then { c with primary := some x } else { c with alternate := some x }
  | .notices rate rto => { c with rate := rate, rto := rto }
  | .key k => { c with key := some k }
  | .deprovision => { c with key := none, draftKeys := [] }
  | .draftKey slot k => { c with draftKeys := Sparse.put (fun _ => []) c.draftKeys slot k }

/-- The contents that the store holds; those of a device without a valid copy otherwise. -/
def Rosesque.stored (x : Rosesque) : Settings := match x.store with
  | some c => c.body
  | none => Settings.default

/-- The settings in force are stored. -/
def Device.saveSettings (d : Device) : Device := { d with rsq := d.rsq.save d.boot.layout d.rsq.cfg }

/-- Firmware, when it runs, keeps a change of the device's history in the settings store at once (R512); the host's settings
that wait for their storage (15 R428) are not stored with it. -/
def Device.keepSetting (d : Device) (f : Settings → Settings) : Device :=
  if d.boot.phase ≠ .running then d
  else
    let d := d.setCfg f
    { d with rsq := d.rsq.save d.boot.layout (if d.rsq.dirty.isEmpty then d.rsq.cfg else f d.rsq.stored) }

/-- The 64 bytes of a settings store copy's header, over its contents (R512). -/
def StoreCopy.header (c : StoreCopy) (contents : List Byte) : List Byte :=
  withCrc (be 2 0x5354 ++ be 2 c.layout ++ be 8 c.seq ++ be 4 contents.length ++ be 4 (crc32c contents) ++ List.replicate 40 0)

/-- Byte `k` of a settings store copy's area: its header, its contents, erased flash past them. -/
def storeByte (c : Option StoreCopy) (k : Nat) : Byte :=
  match c with
  | none => 0xFF
  | some c =>
    let contents := (Config.storeContents c.layout c.body).take (0x100000 - 64)
    (c.header contents ++ contents).getD k 0xFF

/-- The byte at offset `a` of the flash. -/
def Device.flashByte (d : Device) (a : Nat) : Byte :=
  let x := d.boot
  let rec_ (r : Option BootRec) (k : Nat) : Byte := match r with
    | none => 0xFF
    | some r => r.enc.getD k 0xFF
  if a < 0x10000 then rec_ x.rec0 a
  else if a < 0x20000 then rec_ x.rec1 (a - 0x10000)
  else if a < 0x30000 then 
    (if x.stored.isEmpty then 0xFF else Config.pieceSector (a - 0x20000) (x.stored.foldl (fun n p => n + 2 ^ p) 0) x.sha0)
  else if a < 0x100000 then 0xFF
  else if a < 0x200000 then storeByte d.rsq.store0 (a - 0x100000)
  else if a < 0x300000 then storeByte d.rsq.store1 (a - 0x200000)
  else if a < 0x1000000 then 0xFF
  else if a < 0x4000000 then x.bankByte (a / 0x1000000 - 1) (a % 0x1000000)
  else 0xFF

end Sys2Proof.Machine
end

