-- ==== Sys2Proof/Machine/FieldsControl.lean ====
section
/-! DEFINITION. The named register fields of the blocks GLB, REF, PCK, each its address, lowest bit and width,
as the register tables of spec/ give them. The last word of a name is the field; `word` is the whole register.
The first argument is the block instance, the second the register's index. -/

namespace Sys2Proof.Machine

-- PCK_CFG: 02_picks_sheds_time R53
def PCK_CFG.period : Fld := ⟨0x20000, 0, 13⟩
def PCK_CFG.pps_aligned : Fld := ⟨0x20000, 13, 1⟩
def PCK_CFG.stretched : Fld := ⟨0x20000, 14, 1⟩
def PCK_CFG.shed_log2 : Fld := ⟨0x20000, 16, 4⟩
def PCK_CFG.word : Fld := ⟨0x20000, 0, 32⟩
-- PCK_STATE: 02_picks_sheds_time R53
def PCK_STATE.state : Fld := ⟨0x20004, 0, 2⟩
def PCK_STATE.load_refused : Fld := ⟨0x20004, 8, 1⟩
def PCK_STATE.pulse_mismatch : Fld := ⟨0x20004, 9, 1⟩
def PCK_STATE.mismatch_count : Fld := ⟨0x20004, 16, 16⟩
def PCK_STATE.word : Fld := ⟨0x20004, 0, 32⟩
-- PCK_LOAD: 02_picks_sheds_time R53
def PCK_LOAD.arm : Fld := ⟨0x20008, 0, 1⟩
def PCK_LOAD.cancel : Fld := ⟨0x20008, 1, 1⟩
def PCK_LOAD.word : Fld := ⟨0x20008, 0, 32⟩
-- PCK_LOAD_PN_LO: 02_picks_sheds_time R53
def PCK_LOAD_PN_LO.load_pn_lo : Fld := ⟨0x20010, 0, 32⟩
def PCK_LOAD_PN_LO.word : Fld := ⟨0x20010, 0, 32⟩
-- PCK_LOAD_PN_HI: 02_picks_sheds_time R53
def PCK_LOAD_PN_HI.load_pn_hi : Fld := ⟨0x20014, 0, 16⟩
def PCK_LOAD_PN_HI.load_epoch : Fld := ⟨0x20014, 16, 16⟩
def PCK_LOAD_PN_HI.word : Fld := ⟨0x20014, 0, 32⟩
-- PCK_ANCHOR_LO: 02_picks_sheds_time R53
def PCK_ANCHOR_LO.anchor_lo : Fld := ⟨0x20018, 0, 32⟩
def PCK_ANCHOR_LO.word : Fld := ⟨0x20018, 0, 32⟩
-- PCK_ANCHOR_HI: 02_picks_sheds_time R53
def PCK_ANCHOR_HI.anchor_hi : Fld := ⟨0x2001c, 0, 32⟩
def PCK_ANCHOR_HI.word : Fld := ⟨0x2001c, 0, 32⟩
-- PCK_PN_LO: 02_picks_sheds_time R53
def PCK_PN_LO.pn_lo : Fld := ⟨0x20020, 0, 32⟩
def PCK_PN_LO.word : Fld := ⟨0x20020, 0, 32⟩
-- PCK_PN_HI: 02_picks_sheds_time R53
def PCK_PN_HI.pn_hi : Fld := ⟨0x20024, 0, 16⟩
def PCK_PN_HI.epoch : Fld := ⟨0x20024, 16, 16⟩
def PCK_PN_HI.word : Fld := ⟨0x20024, 0, 32⟩
-- PCK_SHED_POS: 02_picks_sheds_time R53
def PCK_SHED_POS.pick_in_shed : Fld := ⟨0x20028, 0, 15⟩
def PCK_SHED_POS.word : Fld := ⟨0x20028, 0, 32⟩
-- PCK_TBASE_PN_LO: 02_picks_sheds_time R53
def PCK_TBASE_PN_LO.tbase_lo : Fld := ⟨0x20030, 0, 32⟩
def PCK_TBASE_PN_LO.word : Fld := ⟨0x20030, 0, 32⟩
-- PCK_TBASE_PN_HI: 02_picks_sheds_time R53
def PCK_TBASE_PN_HI.tbase_hi : Fld := ⟨0x20034, 0, 32⟩
def PCK_TBASE_PN_HI.word : Fld := ⟨0x20034, 0, 32⟩
-- PCK_COMMIT: 02_picks_sheds_time R53
def PCK_COMMIT.go : Fld := ⟨0x20040, 0, 1⟩
def PCK_COMMIT.at_ : Fld := ⟨0x20040, 1, 1⟩
def PCK_COMMIT.cancel : Fld := ⟨0x20040, 2, 1⟩
def PCK_COMMIT.word : Fld := ⟨0x20040, 0, 32⟩
-- PCK_COMMIT_AT_LO: 02_picks_sheds_time R53
def PCK_COMMIT_AT_LO.at_lo : Fld := ⟨0x20044, 0, 32⟩
def PCK_COMMIT_AT_LO.word : Fld := ⟨0x20044, 0, 32⟩
-- PCK_COMMIT_AT_HI: 02_picks_sheds_time R53
def PCK_COMMIT_AT_HI.at_hi : Fld := ⟨0x20048, 0, 32⟩
def PCK_COMMIT_AT_HI.word : Fld := ⟨0x20048, 0, 32⟩
-- PCK_COMMIT_STAT: 02_picks_sheds_time R53
def PCK_COMMIT_STAT.pending : Fld := ⟨0x2004c, 0, 1⟩
def PCK_COMMIT_STAT.late : Fld := ⟨0x2004c, 1, 1⟩
def PCK_COMMIT_STAT.busy_err : Fld := ⟨0x2004c, 2, 1⟩
def PCK_COMMIT_STAT.weave_discard : Fld := ⟨0x2004c, 3, 1⟩
def PCK_COMMIT_STAT.applied_count : Fld := ⟨0x2004c, 16, 16⟩
def PCK_COMMIT_STAT.word : Fld := ⟨0x2004c, 0, 32⟩
-- PCK_COMMIT_PN_LO: 02_picks_sheds_time R53
def PCK_COMMIT_PN_LO.cpn_lo : Fld := ⟨0x20050, 0, 32⟩
def PCK_COMMIT_PN_LO.word : Fld := ⟨0x20050, 0, 32⟩
-- PCK_COMMIT_PN_HI: 02_picks_sheds_time R53
def PCK_COMMIT_PN_HI.cpn_hi : Fld := ⟨0x20054, 0, 32⟩
def PCK_COMMIT_PN_HI.word : Fld := ⟨0x20054, 0, 32⟩
-- PCK_SYNC: 02_picks_sheds_time R53
def PCK_SYNC.go : Fld := ⟨0x20060, 0, 1⟩
def PCK_SYNC.word : Fld := ⟨0x20060, 0, 32⟩
-- PCK_SYNC_STAT: 02_picks_sheds_time R53
def PCK_SYNC_STAT.pending : Fld := ⟨0x20064, 0, 1⟩
def PCK_SYNC_STAT.source : Fld := ⟨0x20064, 1, 1⟩
def PCK_SYNC_STAT.merged : Fld := ⟨0x20064, 2, 1⟩
def PCK_SYNC_STAT.count : Fld := ⟨0x20064, 16, 16⟩
def PCK_SYNC_STAT.word : Fld := ⟨0x20064, 0, 32⟩
-- PCK_SYNC_PN_LO: 02_picks_sheds_time R53
def PCK_SYNC_PN_LO.spn_lo : Fld := ⟨0x20068, 0, 32⟩
def PCK_SYNC_PN_LO.word : Fld := ⟨0x20068, 0, 32⟩
-- PCK_SYNC_PN_HI: 02_picks_sheds_time R53
def PCK_SYNC_PN_HI.spn_hi : Fld := ⟨0x2006c, 0, 32⟩
def PCK_SYNC_PN_HI.word : Fld := ⟨0x2006c, 0, 32⟩
-- PCK_WEAVE: 12_draft R360
def PCK_WEAVE.op : Fld := ⟨0x20080, 0, 3⟩
def PCK_WEAVE.word : Fld := ⟨0x20080, 0, 32⟩
-- PCK_WEAVE_AT_LO: 12_draft R360
def PCK_WEAVE_AT_LO.at_lo : Fld := ⟨0x20084, 0, 32⟩
def PCK_WEAVE_AT_LO.word : Fld := ⟨0x20084, 0, 32⟩
-- PCK_WEAVE_AT_HI: 12_draft R360
def PCK_WEAVE_AT_HI.at_hi : Fld := ⟨0x20088, 0, 32⟩
def PCK_WEAVE_AT_HI.word : Fld := ⟨0x20088, 0, 32⟩
-- PCK_WEAVE_STAT: 12_draft R360
def PCK_WEAVE_STAT.stage : Fld := ⟨0x2008c, 0, 3⟩
def PCK_WEAVE_STAT.unweave_armed : Fld := ⟨0x2008c, 3, 1⟩
def PCK_WEAVE_STAT.woven : Fld := ⟨0x2008c, 4, 1⟩
def PCK_WEAVE_STAT.missed : Fld := ⟨0x2008c, 5, 1⟩
def PCK_WEAVE_STAT.refused : Fld := ⟨0x2008c, 6, 1⟩
def PCK_WEAVE_STAT.code : Fld := ⟨0x2008c, 8, 8⟩
def PCK_WEAVE_STAT.sect : Fld := ⟨0x2008c, 16, 16⟩
def PCK_WEAVE_STAT.word : Fld := ⟨0x2008c, 0, 32⟩
-- PCK_WEAVE_ERR_OFS: 12_draft R360
def PCK_WEAVE_ERR_OFS.offset : Fld := ⟨0x20090, 0, 32⟩
def PCK_WEAVE_ERR_OFS.word : Fld := ⟨0x20090, 0, 32⟩
-- PCK_DRAFT_ID_LO: 12_draft R360
def PCK_DRAFT_ID_LO.id_lo : Fld := ⟨0x20094, 0, 32⟩
def PCK_DRAFT_ID_LO.word : Fld := ⟨0x20094, 0, 32⟩
-- PCK_DRAFT_ID_HI: 12_draft R360
def PCK_DRAFT_ID_HI.id_hi : Fld := ⟨0x20098, 0, 32⟩
def PCK_DRAFT_ID_HI.word : Fld := ⟨0x20098, 0, 32⟩
-- PCK_STAGE_ID_LO: 12_draft R360
def PCK_STAGE_ID_LO.id_lo : Fld := ⟨0x2009c, 0, 32⟩
def PCK_STAGE_ID_LO.word : Fld := ⟨0x2009c, 0, 32⟩
-- PCK_STAGE_ID_HI: 12_draft R360
def PCK_STAGE_ID_HI.id_hi : Fld := ⟨0x200a0, 0, 32⟩
def PCK_STAGE_ID_HI.word : Fld := ⟨0x200a0, 0, 32⟩
-- PCK_WEAVE_PN_LO: 12_draft R360
def PCK_WEAVE_PN_LO.wpn_lo : Fld := ⟨0x200a4, 0, 32⟩
def PCK_WEAVE_PN_LO.word : Fld := ⟨0x200a4, 0, 32⟩
-- PCK_WEAVE_PN_HI: 12_draft R360
def PCK_WEAVE_PN_HI.wpn_hi : Fld := ⟨0x200a8, 0, 32⟩
def PCK_WEAVE_PN_HI.word : Fld := ⟨0x200a8, 0, 32⟩
-- PCK_WEAVE_CNT: 12_draft R360
def PCK_WEAVE_CNT.done : Fld := ⟨0x200ac, 0, 16⟩
def PCK_WEAVE_CNT.failed : Fld := ⟨0x200ac, 16, 16⟩
def PCK_WEAVE_CNT.word : Fld := ⟨0x200ac, 0, 32⟩
-- REF_CFG: 14_reference R409
def REF_CFG.bw : Fld := ⟨0x10000, 0, 3⟩
def REF_CFG.revertive : Fld := ⟨0x10000, 3, 1⟩
def REF_CFG.wtr : Fld := ⟨0x10000, 4, 12⟩
def REF_CFG.word : Fld := ⟨0x10000, 0, 32⟩
-- REF_LIMITS: 14_reference R409
def REF_LIMITS.agree_thr : Fld := ⟨0x10004, 0, 16⟩
def REF_LIMITS.qual_win : Fld := ⟨0x10004, 16, 16⟩
def REF_LIMITS.word : Fld := ⟨0x10004, 0, 32⟩
-- REF_TIMES: 14_reference R409
def REF_TIMES.qual_time : Fld := ⟨0x10008, 0, 8⟩
def REF_TIMES.hold_limit : Fld := ⟨0x10008, 16, 16⟩
def REF_TIMES.word : Fld := ⟨0x10008, 0, 32⟩
-- REF_PRIO: 14_reference R409
def REF_PRIO.rank (k : Nat) : Fld := ⟨0x10010 + 0x4 * k, 0, 4⟩
def REF_PRIO.enable (k : Nat) : Fld := ⟨0x10010 + 0x4 * k, 4, 1⟩
def REF_PRIO.freq100 (k : Nat) : Fld := ⟨0x10010 + 0x4 * k, 5, 1⟩
def REF_PRIO.word (k : Nat) : Fld := ⟨0x10010 + 0x4 * k, 0, 32⟩
-- REF_COMP: 14_reference R409
def REF_COMP.comp (k : Nat) : Fld := ⟨0x10020 + 0x4 * k, 0, 20⟩
def REF_COMP.word (k : Nat) : Fld := ⟨0x10020 + 0x4 * k, 0, 32⟩
-- REF_STAT: 14_reference R409
def REF_STAT.state : Fld := ⟨0x10040, 0, 2⟩
def REF_STAT.active : Fld := ⟨0x10040, 2, 2⟩
def REF_STAT.active_valid : Fld := ⟨0x10040, 4, 1⟩
def REF_STAT.phase_far : Fld := ⟨0x10040, 5, 1⟩
def REF_STAT.hist_valid : Fld := ⟨0x10040, 6, 1⟩
def REF_STAT.second_valid : Fld := ⟨0x10040, 7, 1⟩
def REF_STAT.qualified : Fld := ⟨0x10040, 8, 4⟩
def REF_STAT.eligible : Fld := ⟨0x10040, 12, 4⟩
def REF_STAT.word : Fld := ⟨0x10040, 0, 32⟩
-- REF_DQ: 14_reference R409
def REF_DQ.reason0 : Fld := ⟨0x10044, 0, 4⟩
def REF_DQ.reason1 : Fld := ⟨0x10044, 4, 4⟩
def REF_DQ.reason2 : Fld := ⟨0x10044, 8, 4⟩
def REF_DQ.reason3 : Fld := ⟨0x10044, 12, 4⟩
def REF_DQ.word : Fld := ⟨0x10044, 0, 32⟩
-- REF_OFS: 14_reference R409
def REF_OFS.value (k : Nat) : Fld := ⟨0x10050 + 0x4 * k, 0, 32⟩
def REF_OFS.word (k : Nat) : Fld := ⟨0x10050 + 0x4 * k, 0, 32⟩
-- REF_PHASE: 14_reference R409
def REF_PHASE.value (k : Nat) : Fld := ⟨0x10060 + 0x4 * k, 0, 32⟩
def REF_PHASE.word (k : Nat) : Fld := ⟨0x10060 + 0x4 * k, 0, 32⟩
-- REF_HOLD_EST: 14_reference R409
def REF_HOLD_EST.value : Fld := ⟨0x10070, 0, 32⟩
def REF_HOLD_EST.word : Fld := ⟨0x10070, 0, 32⟩
-- REF_HOLD_TIME: 14_reference R409
def REF_HOLD_TIME.value : Fld := ⟨0x10074, 0, 32⟩
def REF_HOLD_TIME.word : Fld := ⟨0x10074, 0, 32⟩
-- REF_STEP: 14_reference R409
def REF_STEP.step : Fld := ⟨0x10080, 0, 20⟩
def REF_STEP.word : Fld := ⟨0x10080, 0, 32⟩
-- REF_THETA: 14_reference R409
def REF_THETA.theta : Fld := ⟨0x10084, 0, 32⟩
def REF_THETA.word : Fld := ⟨0x10084, 0, 32⟩
-- REF_THETA_APP: 14_reference R409
def REF_THETA_APP.theta : Fld := ⟨0x10088, 0, 32⟩
def REF_THETA_APP.word : Fld := ⟨0x10088, 0, 32⟩
-- REF_OUT: 14_reference R409
def REF_OUT.clkout_en : Fld := ⟨0x10090, 0, 1⟩
def REF_OUT.ppsout_en : Fld := ⟨0x10090, 1, 1⟩
def REF_OUT.pickout_en : Fld := ⟨0x10090, 2, 1⟩
def REF_OUT.word : Fld := ⟨0x10090, 0, 32⟩
-- REF_PPSOUT_OFS: 14_reference R409
def REF_PPSOUT_OFS.ppsout_ofs : Fld := ⟨0x10094, 0, 24⟩
def REF_PPSOUT_OFS.word : Fld := ⟨0x10094, 0, 32⟩
-- REF_PICKOUT_OFS: 14_reference R409
def REF_PICKOUT_OFS.pickout_ofs : Fld := ⟨0x10098, 0, 12⟩
def REF_PICKOUT_OFS.word : Fld := ⟨0x10098, 0, 32⟩
-- REF_EVENT: 14_reference R409
def REF_EVENT.switched : Fld := ⟨0x100a0, 0, 1⟩
def REF_EVENT.holdover : Fld := ⟨0x100a0, 1, 1⟩
def REF_EVENT.free_run : Fld := ⟨0x100a0, 2, 1⟩
def REF_EVENT.disagree : Fld := ⟨0x100a0, 3, 1⟩
def REF_EVENT.disqualified : Fld := ⟨0x100a0, 4, 1⟩
def REF_EVENT.phase_far : Fld := ⟨0x100a0, 5, 1⟩
def REF_EVENT.step_refused : Fld := ⟨0x100a0, 6, 1⟩
def REF_EVENT.comp_refused : Fld := ⟨0x100a0, 7, 1⟩
def REF_EVENT.qualified : Fld := ⟨0x100a0, 8, 1⟩
def REF_EVENT.hold_expired : Fld := ⟨0x100a0, 9, 1⟩
def REF_EVENT.word : Fld := ⟨0x100a0, 0, 32⟩
-- REF_EVT_EN: 14_reference R409
def REF_EVT_EN.enable : Fld := ⟨0x100a4, 0, 10⟩
def REF_EVT_EN.word : Fld := ⟨0x100a4, 0, 32⟩
-- REF_SW_CNT: 14_reference R409
def REF_SW_CNT.switches : Fld := ⟨0x100a8, 0, 16⟩
def REF_SW_CNT.holdovers : Fld := ⟨0x100a8, 16, 16⟩
def REF_SW_CNT.word : Fld := ⟨0x100a8, 0, 32⟩
-- FSTAT: 17_faults_wear R472
def FSTAT.real (base : Nat) : Fld := ⟨base + 0xf00, 0, 16⟩
def FSTAT.injected (base : Nat) : Fld := ⟨base + 0xf00, 16, 16⟩
def FSTAT.word (base : Nat) : Fld := ⟨base + 0xf00, 0, 32⟩
-- FMASK: 17_faults_wear R472
def FMASK.mask (base : Nat) : Fld := ⟨base + 0xf04, 0, 16⟩
def FMASK.word (base : Nat) : Fld := ⟨base + 0xf04, 0, 32⟩
-- FCOUNT: 17_faults_wear R472
def FCOUNT.c_count (base : Nat) : Fld := ⟨base + 0xf08, 0, 16⟩
def FCOUNT.u_count (base : Nat) : Fld := ⟨base + 0xf08, 16, 8⟩
def FCOUNT.f_count (base : Nat) : Fld := ⟨base + 0xf08, 24, 8⟩
def FCOUNT.word (base : Nat) : Fld := ⟨base + 0xf08, 0, 32⟩
-- FFIRST: 17_faults_wear R472
def FFIRST.source (base : Nat) : Fld := ⟨base + 0xf0c, 0, 4⟩
def FFIRST.class_ (base : Nat) : Fld := ⟨base + 0xf0c, 4, 2⟩
def FFIRST.injected (base : Nat) : Fld := ⟨base + 0xf0c, 6, 1⟩
def FFIRST.valid (base : Nat) : Fld := ⟨base + 0xf0c, 7, 1⟩
def FFIRST.word (base : Nat) : Fld := ⟨base + 0xf0c, 0, 32⟩
-- FINJ: 17_faults_wear R472
def FINJ.source (base : Nat) : Fld := ⟨base + 0xf10, 0, 4⟩
def FINJ.go (base : Nat) : Fld := ⟨base + 0xf10, 8, 1⟩
def FINJ.pending (base : Nat) : Fld := ⟨base + 0xf10, 9, 1⟩
def FINJ.inj_count (base : Nat) : Fld := ⟨base + 0xf10, 16, 16⟩
def FINJ.word (base : Nat) : Fld := ⟨base + 0xf10, 0, 32⟩
-- FDETAIL: 17_faults_wear R472
def FDETAIL.detail (base : Nat) : Fld := ⟨base + 0xf14, 0, 32⟩
def FDETAIL.word (base : Nat) : Fld := ⟨base + 0xf14, 0, 32⟩
-- FPN_LO: 17_faults_wear R472
def FPN_LO.fpn_lo (base : Nat) : Fld := ⟨base + 0xf18, 0, 32⟩
def FPN_LO.word (base : Nat) : Fld := ⟨base + 0xf18, 0, 32⟩
-- FPN_HI: 17_faults_wear R472
def FPN_HI.fpn_hi (base : Nat) : Fld := ⟨base + 0xf1c, 0, 16⟩
def FPN_HI.fepoch (base : Nat) : Fld := ⟨base + 0xf1c, 16, 16⟩
def FPN_HI.word (base : Nat) : Fld := ⟨base + 0xf1c, 0, 32⟩
-- GLB_ID: 17_faults_wear R492
def GLB_ID.id (k : Nat) : Fld := ⟨0x0 + 0x4 * k, 0, 32⟩
def GLB_ID.word (k : Nat) : Fld := ⟨0x0 + 0x4 * k, 0, 32⟩
-- GLB_IDCODE: 17_faults_wear R492
def GLB_IDCODE.idcode : Fld := ⟨0x10, 0, 32⟩
def GLB_IDCODE.word : Fld := ⟨0x10, 0, 32⟩
-- GLB_TEST: 17_faults_wear R492
def GLB_TEST.testen : Fld := ⟨0x20, 0, 1⟩
def GLB_TEST.jtag_locked : Fld := ⟨0x20, 1, 1⟩
def GLB_TEST.word : Fld := ⟨0x20, 0, 32⟩
-- GLB_CTL: 17_faults_wear R492
def GLB_CTL.fatal_hold : Fld := ⟨0x30, 0, 1⟩
def GLB_CTL.word : Fld := ⟨0x30, 0, 32⟩
-- GLB_FATAL: 17_faults_wear R492
def GLB_FATAL.fatal : Fld := ⟨0x34, 0, 1⟩
def GLB_FATAL.block : Fld := ⟨0x34, 1, 11⟩
def GLB_FATAL.source : Fld := ⟨0x34, 12, 4⟩
def GLB_FATAL.word : Fld := ⟨0x34, 0, 32⟩
-- GLB_LAST_FATAL: 17_faults_wear R492
def GLB_LAST_FATAL.block : Fld := ⟨0x38, 0, 11⟩
def GLB_LAST_FATAL.source : Fld := ⟨0x38, 11, 4⟩
def GLB_LAST_FATAL.injected : Fld := ⟨0x38, 15, 1⟩
def GLB_LAST_FATAL.valid : Fld := ⟨0x38, 16, 1⟩
def GLB_LAST_FATAL.word : Fld := ⟨0x38, 0, 32⟩

end Sys2Proof.Machine
end

