-- ==== Sys2Proof/Machine/FieldsData.lean ====
section
/-! DEFINITION. The named register fields of the blocks WRP, CRL, LOM, APU, HRN, HST, BTN, ZCH, PWD, TRD, JRN, each its address, lowest bit and width,
as the register tables of spec/ give them. The last word of a name is the field; `word` is the whole register.
The first argument is the block instance, the second the register's index. -/

namespace Sys2Proof.Machine

-- WRP_CTL: 03_warp_lanes R83
def WRP_CTL.enable (i : Nat) : Fld := ⟨0x100000 + 0x1000 * i, 0, 1⟩
def WRP_CTL.retrain (i : Nat) : Fld := ⟨0x100000 + 0x1000 * i, 1, 1⟩
def WRP_CTL.adapt_hold (i : Nat) : Fld := ⟨0x100000 + 0x1000 * i, 2, 1⟩
def WRP_CTL.word (i : Nat) : Fld := ⟨0x100000 + 0x1000 * i, 0, 32⟩
-- WRP_PSTAT: 03_warp_lanes R83
def WRP_PSTAT.state (i : Nat) : Fld := ⟨0x100004 + 0x1000 * i, 0, 3⟩
def WRP_PSTAT.port_mismatch (i : Nat) : Fld := ⟨0x100004 + 0x1000 * i, 3, 1⟩
def WRP_PSTAT.lane_map_err (i : Nat) : Fld := ⟨0x100004 + 0x1000 * i, 4, 1⟩
def WRP_PSTAT.train_timeout (i : Nat) : Fld := ⟨0x100004 + 0x1000 * i, 5, 1⟩
def WRP_PSTAT.clock_lost (i : Nat) : Fld := ⟨0x100004 + 0x1000 * i, 6, 1⟩
def WRP_PSTAT.marker_port (i : Nat) : Fld := ⟨0x100004 + 0x1000 * i, 8, 6⟩
def WRP_PSTAT.eye_min (i : Nat) : Fld := ⟨0x100004 + 0x1000 * i, 16, 8⟩
def WRP_PSTAT.word (i : Nat) : Fld := ⟨0x100004 + 0x1000 * i, 0, 32⟩
-- WRP_TRAIN: 03_warp_lanes R83
def WRP_TRAIN.train_count (i : Nat) : Fld := ⟨0x100008 + 0x1000 * i, 0, 16⟩
def WRP_TRAIN.rotation_slips (i : Nat) : Fld := ⟨0x100008 + 0x1000 * i, 16, 16⟩
def WRP_TRAIN.word (i : Nat) : Fld := ⟨0x100008 + 0x1000 * i, 0, 32⟩
-- WRP_CLKOFS: 03_warp_lanes R83
def WRP_CLKOFS.clk_ofs (i : Nat) : Fld := ⟨0x10000c + 0x1000 * i, 0, 16⟩
def WRP_CLKOFS.word (i : Nat) : Fld := ⟨0x10000c + 0x1000 * i, 0, 32⟩
-- WRP_CNT_CLR: 03_warp_lanes R83
def WRP_CNT_CLR.clear (i : Nat) : Fld := ⟨0x100010 + 0x1000 * i, 0, 1⟩
def WRP_CNT_CLR.word (i : Nat) : Fld := ⟨0x100010 + 0x1000 * i, 0, 32⟩
-- WRP_LSTAT: 03_warp_lanes R84
def WRP_LSTAT.lstate (i k : Nat) : Fld := ⟨0x100100 + 0x1000 * i + 0x40 * k, 0, 3⟩
def WRP_LSTAT.inverted (i k : Nat) : Fld := ⟨0x100100 + 0x1000 * i + 0x40 * k, 3, 1⟩
def WRP_LSTAT.lane_id (i k : Nat) : Fld := ⟨0x100100 + 0x1000 * i + 0x40 * k, 4, 2⟩
def WRP_LSTAT.frozen (i k : Nat) : Fld := ⟨0x100100 + 0x1000 * i + 0x40 * k, 6, 1⟩
def WRP_LSTAT.unstable (i k : Nat) : Fld := ⟨0x100100 + 0x1000 * i + 0x40 * k, 7, 1⟩
def WRP_LSTAT.eye (i k : Nat) : Fld := ⟨0x100100 + 0x1000 * i + 0x40 * k, 8, 8⟩
def WRP_LSTAT.eye_best (i k : Nat) : Fld := ⟨0x100100 + 0x1000 * i + 0x40 * k, 16, 8⟩
def WRP_LSTAT.word (i k : Nat) : Fld := ⟨0x100100 + 0x1000 * i + 0x40 * k, 0, 32⟩
-- WRP_LEQ: 03_warp_lanes R84
def WRP_LEQ.ctle (i k : Nat) : Fld := ⟨0x100104 + 0x1000 * i + 0x40 * k, 0, 4⟩
def WRP_LEQ.dfe1 (i k : Nat) : Fld := ⟨0x100104 + 0x1000 * i + 0x40 * k, 4, 6⟩
def WRP_LEQ.dfe2 (i k : Nat) : Fld := ⟨0x100104 + 0x1000 * i + 0x40 * k, 10, 5⟩
def WRP_LEQ.dfe3 (i k : Nat) : Fld := ⟨0x100104 + 0x1000 * i + 0x40 * k, 15, 5⟩
def WRP_LEQ.dfe4 (i k : Nat) : Fld := ⟨0x100104 + 0x1000 * i + 0x40 * k, 20, 5⟩
def WRP_LEQ.dfe5 (i k : Nat) : Fld := ⟨0x100104 + 0x1000 * i + 0x40 * k, 25, 5⟩
def WRP_LEQ.word (i k : Nat) : Fld := ⟨0x100104 + 0x1000 * i + 0x40 * k, 0, 32⟩
-- WRP_LSNAP: 03_warp_lanes R84
def WRP_LSNAP.ctle (i k : Nat) : Fld := ⟨0x100108 + 0x1000 * i + 0x40 * k, 0, 4⟩
def WRP_LSNAP.dfe1 (i k : Nat) : Fld := ⟨0x100108 + 0x1000 * i + 0x40 * k, 4, 6⟩
def WRP_LSNAP.dfe2 (i k : Nat) : Fld := ⟨0x100108 + 0x1000 * i + 0x40 * k, 10, 5⟩
def WRP_LSNAP.dfe3 (i k : Nat) : Fld := ⟨0x100108 + 0x1000 * i + 0x40 * k, 15, 5⟩
def WRP_LSNAP.dfe4 (i k : Nat) : Fld := ⟨0x100108 + 0x1000 * i + 0x40 * k, 20, 5⟩
def WRP_LSNAP.dfe5 (i k : Nat) : Fld := ⟨0x100108 + 0x1000 * i + 0x40 * k, 25, 5⟩
def WRP_LSNAP.word (i k : Nat) : Fld := ⟨0x100108 + 0x1000 * i + 0x40 * k, 0, 32⟩
-- WRP_LIDLE: 03_warp_lanes R84
def WRP_LIDLE.idle_blocks (i k : Nat) : Fld := ⟨0x10010c + 0x1000 * i + 0x40 * k, 0, 17⟩
def WRP_LIDLE.word (i k : Nat) : Fld := ⟨0x10010c + 0x1000 * i + 0x40 * k, 0, 32⟩
-- WRP_LCNT_STUFF: 03_warp_lanes R84
def WRP_LCNT_STUFF.count (i k : Nat) : Fld := ⟨0x100110 + 0x1000 * i + 0x40 * k, 0, 32⟩
def WRP_LCNT_STUFF.word (i k : Nat) : Fld := ⟨0x100110 + 0x1000 * i + 0x40 * k, 0, 32⟩
-- WRP_LCNT_HDR: 03_warp_lanes R84
def WRP_LCNT_HDR.count (i k : Nat) : Fld := ⟨0x100114 + 0x1000 * i + 0x40 * k, 0, 32⟩
def WRP_LCNT_HDR.word (i k : Nat) : Fld := ⟨0x100114 + 0x1000 * i + 0x40 * k, 0, 32⟩
-- WRP_LCNT_MRK: 03_warp_lanes R84
def WRP_LCNT_MRK.crc_err (i k : Nat) : Fld := ⟨0x100118 + 0x1000 * i + 0x40 * k, 0, 16⟩
def WRP_LCNT_MRK.seq_err (i k : Nat) : Fld := ⟨0x100118 + 0x1000 * i + 0x40 * k, 16, 16⟩
def WRP_LCNT_MRK.word (i k : Nat) : Fld := ⟨0x100118 + 0x1000 * i + 0x40 * k, 0, 32⟩
-- WRP_LCNT_LOCK: 03_warp_lanes R84
def WRP_LCNT_LOCK.lock_losses (i k : Nat) : Fld := ⟨0x10011c + 0x1000 * i + 0x40 * k, 0, 16⟩
def WRP_LCNT_LOCK.rollbacks (i k : Nat) : Fld := ⟨0x10011c + 0x1000 * i + 0x40 * k, 16, 16⟩
def WRP_LCNT_LOCK.word (i k : Nat) : Fld := ⟨0x10011c + 0x1000 * i + 0x40 * k, 0, 32⟩
-- WRP_LSKEW: 03_warp_lanes R84
def WRP_LSKEW.max_lead (i k : Nat) : Fld := ⟨0x100120 + 0x1000 * i + 0x40 * k, 0, 12⟩
def WRP_LSKEW.word (i k : Nat) : Fld := ⟨0x100120 + 0x1000 * i + 0x40 * k, 0, 32⟩
-- WRP_BLANK_LO: 04_warp_frames R114
def WRP_BLANK_LO.blank_lo (i : Nat) : Fld := ⟨0x100200 + 0x1000 * i, 0, 32⟩
def WRP_BLANK_LO.word (i : Nat) : Fld := ⟨0x100200 + 0x1000 * i, 0, 32⟩
-- WRP_BLANK_HI: 04_warp_frames R114
def WRP_BLANK_HI.blank_hi (i : Nat) : Fld := ⟨0x100204 + 0x1000 * i, 0, 32⟩
def WRP_BLANK_HI.word (i : Nat) : Fld := ⟨0x100204 + 0x1000 * i, 0, 32⟩
-- WRP_FRAME_STAT: 04_warp_frames R114
def WRP_FRAME_STAT.last_code (i : Nat) : Fld := ⟨0x100208 + 0x1000 * i, 0, 4⟩
def WRP_FRAME_STAT.last_index (i : Nat) : Fld := ⟨0x100208 + 0x1000 * i, 8, 8⟩
def WRP_FRAME_STAT.word (i : Nat) : Fld := ⟨0x100208 + 0x1000 * i, 0, 32⟩
-- WRP_LAST_PN: 04_warp_frames R114
def WRP_LAST_PN.last_pn (i : Nat) : Fld := ⟨0x10020c + 0x1000 * i, 0, 32⟩
def WRP_LAST_PN.word (i : Nat) : Fld := ⟨0x10020c + 0x1000 * i, 0, 32⟩
-- WRP_ACC_LO: 04_warp_frames R114
def WRP_ACC_LO.acc_lo (i : Nat) : Fld := ⟨0x100210 + 0x1000 * i, 0, 32⟩
def WRP_ACC_LO.word (i : Nat) : Fld := ⟨0x100210 + 0x1000 * i, 0, 32⟩
-- WRP_ACC_HI: 04_warp_frames R114
def WRP_ACC_HI.acc_hi (i : Nat) : Fld := ⟨0x100214 + 0x1000 * i, 0, 32⟩
def WRP_ACC_HI.word (i : Nat) : Fld := ⟨0x100214 + 0x1000 * i, 0, 32⟩
-- WRP_FMT_ERR: 04_warp_frames R114
def WRP_FMT_ERR.reserved_parts (i : Nat) : Fld := ⟨0x100220 + 0x1000 * i, 0, 32⟩
def WRP_FMT_ERR.word (i : Nat) : Fld := ⟨0x100220 + 0x1000 * i, 0, 32⟩
-- WRP_UFLAG: 04_warp_frames R114
def WRP_UFLAG.sat_frames (i : Nat) : Fld := ⟨0x100224 + 0x1000 * i, 0, 16⟩
def WRP_UFLAG.fill_frames (i : Nat) : Fld := ⟨0x100224 + 0x1000 * i, 16, 16⟩
def WRP_UFLAG.word (i : Nat) : Fld := ⟨0x100224 + 0x1000 * i, 0, 32⟩
-- WRP_ARRIVAL: 04_warp_frames R114
def WRP_ARRIVAL.a_min (i : Nat) : Fld := ⟨0x100228 + 0x1000 * i, 0, 16⟩
def WRP_ARRIVAL.a_max (i : Nat) : Fld := ⟨0x100228 + 0x1000 * i, 16, 16⟩
def WRP_ARRIVAL.word (i : Nat) : Fld := ⟨0x100228 + 0x1000 * i, 0, 32⟩
-- WRP_SRC_ID: 04_warp_frames R114
def WRP_SRC_ID.src_id (i : Nat) : Fld := ⟨0x10022c + 0x1000 * i, 0, 32⟩
def WRP_SRC_ID.word (i : Nat) : Fld := ⟨0x10022c + 0x1000 * i, 0, 32⟩
-- WRP_ANS_LAT: 04_warp_frames R114
def WRP_ANS_LAT.ans_max (i : Nat) : Fld := ⟨0x100230 + 0x1000 * i, 0, 13⟩
def WRP_ANS_LAT.word (i : Nat) : Fld := ⟨0x100230 + 0x1000 * i, 0, 32⟩
-- WRP_FCNT_CLR: 04_warp_frames R114
def WRP_FCNT_CLR.clear (i : Nat) : Fld := ⟨0x100238 + 0x1000 * i, 0, 1⟩
def WRP_FCNT_CLR.word (i : Nat) : Fld := ⟨0x100238 + 0x1000 * i, 0, 32⟩
-- WRP_REJ: 04_warp_frames R114
def WRP_REJ.count (i k : Nat) : Fld := ⟨0x100240 + 0x1000 * i + 0x4 * k, 0, 32⟩
def WRP_REJ.word (i k : Nat) : Fld := ⟨0x100240 + 0x1000 * i + 0x4 * k, 0, 32⟩
-- LOM_ROLE: 05_looms R151
def LOM_ROLE.role (i : Nat) : Fld := ⟨0x200000 + 0x1000 * i, 0, 3⟩
def LOM_ROLE.standin (i : Nat) : Fld := ⟨0x200000 + 0x1000 * i, 3, 1⟩
def LOM_ROLE.logical (i : Nat) : Fld := ⟨0x200000 + 0x1000 * i, 8, 6⟩
def LOM_ROLE.bobbin_ok (i : Nat) : Fld := ⟨0x200000 + 0x1000 * i, 15, 1⟩
def LOM_ROLE.cause (i : Nat) : Fld := ⟨0x200000 + 0x1000 * i, 16, 3⟩
def LOM_ROLE.word (i : Nat) : Fld := ⟨0x200000 + 0x1000 * i, 0, 32⟩
-- LOM_STAT: 05_looms R151
def LOM_STAT.acc_bank (i : Nat) : Fld := ⟨0x200004 + 0x1000 * i, 0, 1⟩
def LOM_STAT.dumping (i : Nat) : Fld := ⟨0x200004 + 0x1000 * i, 1, 1⟩
def LOM_STAT.slots_live (i : Nat) : Fld := ⟨0x200004 + 0x1000 * i, 8, 4⟩
def LOM_STAT.word (i : Nat) : Fld := ⟨0x200004 + 0x1000 * i, 0, 32⟩
-- LOM_RETIRE: 05_looms R151
def LOM_RETIRE.retire_req (i : Nat) : Fld := ⟨0x200008 + 0x1000 * i, 0, 1⟩
def LOM_RETIRE.word (i : Nat) : Fld := ⟨0x200008 + 0x1000 * i, 0, 32⟩
-- LOM_CHK: 05_looms R151
def LOM_CHK.count_err (i : Nat) : Fld := ⟨0x20000c + 0x1000 * i, 0, 16⟩
def LOM_CHK.clear (i : Nat) : Fld := ⟨0x20000c + 0x1000 * i, 31, 1⟩
def LOM_CHK.word (i : Nat) : Fld := ⟨0x20000c + 0x1000 * i, 0, 32⟩
-- LOM_PASS: 05_looms R151
def LOM_PASS.entry (i k : Nat) : Fld := ⟨0x200020 + 0x1000 * i + 0x4 * k, 0, 32⟩
def LOM_PASS.word (i k : Nat) : Fld := ⟨0x200020 + 0x1000 * i + 0x4 * k, 0, 32⟩
-- CRL_CFG: 05_looms R152
def CRL_CFG.policy : Fld := ⟨0x180000, 0, 1⟩
def CRL_CFG.exhausted : Fld := ⟨0x180000, 1, 1⟩
def CRL_CFG.stretch_wait : Fld := ⟨0x180000, 2, 1⟩
def CRL_CFG.word : Fld := ⟨0x180000, 0, 32⟩
-- CRL_STATE: 05_looms R152
def CRL_STATE.spares_free : Fld := ⟨0x180004, 0, 3⟩
def CRL_STATE.working : Fld := ⟨0x180004, 4, 7⟩
def CRL_STATE.lendable : Fld := ⟨0x180004, 12, 7⟩
def CRL_STATE.replay_running : Fld := ⟨0x180004, 19, 1⟩
def CRL_STATE.replays_waiting : Fld := ⟨0x180004, 20, 4⟩
def CRL_STATE.word : Fld := ⟨0x180004, 0, 32⟩
-- CRL_ABSENT: 05_looms R152
def CRL_ABSENT.by_policy : Fld := ⟨0x180008, 0, 10⟩
def CRL_ABSENT.orphans : Fld := ⟨0x180008, 10, 10⟩
def CRL_ABSENT.order_pos : Fld := ⟨0x180008, 20, 10⟩
def CRL_ABSENT.word : Fld := ⟨0x180008, 0, 32⟩
-- CRL_LMAP: 05_looms R152
def CRL_LMAP.physical (k : Nat) : Fld := ⟨0x180100 + 0x4 * k, 0, 7⟩
def CRL_LMAP.word (k : Nat) : Fld := ⟨0x180100 + 0x4 * k, 0, 32⟩
-- CRL_PLACE: 05_looms R152
def CRL_PLACE.physical (k : Nat) : Fld := ⟨0x181000 + 0x4 * k, 0, 7⟩
def CRL_PLACE.slot (k : Nat) : Fld := ⟨0x181000 + 0x4 * k, 8, 4⟩
def CRL_PLACE.state (k : Nat) : Fld := ⟨0x181000 + 0x4 * k, 12, 2⟩
def CRL_PLACE.lent (k : Nat) : Fld := ⟨0x181000 + 0x4 * k, 14, 1⟩
def CRL_PLACE.lender (k : Nat) : Fld := ⟨0x181000 + 0x4 * k, 15, 7⟩
def CRL_PLACE.region (k : Nat) : Fld := ⟨0x181000 + 0x4 * k, 22, 3⟩
def CRL_PLACE.word (k : Nat) : Fld := ⟨0x181000 + 0x4 * k, 0, 32⟩
-- CRL_ORDER: 05_looms R152
def CRL_ORDER.pass_num (k : Nat) : Fld := ⟨0x181800 + 0x4 * k, 0, 9⟩
def CRL_ORDER.word (k : Nat) : Fld := ⟨0x181800 + 0x4 * k, 0, 32⟩
-- APU_SHED_LO: 05_looms R153
def APU_SHED_LO.shed_lo : Fld := ⟨0x280000, 0, 32⟩
def APU_SHED_LO.word : Fld := ⟨0x280000, 0, 32⟩
-- APU_SHED_HI: 05_looms R153
def APU_SHED_HI.shed_hi : Fld := ⟨0x280004, 0, 16⟩
def APU_SHED_HI.epoch : Fld := ⟨0x280004, 16, 16⟩
def APU_SHED_HI.word : Fld := ⟨0x280004, 0, 32⟩
-- APU_PEAK: 05_looms R153
def APU_PEAK.value : Fld := ⟨0x280008, 0, 15⟩
def APU_PEAK.input : Fld := ⟨0x280008, 16, 12⟩
def APU_PEAK.word : Fld := ⟨0x280008, 0, 32⟩
-- APU_BLANKED: 05_looms R153
def APU_BLANKED.count : Fld := ⟨0x28000c, 0, 13⟩
def APU_BLANKED.word : Fld := ⟨0x28000c, 0, 32⟩
-- LOM_SPILL_CNT: 06_bobbins_records R180
def LOM_SPILL_CNT.spills (i : Nat) : Fld := ⟨0x200100 + 0x1000 * i, 0, 32⟩
def LOM_SPILL_CNT.word (i : Nat) : Fld := ⟨0x200100 + 0x1000 * i, 0, 32⟩
-- LOM_SPILL_PEAK: 06_bobbins_records R180
def LOM_SPILL_PEAK.pick_peak (i : Nat) : Fld := ⟨0x200104 + 0x1000 * i, 0, 11⟩
def LOM_SPILL_PEAK.queue_peak (i : Nat) : Fld := ⟨0x200104 + 0x1000 * i, 16, 11⟩
def LOM_SPILL_PEAK.word (i : Nat) : Fld := ⟨0x200104 + 0x1000 * i, 0, 32⟩
-- LOM_SPILL_DEFER: 06_bobbins_records R180
def LOM_SPILL_DEFER.deferrals (i : Nat) : Fld := ⟨0x200108 + 0x1000 * i, 0, 32⟩
def LOM_SPILL_DEFER.word (i : Nat) : Fld := ⟨0x200108 + 0x1000 * i, 0, 32⟩
-- LOM_FRAY: 06_bobbins_records R180
def LOM_FRAY.last_bank (i : Nat) : Fld := ⟨0x20010c + 0x1000 * i, 0, 18⟩
def LOM_FRAY.word (i : Nat) : Fld := ⟨0x20010c + 0x1000 * i, 0, 32⟩
-- LOM_FRAY_TOTAL: 06_bobbins_records R180
def LOM_FRAY_TOTAL.frays (i : Nat) : Fld := ⟨0x200110 + 0x1000 * i, 0, 32⟩
def LOM_FRAY_TOTAL.word (i : Nat) : Fld := ⟨0x200110 + 0x1000 * i, 0, 32⟩
-- LOM_BOBBIN_ECC: 06_bobbins_records R180
def LOM_BOBBIN_ECC.corrected (i : Nat) : Fld := ⟨0x200114 + 0x1000 * i, 0, 16⟩
def LOM_BOBBIN_ECC.uncorrected (i : Nat) : Fld := ⟨0x200114 + 0x1000 * i, 16, 16⟩
def LOM_BOBBIN_ECC.word (i : Nat) : Fld := ⟨0x200114 + 0x1000 * i, 0, 32⟩
-- LOM_DUMP_STAT: 06_bobbins_records R180
def LOM_DUMP_STAT.dump_end (i : Nat) : Fld := ⟨0x200118 + 0x1000 * i, 0, 15⟩
def LOM_DUMP_STAT.drain_wait (i : Nat) : Fld := ⟨0x200118 + 0x1000 * i, 16, 4⟩
def LOM_DUMP_STAT.buf_wait (i : Nat) : Fld := ⟨0x200118 + 0x1000 * i, 20, 1⟩
def LOM_DUMP_STAT.word (i : Nat) : Fld := ⟨0x200118 + 0x1000 * i, 0, 32⟩
-- LOM_SPILLQ: 06_bobbins_records R180
def LOM_SPILLQ.occupancy (i : Nat) : Fld := ⟨0x20011c + 0x1000 * i, 0, 11⟩
def LOM_SPILLQ.admitted_now (i : Nat) : Fld := ⟨0x20011c + 0x1000 * i, 16, 11⟩
def LOM_SPILLQ.word (i : Nat) : Fld := ⟨0x20011c + 0x1000 * i, 0, 32⟩
-- LOM_SPILL_LOST: 06_bobbins_records R180
def LOM_SPILL_LOST.discarded (i : Nat) : Fld := ⟨0x200120 + 0x1000 * i, 0, 32⟩
def LOM_SPILL_LOST.word (i : Nat) : Fld := ⟨0x200120 + 0x1000 * i, 0, 32⟩
-- LOM_BB_CLR: 06_bobbins_records R180
def LOM_BB_CLR.clear (i : Nat) : Fld := ⟨0x2001fc + 0x1000 * i, 0, 1⟩
def LOM_BB_CLR.word (i : Nat) : Fld := ⟨0x2001fc + 0x1000 * i, 0, 32⟩
-- HRN_STAT: 07_harness R210
def HRN_STAT.unblanked (i : Nat) : Fld := ⟨0x300000 + 0x1000 * i, 0, 7⟩
def HRN_STAT.blending (i : Nat) : Fld := ⟨0x300000 + 0x1000 * i, 8, 1⟩
def HRN_STAT.word (i : Nat) : Fld := ⟨0x300000 + 0x1000 * i, 0, 32⟩
-- HRN_WECC: 07_harness R210
def HRN_WECC.corrected (i : Nat) : Fld := ⟨0x300004 + 0x1000 * i, 0, 16⟩
def HRN_WECC.uncorrected (i : Nat) : Fld := ⟨0x300004 + 0x1000 * i, 16, 16⟩
def HRN_WECC.word (i : Nat) : Fld := ⟨0x300004 + 0x1000 * i, 0, 32⟩
-- HRN_CLR: 07_harness R210
def HRN_CLR.clear (i : Nat) : Fld := ⟨0x300008 + 0x1000 * i, 0, 1⟩
def HRN_CLR.word (i : Nat) : Fld := ⟨0x300008 + 0x1000 * i, 0, 32⟩
-- HST_SWAP: 07_harness R211
def HST_SWAP.fade_len : Fld := ⟨0x370000, 0, 9⟩
def HST_SWAP.target : Fld := ⟨0x370000, 12, 1⟩
def HST_SWAP.req_seq : Fld := ⟨0x370000, 16, 4⟩
def HST_SWAP.word : Fld := ⟨0x370000, 0, 32⟩
-- HST_STATE: 07_harness R211
def HST_STATE.active : Fld := ⟨0x370004, 0, 1⟩
def HST_STATE.phase : Fld := ⟨0x370004, 1, 2⟩
def HST_STATE.latched : Fld := ⟨0x370004, 3, 1⟩
def HST_STATE.latched_target : Fld := ⟨0x370004, 4, 1⟩
def HST_STATE.latched_len : Fld := ⟨0x370004, 5, 9⟩
def HST_STATE.two_sets : Fld := ⟨0x370004, 14, 1⟩
def HST_STATE.word : Fld := ⟨0x370004, 0, 32⟩
-- HST_SW_PN_LO: 07_harness R211
def HST_SW_PN_LO.sw_lo : Fld := ⟨0x370008, 0, 32⟩
def HST_SW_PN_LO.word : Fld := ⟨0x370008, 0, 32⟩
-- HST_SW_PN_HI: 07_harness R211
def HST_SW_PN_HI.sw_hi : Fld := ⟨0x37000c, 0, 16⟩
def HST_SW_PN_HI.sw_epoch : Fld := ⟨0x37000c, 16, 16⟩
def HST_SW_PN_HI.word : Fld := ⟨0x37000c, 0, 32⟩
-- HST_SW_LEN: 07_harness R211
def HST_SW_LEN.f_eff : Fld := ⟨0x370010, 0, 9⟩
def HST_SW_LEN.sw_target : Fld := ⟨0x370010, 9, 1⟩
def HST_SW_LEN.word : Fld := ⟨0x370010, 0, 32⟩
-- HST_EVENT: 07_harness R211
def HST_EVENT.started : Fld := ⟨0x370014, 0, 1⟩
def HST_EVENT.ended : Fld := ⟨0x370014, 1, 1⟩
def HST_EVENT.latched : Fld := ⟨0x370014, 2, 1⟩
def HST_EVENT.replaced : Fld := ⟨0x370014, 3, 1⟩
def HST_EVENT.noop : Fld := ⟨0x370014, 4, 1⟩
def HST_EVENT.bank_invalid : Fld := ⟨0x370014, 5, 1⟩
def HST_EVENT.write_refused : Fld := ⟨0x370014, 6, 1⟩
def HST_EVENT.dt_clamp : Fld := ⟨0x370014, 7, 1⟩
def HST_EVENT.gain_sat : Fld := ⟨0x370014, 8, 1⟩
def HST_EVENT.word : Fld := ⟨0x370014, 0, 32⟩
-- HST_EVT_EN: 07_harness R211
def HST_EVT_EN.enable : Fld := ⟨0x370018, 0, 9⟩
def HST_EVT_EN.word : Fld := ⟨0x370018, 0, 32⟩
-- HST_GAIN_SEL: 07_harness R211
def HST_GAIN_SEL.gain_set : Fld := ⟨0x370020, 0, 1⟩
def HST_GAIN_SEL.word : Fld := ⟨0x370020, 0, 32⟩
-- HST_BASE_A_LO: 07_harness R211
def HST_BASE_A_LO.base_lo : Fld := ⟨0x370030, 0, 32⟩
def HST_BASE_A_LO.word : Fld := ⟨0x370030, 0, 32⟩
-- HST_BASE_A_HI: 07_harness R211
def HST_BASE_A_HI.base_hi : Fld := ⟨0x370034, 0, 16⟩
def HST_BASE_A_HI.word : Fld := ⟨0x370034, 0, 32⟩
-- HST_BASE_B_LO: 07_harness R211
def HST_BASE_B_LO.base_lo : Fld := ⟨0x370038, 0, 32⟩
def HST_BASE_B_LO.word : Fld := ⟨0x370038, 0, 32⟩
-- HST_BASE_B_HI: 07_harness R211
def HST_BASE_B_HI.base_hi : Fld := ⟨0x37003c, 0, 16⟩
def HST_BASE_B_HI.word : Fld := ⟨0x37003c, 0, 32⟩
-- HST_GAIN0_LO: 07_harness R211
def HST_GAIN0_LO.base_lo : Fld := ⟨0x370040, 0, 32⟩
def HST_GAIN0_LO.word : Fld := ⟨0x370040, 0, 32⟩
-- HST_GAIN0_HI: 07_harness R211
def HST_GAIN0_HI.base_hi : Fld := ⟨0x370044, 0, 16⟩
def HST_GAIN0_HI.word : Fld := ⟨0x370044, 0, 32⟩
-- HST_GAIN1_LO: 07_harness R211
def HST_GAIN1_LO.base_lo : Fld := ⟨0x370048, 0, 32⟩
def HST_GAIN1_LO.word : Fld := ⟨0x370048, 0, 32⟩
-- HST_GAIN1_HI: 07_harness R211
def HST_GAIN1_HI.base_hi : Fld := ⟨0x37004c, 0, 16⟩
def HST_GAIN1_HI.word : Fld := ⟨0x37004c, 0, 32⟩
-- HST_GEN: 07_harness R211
def HST_GEN.gen_picks : Fld := ⟨0x370050, 0, 16⟩
def HST_GEN.beam_limit : Fld := ⟨0x370050, 16, 10⟩
def HST_GEN.word : Fld := ⟨0x370050, 0, 32⟩
-- HST_CNT_SAT: 07_harness R211
def HST_CNT_SAT.count : Fld := ⟨0x370054, 0, 32⟩
def HST_CNT_SAT.word : Fld := ⟨0x370054, 0, 32⟩
-- HST_CNT_REFUSED: 07_harness R211
def HST_CNT_REFUSED.count : Fld := ⟨0x370058, 0, 32⟩
def HST_CNT_REFUSED.word : Fld := ⟨0x370058, 0, 32⟩
-- BTN_SAT: 07_harness R212
def BTN_SAT.count : Fld := ⟨0x380000, 0, 32⟩
def BTN_SAT.word : Fld := ⟨0x380000, 0, 32⟩
-- BTN_PEAK: 07_harness R212
def BTN_PEAK.value : Fld := ⟨0x380004, 0, 23⟩
def BTN_PEAK.word : Fld := ⟨0x380004, 0, 32⟩
-- BTN_PEAK_BEAM: 07_harness R212
def BTN_PEAK_BEAM.beam : Fld := ⟨0x380008, 0, 9⟩
def BTN_PEAK_BEAM.word : Fld := ⟨0x380008, 0, 32⟩
-- BTN_CLASSES: 07_harness R212
def BTN_CLASSES.voltage : Fld := ⟨0x38000c, 0, 10⟩
def BTN_CLASSES.zoom : Fld := ⟨0x38000c, 10, 10⟩
def BTN_CLASSES.power : Fld := ⟨0x38000c, 20, 10⟩
def BTN_CLASSES.word : Fld := ⟨0x38000c, 0, 32⟩
-- BTN_ROUTE_ERR: 07_harness R212
def BTN_ROUTE_ERR.route_err : Fld := ⟨0x380010, 0, 32⟩
def BTN_ROUTE_ERR.word : Fld := ⟨0x380010, 0, 32⟩
-- BTN_CLR: 07_harness R212
def BTN_CLR.clear : Fld := ⟨0x38001c, 0, 1⟩
def BTN_CLR.word : Fld := ⟨0x38001c, 0, 32⟩
-- ZCH_GEN: 08_zoom_power_chains R237
def ZCH_GEN.gen : Fld := ⟨0x400000, 0, 32⟩
def ZCH_GEN.word : Fld := ⟨0x400000, 0, 32⟩
-- ZCH_STAT: 08_zoom_power_chains R237
def ZCH_STAT.load_late : Fld := ⟨0x400004, 0, 1⟩
def ZCH_STAT.state_err : Fld := ⟨0x400004, 1, 1⟩
def ZCH_STAT.gen_wrap : Fld := ⟨0x400004, 2, 1⟩
def ZCH_STAT.word : Fld := ⟨0x400004, 0, 32⟩
-- ZCH_SAT: 08_zoom_power_chains R237
def ZCH_SAT.count : Fld := ⟨0x400008, 0, 32⟩
def ZCH_SAT.word : Fld := ⟨0x400008, 0, 32⟩
-- ZCH_GAP: 08_zoom_power_chains R237
def ZCH_GAP.count : Fld := ⟨0x40000c, 0, 32⟩
def ZCH_GAP.word : Fld := ⟨0x40000c, 0, 32⟩
-- ZCH_CLR: 08_zoom_power_chains R237
def ZCH_CLR.clear : Fld := ⟨0x40001c, 0, 1⟩
def ZCH_CLR.word : Fld := ⟨0x40001c, 0, 32⟩
-- ZCH_STATE_BASE_LO: 08_zoom_power_chains R237
def ZCH_STATE_BASE_LO.base_lo : Fld := ⟨0x400020, 0, 32⟩
def ZCH_STATE_BASE_LO.word : Fld := ⟨0x400020, 0, 32⟩
-- ZCH_STATE_BASE_HI: 08_zoom_power_chains R237
def ZCH_STATE_BASE_HI.base_hi : Fld := ⟨0x400024, 0, 16⟩
def ZCH_STATE_BASE_HI.word : Fld := ⟨0x400024, 0, 32⟩
-- ZCH_COEF_SEL: 08_zoom_power_chains R237
def ZCH_COEF_SEL.set_ : Fld := ⟨0x400030, 0, 2⟩
def ZCH_COEF_SEL.phase : Fld := ⟨0x400030, 2, 8⟩
def ZCH_COEF_SEL.tap : Fld := ⟨0x400030, 10, 6⟩
def ZCH_COEF_SEL.word : Fld := ⟨0x400030, 0, 32⟩
-- ZCH_COEF_DATA: 08_zoom_power_chains R237
def ZCH_COEF_DATA.coef : Fld := ⟨0x400034, 0, 19⟩
def ZCH_COEF_DATA.word : Fld := ⟨0x400034, 0, 32⟩
-- ZCH_CFG: 08_zoom_power_chains R237
def ZCH_CFG.beam (k : Nat) : Fld := ⟨0x401000 + 0x10 * k, 0, 9⟩
def ZCH_CFG.n_hb (k : Nat) : Fld := ⟨0x401000 + 0x10 * k, 9, 3⟩
def ZCH_CFG.preset (k : Nat) : Fld := ⟨0x401000 + 0x10 * k, 12, 2⟩
def ZCH_CFG.wide (k : Nat) : Fld := ⟨0x401000 + 0x10 * k, 14, 1⟩
def ZCH_CFG.configured (k : Nat) : Fld := ⟨0x401000 + 0x10 * k, 15, 1⟩
def ZCH_CFG.queue (k : Nat) : Fld := ⟨0x401000 + 0x10 * k, 16, 13⟩
def ZCH_CFG.word (k : Nat) : Fld := ⟨0x401000 + 0x10 * k, 0, 32⟩
-- ZCH_RATIO: 08_zoom_power_chains R237
def ZCH_RATIO.ratio (k : Nat) : Fld := ⟨0x401004 + 0x10 * k, 0, 32⟩
def ZCH_RATIO.word (k : Nat) : Fld := ⟨0x401004 + 0x10 * k, 0, 32⟩
-- ZCH_SHIFT: 08_zoom_power_chains R237
def ZCH_SHIFT.shift (k : Nat) : Fld := ⟨0x401008 + 0x10 * k, 0, 5⟩
def ZCH_SHIFT.word (k : Nat) : Fld := ⟨0x401008 + 0x10 * k, 0, 32⟩
-- ZCH_SEQ: 08_zoom_power_chains R237
def ZCH_SEQ.seq (k : Nat) : Fld := ⟨0x40100c + 0x10 * k, 0, 32⟩
def ZCH_SEQ.word (k : Nat) : Fld := ⟨0x40100c + 0x10 * k, 0, 32⟩
-- PWD_STAT: 08_zoom_power_chains R238
def PWD_STAT.load_late : Fld := ⟨0x440004, 0, 1⟩
def PWD_STAT.state_err : Fld := ⟨0x440004, 1, 1⟩
def PWD_STAT.word : Fld := ⟨0x440004, 0, 32⟩
-- PWD_SAT: 08_zoom_power_chains R238
def PWD_SAT.count : Fld := ⟨0x440008, 0, 32⟩
def PWD_SAT.word : Fld := ⟨0x440008, 0, 32⟩
-- PWD_GAP: 08_zoom_power_chains R238
def PWD_GAP.count : Fld := ⟨0x44000c, 0, 32⟩
def PWD_GAP.word : Fld := ⟨0x44000c, 0, 32⟩
-- PWD_CLR: 08_zoom_power_chains R238
def PWD_CLR.clear : Fld := ⟨0x44001c, 0, 1⟩
def PWD_CLR.word : Fld := ⟨0x44001c, 0, 32⟩
-- PWD_CFG: 08_zoom_power_chains R238
def PWD_CFG.length (k : Nat) : Fld := ⟨0x441000 + 0x10 * k, 0, 16⟩
def PWD_CFG.decim (k : Nat) : Fld := ⟨0x441000 + 0x10 * k, 16, 16⟩
def PWD_CFG.word (k : Nat) : Fld := ⟨0x441000 + 0x10 * k, 0, 32⟩
-- PWD_OUT: 08_zoom_power_chains R238
def PWD_OUT.shift (k : Nat) : Fld := ⟨0x441004 + 0x10 * k, 0, 6⟩
def PWD_OUT.configured (k : Nat) : Fld := ⟨0x441004 + 0x10 * k, 6, 1⟩
def PWD_OUT.queue (k : Nat) : Fld := ⟨0x441004 + 0x10 * k, 8, 13⟩
def PWD_OUT.word (k : Nat) : Fld := ⟨0x441004 + 0x10 * k, 0, 32⟩
-- PWD_LAST: 08_zoom_power_chains R238
def PWD_LAST.value (k : Nat) : Fld := ⟨0x441008 + 0x10 * k, 0, 32⟩
def PWD_LAST.word (k : Nat) : Fld := ⟨0x441008 + 0x10 * k, 0, 32⟩
-- TRD_CTL: 09_treadle R258
def TRD_CTL.run (i : Nat) : Fld := ⟨0x480000 + 0x10000 * i, 0, 1⟩
def TRD_CTL.trig_en (i : Nat) : Fld := ⟨0x480000 + 0x10000 * i, 1, 1⟩
def TRD_CTL.word (i : Nat) : Fld := ⟨0x480000 + 0x10000 * i, 0, 32⟩
-- TRD_STAT: 09_treadle R258
def TRD_STAT.state (i : Nat) : Fld := ⟨0x480004 + 0x10000 * i, 0, 3⟩
def TRD_STAT.circ_reduce (i : Nat) : Fld := ⟨0x480004 + 0x10000 * i, 3, 1⟩
def TRD_STAT.illegal (i : Nat) : Fld := ⟨0x480004 + 0x10000 * i, 4, 1⟩
def TRD_STAT.overrun (i : Nat) : Fld := ⟨0x480004 + 0x10000 * i, 5, 1⟩
def TRD_STAT.apu_drop (i : Nat) : Fld := ⟨0x480004 + 0x10000 * i, 6, 1⟩
def TRD_STAT.det_drop (i : Nat) : Fld := ⟨0x480004 + 0x10000 * i, 7, 1⟩
def TRD_STAT.trig_merged (i : Nat) : Fld := ⟨0x480004 + 0x10000 * i, 8, 1⟩
def TRD_STAT.emit_trunc (i : Nat) : Fld := ⟨0x480004 + 0x10000 * i, 9, 1⟩
def TRD_STAT.emit_drop (i : Nat) : Fld := ⟨0x480004 + 0x10000 * i, 10, 1⟩
def TRD_STAT.word (i : Nat) : Fld := ⟨0x480004 + 0x10000 * i, 0, 32⟩
-- TRD_PC: 09_treadle R258
def TRD_PC.pc (i : Nat) : Fld := ⟨0x480008 + 0x10000 * i, 0, 14⟩
def TRD_PC.word (i : Nat) : Fld := ⟨0x480008 + 0x10000 * i, 0, 32⟩
-- TRD_CFG: 09_treadle R258
def TRD_CFG.apu_sub (i : Nat) : Fld := ⟨0x48000c + 0x10000 * i, 0, 1⟩
def TRD_CFG.loaded (i : Nat) : Fld := ⟨0x48000c + 0x10000 * i, 1, 1⟩
def TRD_CFG.cycle_bound (i : Nat) : Fld := ⟨0x48000c + 0x10000 * i, 16, 16⟩
def TRD_CFG.word (i : Nat) : Fld := ⟨0x48000c + 0x10000 * i, 0, 32⟩
-- TRD_BUSY: 09_treadle R258
def TRD_BUSY.last (i : Nat) : Fld := ⟨0x480010 + 0x10000 * i, 0, 16⟩
def TRD_BUSY.peak (i : Nat) : Fld := ⟨0x480010 + 0x10000 * i, 16, 16⟩
def TRD_BUSY.word (i : Nat) : Fld := ⟨0x480010 + 0x10000 * i, 0, 32⟩
-- TRD_OVERRUN: 09_treadle R258
def TRD_OVERRUN.count (i : Nat) : Fld := ⟨0x480014 + 0x10000 * i, 0, 32⟩
def TRD_OVERRUN.word (i : Nat) : Fld := ⟨0x480014 + 0x10000 * i, 0, 32⟩
-- TRD_SATCNT: 09_treadle R258
def TRD_SATCNT.count (i : Nat) : Fld := ⟨0x480018 + 0x10000 * i, 0, 32⟩
def TRD_SATCNT.word (i : Nat) : Fld := ⟨0x480018 + 0x10000 * i, 0, 32⟩
-- TRD_TRIG_CNT: 09_treadle R258
def TRD_TRIG_CNT.count (i : Nat) : Fld := ⟨0x480024 + 0x10000 * i, 0, 32⟩
def TRD_TRIG_CNT.word (i : Nat) : Fld := ⟨0x480024 + 0x10000 * i, 0, 32⟩
-- TRD_EMIT_CNT: 09_treadle R258
def TRD_EMIT_CNT.count (i : Nat) : Fld := ⟨0x480030 + 0x10000 * i, 0, 32⟩
def TRD_EMIT_CNT.word (i : Nat) : Fld := ⟨0x480030 + 0x10000 * i, 0, 32⟩
-- TRD_CLAMP: 09_treadle R258
def TRD_CLAMP.count (i : Nat) : Fld := ⟨0x480034 + 0x10000 * i, 0, 32⟩
def TRD_CLAMP.word (i : Nat) : Fld := ⟨0x480034 + 0x10000 * i, 0, 32⟩
-- TRD_DROP: 09_treadle R258
def TRD_DROP.apu (i : Nat) : Fld := ⟨0x48001c + 0x10000 * i, 0, 16⟩
def TRD_DROP.det (i : Nat) : Fld := ⟨0x48001c + 0x10000 * i, 16, 16⟩
def TRD_DROP.word (i : Nat) : Fld := ⟨0x48001c + 0x10000 * i, 0, 32⟩
-- TRD_FIFO: 09_treadle R258
def TRD_FIFO.apu_level (i : Nat) : Fld := ⟨0x480020 + 0x10000 * i, 0, 10⟩
def TRD_FIFO.det_level (i : Nat) : Fld := ⟨0x480020 + 0x10000 * i, 16, 13⟩
def TRD_FIFO.word (i : Nat) : Fld := ⟨0x480020 + 0x10000 * i, 0, 32⟩
-- TRD_TRIG_CAUSE: 09_treadle R258
def TRD_TRIG_CAUSE.value (i : Nat) : Fld := ⟨0x480028 + 0x10000 * i, 0, 32⟩
def TRD_TRIG_CAUSE.word (i : Nat) : Fld := ⟨0x480028 + 0x10000 * i, 0, 32⟩
-- TRD_TRIG_PN: 09_treadle R258
def TRD_TRIG_PN.value (i : Nat) : Fld := ⟨0x48002c + 0x10000 * i, 0, 32⟩
def TRD_TRIG_PN.word (i : Nat) : Fld := ⟨0x48002c + 0x10000 * i, 0, 32⟩
-- TRD_DADDR: 09_treadle R258
def TRD_DADDR.addr (i : Nat) : Fld := ⟨0x480038 + 0x10000 * i, 0, 16⟩
def TRD_DADDR.word (i : Nat) : Fld := ⟨0x480038 + 0x10000 * i, 0, 32⟩
-- TRD_DDATA: 09_treadle R258
def TRD_DDATA.data (i : Nat) : Fld := ⟨0x48003c + 0x10000 * i, 0, 32⟩
def TRD_DDATA.word (i : Nat) : Fld := ⟨0x48003c + 0x10000 * i, 0, 32⟩
-- TRD_CLR: 09_treadle R258
def TRD_CLR.clear (i : Nat) : Fld := ⟨0x480040 + 0x10000 * i, 0, 1⟩
def TRD_CLR.word (i : Nat) : Fld := ⟨0x480040 + 0x10000 * i, 0, 32⟩
-- TRD_PARAM: 09_treadle R258
def TRD_PARAM.param (i k : Nat) : Fld := ⟨0x480080 + 0x10000 * i + 0x4 * k, 0, 32⟩
def TRD_PARAM.word (i k : Nat) : Fld := ⟨0x480080 + 0x10000 * i + 0x4 * k, 0, 32⟩
-- TRD_DSUB: 09_treadle R258
def TRD_DSUB.mask (i k : Nat) : Fld := ⟨0x480100 + 0x10000 * i + 0x4 * k, 0, 32⟩
def TRD_DSUB.word (i k : Nat) : Fld := ⟨0x480100 + 0x10000 * i + 0x4 * k, 0, 32⟩
-- TRD_QUEUE: 09_treadle R258
def TRD_QUEUE.queue (i k : Nat) : Fld := ⟨0x480140 + 0x10000 * i + 0x4 * k, 0, 13⟩
def TRD_QUEUE.valid (i k : Nat) : Fld := ⟨0x480140 + 0x10000 * i + 0x4 * k, 31, 1⟩
def TRD_QUEUE.word (i k : Nat) : Fld := ⟨0x480140 + 0x10000 * i + 0x4 * k, 0, 32⟩
-- JRN_CFG: 10_journal R293
def JRN_CFG.n_seg : Fld := ⟨0x500000, 0, 12⟩
def JRN_CFG.cap_limit : Fld := ⟨0x500000, 12, 12⟩
def JRN_CFG.word : Fld := ⟨0x500000, 0, 32⟩
-- JRN_SEG_STAT: 10_journal R293
def JRN_SEG_STAT.frozen : Fld := ⟨0x500004, 0, 12⟩
def JRN_SEG_STAT.held : Fld := ⟨0x500004, 12, 12⟩
def JRN_SEG_STAT.word : Fld := ⟨0x500004, 0, 32⟩
-- JRN_WSEG: 10_journal R293
def JRN_WSEG.segment : Fld := ⟨0x500008, 0, 12⟩
def JRN_WSEG.word : Fld := ⟨0x500008, 0, 32⟩
-- JRN_BASE_LO: 10_journal R293
def JRN_BASE_LO.base_lo : Fld := ⟨0x500010, 0, 32⟩
def JRN_BASE_LO.word : Fld := ⟨0x500010, 0, 32⟩
-- JRN_BASE_HI: 10_journal R293
def JRN_BASE_HI.base_hi : Fld := ⟨0x500014, 0, 16⟩
def JRN_BASE_HI.word : Fld := ⟨0x500014, 0, 32⟩
-- JRN_DIR_BASE_LO: 10_journal R293
def JRN_DIR_BASE_LO.base_lo : Fld := ⟨0x500018, 0, 32⟩
def JRN_DIR_BASE_LO.word : Fld := ⟨0x500018, 0, 32⟩
-- JRN_DIR_BASE_HI: 10_journal R293
def JRN_DIR_BASE_HI.base_hi : Fld := ⟨0x50001c, 0, 16⟩
def JRN_DIR_BASE_HI.word : Fld := ⟨0x50001c, 0, 32⟩
-- JRN_SLOG_BASE_LO: 10_journal R293
def JRN_SLOG_BASE_LO.base_lo : Fld := ⟨0x500020, 0, 32⟩
def JRN_SLOG_BASE_LO.word : Fld := ⟨0x500020, 0, 32⟩
-- JRN_SLOG_BASE_HI: 10_journal R293
def JRN_SLOG_BASE_HI.base_hi : Fld := ⟨0x500024, 0, 16⟩
def JRN_SLOG_BASE_HI.word : Fld := ⟨0x500024, 0, 32⟩
-- JRN_OLDEST_LO: 10_journal R293
def JRN_OLDEST_LO.old_lo : Fld := ⟨0x500030, 0, 32⟩
def JRN_OLDEST_LO.word : Fld := ⟨0x500030, 0, 32⟩
-- JRN_OLDEST_HI: 10_journal R293
def JRN_OLDEST_HI.old_hi : Fld := ⟨0x500034, 0, 32⟩
def JRN_OLDEST_HI.word : Fld := ⟨0x500034, 0, 32⟩
-- JRN_CAP_PRE: 10_journal R293
def JRN_CAP_PRE.picks : Fld := ⟨0x500040, 0, 24⟩
def JRN_CAP_PRE.word : Fld := ⟨0x500040, 0, 32⟩
-- JRN_CAP_POST: 10_journal R293
def JRN_CAP_POST.picks : Fld := ⟨0x500044, 0, 24⟩
def JRN_CAP_POST.word : Fld := ⟨0x500044, 0, 32⟩
-- JRN_CAP_AT_LO: 10_journal R293
def JRN_CAP_AT_LO.at_lo : Fld := ⟨0x500048, 0, 32⟩
def JRN_CAP_AT_LO.word : Fld := ⟨0x500048, 0, 32⟩
-- JRN_CAP_AT_HI: 10_journal R293
def JRN_CAP_AT_HI.at_hi : Fld := ⟨0x50004c, 0, 32⟩
def JRN_CAP_AT_HI.word : Fld := ⟨0x50004c, 0, 32⟩
-- JRN_CAP_PORTS_LO: 10_journal R293
def JRN_CAP_PORTS_LO.ports_lo : Fld := ⟨0x500050, 0, 32⟩
def JRN_CAP_PORTS_LO.word : Fld := ⟨0x500050, 0, 32⟩
-- JRN_CAP_PORTS_HI: 10_journal R293
def JRN_CAP_PORTS_HI.ports_hi : Fld := ⟨0x500054, 0, 32⟩
def JRN_CAP_PORTS_HI.word : Fld := ⟨0x500054, 0, 32⟩
-- JRN_CAP_CMD: 10_journal R293
def JRN_CAP_CMD.op : Fld := ⟨0x500060, 0, 2⟩
def JRN_CAP_CMD.use_at : Fld := ⟨0x500060, 2, 1⟩
def JRN_CAP_CMD.auto_release : Fld := ⟨0x500060, 3, 1⟩
def JRN_CAP_CMD.slot : Fld := ⟨0x500060, 4, 4⟩
def JRN_CAP_CMD.word : Fld := ⟨0x500060, 0, 32⟩
-- JRN_EVENT: 10_journal R293
def JRN_EVENT.freeze : Fld := ⟨0x500064, 0, 1⟩
def JRN_EVENT.merged : Fld := ⟨0x500064, 1, 1⟩
def JRN_EVENT.trimmed : Fld := ⟨0x500064, 2, 1⟩
def JRN_EVENT.refused : Fld := ⟨0x500064, 3, 1⟩
def JRN_EVENT.short_pre : Fld := ⟨0x500064, 4, 1⟩
def JRN_EVENT.complete : Fld := ⟨0x500064, 5, 1⟩
def JRN_EVENT.read_done : Fld := ⟨0x500064, 6, 1⟩
def JRN_EVENT.released : Fld := ⟨0x500064, 7, 1⟩
def JRN_EVENT.replay_start : Fld := ⟨0x500064, 8, 1⟩
def JRN_EVENT.replay_end : Fld := ⟨0x500064, 9, 1⟩
def JRN_EVENT.replay_abandon : Fld := ⟨0x500064, 10, 1⟩
def JRN_EVENT.no_segment : Fld := ⟨0x500064, 11, 1⟩
def JRN_EVENT.word : Fld := ⟨0x500064, 0, 32⟩
-- JRN_EVT_EN: 10_journal R293
def JRN_EVT_EN.enable : Fld := ⟨0x500068, 0, 12⟩
def JRN_EVT_EN.word : Fld := ⟨0x500068, 0, 32⟩
-- JRN_TRIG_CNT: 10_journal R293
def JRN_TRIG_CNT.taken : Fld := ⟨0x500070, 0, 16⟩
def JRN_TRIG_CNT.refused : Fld := ⟨0x500070, 16, 16⟩
def JRN_TRIG_CNT.word : Fld := ⟨0x500070, 0, 32⟩
-- JRN_REPLAY: 10_journal R293
def JRN_REPLAY.logical : Fld := ⟨0x500074, 0, 6⟩
def JRN_REPLAY.physical : Fld := ⟨0x500074, 6, 7⟩
def JRN_REPLAY.running : Fld := ⟨0x500074, 13, 1⟩
def JRN_REPLAY.waiting : Fld := ⟨0x500074, 14, 3⟩
def JRN_REPLAY.word : Fld := ⟨0x500074, 0, 32⟩
-- JRN_REPLAY_PROG: 10_journal R293
def JRN_REPLAY_PROG.done : Fld := ⟨0x500078, 0, 16⟩
def JRN_REPLAY_PROG.total : Fld := ⟨0x500078, 16, 16⟩
def JRN_REPLAY_PROG.word : Fld := ⟨0x500078, 0, 32⟩
-- JRN_REPLAY_CNT: 10_journal R293
def JRN_REPLAY_CNT.started : Fld := ⟨0x50007c, 0, 8⟩
def JRN_REPLAY_CNT.ended : Fld := ⟨0x50007c, 8, 8⟩
def JRN_REPLAY_CNT.abandoned : Fld := ⟨0x50007c, 16, 8⟩
def JRN_REPLAY_CNT.word : Fld := ⟨0x50007c, 0, 32⟩
-- JRN_LSEQ_LO: 10_journal R293
def JRN_LSEQ_LO.lseq_lo : Fld := ⟨0x500080, 0, 32⟩
def JRN_LSEQ_LO.word : Fld := ⟨0x500080, 0, 32⟩
-- JRN_LSEQ_HI: 10_journal R293
def JRN_LSEQ_HI.lseq_hi : Fld := ⟨0x500084, 0, 32⟩
def JRN_LSEQ_HI.word : Fld := ⟨0x500084, 0, 32⟩
-- JRN_LEDGER_ERR: 10_journal R293
def JRN_LEDGER_ERR.copy0 : Fld := ⟨0x500088, 0, 16⟩
def JRN_LEDGER_ERR.copy1 : Fld := ⟨0x500088, 16, 16⟩
def JRN_LEDGER_ERR.word : Fld := ⟨0x500088, 0, 32⟩
-- JRN_UNJOURNALLED: 10_journal R293
def JRN_UNJOURNALLED.count : Fld := ⟨0x50008c, 0, 32⟩
def JRN_UNJOURNALLED.word : Fld := ⟨0x50008c, 0, 32⟩
-- JRN_DIR_ERR: 10_journal R293
def JRN_DIR_ERR.count : Fld := ⟨0x500090, 0, 32⟩
def JRN_DIR_ERR.word : Fld := ⟨0x500090, 0, 32⟩
-- JRN_LEDGER_LOST: 10_journal R293
def JRN_LEDGER_LOST.lost : Fld := ⟨0x500094, 0, 32⟩
def JRN_LEDGER_LOST.word : Fld := ⟨0x500094, 0, 32⟩
-- JRN_CLR: 10_journal R293
def JRN_CLR.clear : Fld := ⟨0x50009c, 0, 1⟩
def JRN_CLR.word : Fld := ⟨0x50009c, 0, 32⟩
-- JRN_CAP_STAT: 10_journal R293
def JRN_CAP_STAT.state (k : Nat) : Fld := ⟨0x500100 + 0x10 * k, 0, 3⟩
def JRN_CAP_STAT.trimmed (k : Nat) : Fld := ⟨0x500100 + 0x10 * k, 3, 1⟩
def JRN_CAP_STAT.short_pre (k : Nat) : Fld := ⟨0x500100 + 0x10 * k, 4, 1⟩
def JRN_CAP_STAT.serial (k : Nat) : Fld := ⟨0x500100 + 0x10 * k, 16, 16⟩
def JRN_CAP_STAT.word (k : Nat) : Fld := ⟨0x500100 + 0x10 * k, 0, 32⟩
-- JRN_CAP_T_LO: 10_journal R293
def JRN_CAP_T_LO.t_lo (k : Nat) : Fld := ⟨0x500104 + 0x10 * k, 0, 32⟩
def JRN_CAP_T_LO.word (k : Nat) : Fld := ⟨0x500104 + 0x10 * k, 0, 32⟩
-- JRN_CAP_T_HI: 10_journal R293
def JRN_CAP_T_HI.t_hi (k : Nat) : Fld := ⟨0x500108 + 0x10 * k, 0, 32⟩
def JRN_CAP_T_HI.word (k : Nat) : Fld := ⟨0x500108 + 0x10 * k, 0, 32⟩
-- JRN_CAP_PROG: 10_journal R293
def JRN_CAP_PROG.pieces (k : Nat) : Fld := ⟨0x50010c + 0x10 * k, 0, 32⟩
def JRN_CAP_PROG.word (k : Nat) : Fld := ⟨0x50010c + 0x10 * k, 0, 32⟩
-- JRN_CAP_SEG: 10_journal R293
def JRN_CAP_SEG.segments (k : Nat) : Fld := ⟨0x500200 + 0x4 * k, 0, 12⟩
def JRN_CAP_SEG.word (k : Nat) : Fld := ⟨0x500200 + 0x4 * k, 0, 32⟩

end Sys2Proof.Machine
end

