-- ==== Sys2Proof/Machine/FieldsOut.lean ====
section
/-! DEFINITION. The named register fields of the blocks CLO, SPL, DRM, SHT, MTX, HDL, WGE, each its address, lowest bit and width,
as the register tables of spec/ give them. The last word of a name is the field; `word` is the whole register.
The first argument is the block instance, the second the register's index. -/

namespace Sys2Proof.Machine

-- CLO_CTL: 11_cloth R324
def CLO_CTL.enable (i : Nat) : Fld := ⟨0x580000 + 0x1000 * i, 0, 1⟩
def CLO_CTL.word (i : Nat) : Fld := ⟨0x580000 + 0x1000 * i, 0, 32⟩
-- CLO_STAT: 11_cloth R324
def CLO_STAT.state (i : Nat) : Fld := ⟨0x580004 + 0x1000 * i, 0, 3⟩
def CLO_STAT.pcs_lock (i : Nat) : Fld := ⟨0x580004 + 0x1000 * i, 3, 1⟩
def CLO_STAT.fec_align (i : Nat) : Fld := ⟨0x580004 + 0x1000 * i, 4, 1⟩
def CLO_STAT.queues (i : Nat) : Fld := ⟨0x580004 + 0x1000 * i, 16, 14⟩
def CLO_STAT.word (i : Nat) : Fld := ⟨0x580004 + 0x1000 * i, 0, 32⟩
-- CLO_MAC_LO: 11_cloth R324
def CLO_MAC_LO.mac_lo (i : Nat) : Fld := ⟨0x580010 + 0x1000 * i, 0, 32⟩
def CLO_MAC_LO.word (i : Nat) : Fld := ⟨0x580010 + 0x1000 * i, 0, 32⟩
-- CLO_MAC_HI: 11_cloth R324
def CLO_MAC_HI.mac_hi (i : Nat) : Fld := ⟨0x580014 + 0x1000 * i, 0, 16⟩
def CLO_MAC_HI.word (i : Nat) : Fld := ⟨0x580014 + 0x1000 * i, 0, 32⟩
-- CLO_IP: 11_cloth R324
def CLO_IP.ip (i : Nat) : Fld := ⟨0x580018 + 0x1000 * i, 0, 32⟩
def CLO_IP.word (i : Nat) : Fld := ⟨0x580018 + 0x1000 * i, 0, 32⟩
-- CLO_UDP: 11_cloth R324
def CLO_UDP.rcpt_port (i : Nat) : Fld := ⟨0x58001c + 0x1000 * i, 0, 16⟩
def CLO_UDP.word (i : Nat) : Fld := ⟨0x58001c + 0x1000 * i, 0, 32⟩
-- CLO_TX_FRAMES_LO: 11_cloth R324
def CLO_TX_FRAMES_LO.count_lo (i : Nat) : Fld := ⟨0x580020 + 0x1000 * i, 0, 32⟩
def CLO_TX_FRAMES_LO.word (i : Nat) : Fld := ⟨0x580020 + 0x1000 * i, 0, 32⟩
-- CLO_TX_FRAMES_HI: 11_cloth R324
def CLO_TX_FRAMES_HI.count_hi (i : Nat) : Fld := ⟨0x580024 + 0x1000 * i, 0, 32⟩
def CLO_TX_FRAMES_HI.word (i : Nat) : Fld := ⟨0x580024 + 0x1000 * i, 0, 32⟩
-- CLO_TX_BYTES_LO: 11_cloth R324
def CLO_TX_BYTES_LO.count_lo (i : Nat) : Fld := ⟨0x580028 + 0x1000 * i, 0, 32⟩
def CLO_TX_BYTES_LO.word (i : Nat) : Fld := ⟨0x580028 + 0x1000 * i, 0, 32⟩
-- CLO_TX_BYTES_HI: 11_cloth R324
def CLO_TX_BYTES_HI.count_hi (i : Nat) : Fld := ⟨0x58002c + 0x1000 * i, 0, 32⟩
def CLO_TX_BYTES_HI.word (i : Nat) : Fld := ⟨0x58002c + 0x1000 * i, 0, 32⟩
-- CLO_RETX: 11_cloth R324
def CLO_RETX.count (i : Nat) : Fld := ⟨0x580030 + 0x1000 * i, 0, 32⟩
def CLO_RETX.word (i : Nat) : Fld := ⟨0x580030 + 0x1000 * i, 0, 32⟩
-- CLO_RX_RCPT: 11_cloth R324
def CLO_RX_RCPT.count (i : Nat) : Fld := ⟨0x580034 + 0x1000 * i, 0, 32⟩
def CLO_RX_RCPT.word (i : Nat) : Fld := ⟨0x580034 + 0x1000 * i, 0, 32⟩
-- CLO_RX_DROP: 11_cloth R324
def CLO_RX_DROP.count (i : Nat) : Fld := ⟨0x580038 + 0x1000 * i, 0, 32⟩
def CLO_RX_DROP.word (i : Nat) : Fld := ⟨0x580038 + 0x1000 * i, 0, 32⟩
-- CLO_FEC: 11_cloth R324
def CLO_FEC.corrected (i : Nat) : Fld := ⟨0x58003c + 0x1000 * i, 0, 16⟩
def CLO_FEC.uncorrected (i : Nat) : Fld := ⟨0x58003c + 0x1000 * i, 16, 16⟩
def CLO_FEC.word (i : Nat) : Fld := ⟨0x58003c + 0x1000 * i, 0, 32⟩
-- CLO_CLR: 11_cloth R324
def CLO_CLR.clear (i : Nat) : Fld := ⟨0x58007c + 0x1000 * i, 0, 1⟩
def CLO_CLR.word (i : Nat) : Fld := ⟨0x58007c + 0x1000 * i, 0, 32⟩
-- SPL_CFG: 11_cloth R325
def SPL_CFG.hb_period : Fld := ⟨0x5c0000, 0, 16⟩
def SPL_CFG.word : Fld := ⟨0x5c0000, 0, 32⟩
-- SPL_STAT: 11_cloth R325
def SPL_STAT.stalled : Fld := ⟨0x5c0004, 0, 14⟩
def SPL_STAT.away : Fld := ⟨0x5c0004, 14, 14⟩
def SPL_STAT.word : Fld := ⟨0x5c0004, 0, 32⟩
-- SPL_RING_BASE_LO: 11_cloth R325
def SPL_RING_BASE_LO.base_lo : Fld := ⟨0x5c0010, 0, 32⟩
def SPL_RING_BASE_LO.word : Fld := ⟨0x5c0010, 0, 32⟩
-- SPL_RING_BASE_HI: 11_cloth R325
def SPL_RING_BASE_HI.base_hi : Fld := ⟨0x5c0014, 0, 16⟩
def SPL_RING_BASE_HI.word : Fld := ⟨0x5c0014, 0, 32⟩
-- SPL_INCARN: 11_cloth R325
def SPL_INCARN.value : Fld := ⟨0x5c0018, 0, 32⟩
def SPL_INCARN.word : Fld := ⟨0x5c0018, 0, 32⟩
-- SPL_DEV_TAG: 11_cloth R325
def SPL_DEV_TAG.value : Fld := ⟨0x5c001c, 0, 32⟩
def SPL_DEV_TAG.word : Fld := ⟨0x5c001c, 0, 32⟩
-- SPL_QSEL: 11_cloth R325
def SPL_QSEL.queue : Fld := ⟨0x5c0020, 0, 13⟩
def SPL_QSEL.word : Fld := ⟨0x5c0020, 0, 32⟩
-- SPL_QSTAT: 11_cloth R325
def SPL_QSTAT.state : Fld := ⟨0x5c0024, 0, 2⟩
def SPL_QSTAT.away : Fld := ⟨0x5c0024, 2, 1⟩
def SPL_QSTAT.port : Fld := ⟨0x5c0024, 3, 5⟩
def SPL_QSTAT.outstanding : Fld := ⟨0x5c0024, 8, 17⟩
def SPL_QSTAT.unserved : Fld := ⟨0x5c0024, 25, 1⟩
def SPL_QSTAT.word : Fld := ⟨0x5c0024, 0, 32⟩
-- SPL_QNEXT_LO: 11_cloth R325
def SPL_QNEXT_LO.seq_lo : Fld := ⟨0x5c0028, 0, 32⟩
def SPL_QNEXT_LO.word : Fld := ⟨0x5c0028, 0, 32⟩
-- SPL_QNEXT_HI: 11_cloth R325
def SPL_QNEXT_HI.seq_hi : Fld := ⟨0x5c002c, 0, 16⟩
def SPL_QNEXT_HI.word : Fld := ⟨0x5c002c, 0, 32⟩
-- SPL_QBASE_LO: 11_cloth R325
def SPL_QBASE_LO.seq_lo : Fld := ⟨0x5c0030, 0, 32⟩
def SPL_QBASE_LO.word : Fld := ⟨0x5c0030, 0, 32⟩
-- SPL_QBASE_HI: 11_cloth R325
def SPL_QBASE_HI.seq_hi : Fld := ⟨0x5c0034, 0, 16⟩
def SPL_QBASE_HI.word : Fld := ⟨0x5c0034, 0, 32⟩
-- SPL_QFILL: 11_cloth R325
def SPL_QFILL.count : Fld := ⟨0x5c0038, 0, 32⟩
def SPL_QFILL.word : Fld := ⟨0x5c0038, 0, 32⟩
-- SPL_QLOST: 11_cloth R325
def SPL_QLOST.count : Fld := ⟨0x5c003c, 0, 32⟩
def SPL_QLOST.word : Fld := ⟨0x5c003c, 0, 32⟩
-- SPL_QRETX: 11_cloth R325
def SPL_QRETX.count : Fld := ⟨0x5c0040, 0, 32⟩
def SPL_QRETX.word : Fld := ⟨0x5c0040, 0, 32⟩
-- SPL_EVENT: 11_cloth R325
def SPL_EVENT.stalled : Fld := ⟨0x5c0050, 0, 1⟩
def SPL_EVENT.resumed : Fld := ⟨0x5c0050, 1, 1⟩
def SPL_EVENT.rehomed : Fld := ⟨0x5c0050, 2, 1⟩
def SPL_EVENT.returned : Fld := ⟨0x5c0050, 3, 1⟩
def SPL_EVENT.overrun : Fld := ⟨0x5c0050, 4, 1⟩
def SPL_EVENT.bad_rcpt : Fld := ⟨0x5c0050, 5, 1⟩
def SPL_EVENT.unserved : Fld := ⟨0x5c0050, 6, 1⟩
def SPL_EVENT.word : Fld := ⟨0x5c0050, 0, 32⟩
-- SPL_EVT_EN: 11_cloth R325
def SPL_EVT_EN.enable : Fld := ⟨0x5c0054, 0, 7⟩
def SPL_EVT_EN.word : Fld := ⟨0x5c0054, 0, 32⟩
-- SPL_CNT_RCPT: 11_cloth R325
def SPL_CNT_RCPT.count : Fld := ⟨0x5c0058, 0, 32⟩
def SPL_CNT_RCPT.word : Fld := ⟨0x5c0058, 0, 32⟩
-- SPL_CNT_BADRCPT: 11_cloth R325
def SPL_CNT_BADRCPT.count : Fld := ⟨0x5c005c, 0, 32⟩
def SPL_CNT_BADRCPT.word : Fld := ⟨0x5c005c, 0, 32⟩
-- SPL_CLR: 11_cloth R325
def SPL_CLR.clear : Fld := ⟨0x5c007c, 0, 1⟩
def SPL_CLR.word : Fld := ⟨0x5c007c, 0, 32⟩
-- SPL_RC_RATE: 11_cloth R325
def SPL_RC_RATE.rate (k : Nat) : Fld := ⟨0x5c0100 + 0x8 * k, 0, 16⟩
def SPL_RC_RATE.burst (k : Nat) : Fld := ⟨0x5c0100 + 0x8 * k, 16, 8⟩
def SPL_RC_RATE.prio (k : Nat) : Fld := ⟨0x5c0100 + 0x8 * k, 24, 2⟩
def SPL_RC_RATE.word (k : Nat) : Fld := ⟨0x5c0100 + 0x8 * k, 0, 32⟩
-- SPL_RC_TIME: 11_cloth R325
def SPL_RC_TIME.flush (k : Nat) : Fld := ⟨0x5c0104 + 0x8 * k, 0, 16⟩
def SPL_RC_TIME.ack_every (k : Nat) : Fld := ⟨0x5c0104 + 0x8 * k, 16, 16⟩
def SPL_RC_TIME.word (k : Nat) : Fld := ⟨0x5c0104 + 0x8 * k, 0, 32⟩
-- SPL_QCFG_A: 11_cloth R325
def SPL_QCFG_A.dest (k : Nat) : Fld := ⟨0x5d0000 + 0x8 * k, 0, 12⟩
def SPL_QCFG_A.class_ (k : Nat) : Fld := ⟨0x5d0000 + 0x8 * k, 12, 4⟩
def SPL_QCFG_A.w (k : Nat) : Fld := ⟨0x5d0000 + 0x8 * k, 16, 5⟩
def SPL_QCFG_A.enabled (k : Nat) : Fld := ⟨0x5d0000 + 0x8 * k, 21, 1⟩
def SPL_QCFG_A.word (k : Nat) : Fld := ⟨0x5d0000 + 0x8 * k, 0, 32⟩
-- SPL_QCFG_B: 11_cloth R325
def SPL_QCFG_B.ring_mib (k : Nat) : Fld := ⟨0x5d0004 + 0x8 * k, 0, 16⟩
def SPL_QCFG_B.word (k : Nat) : Fld := ⟨0x5d0004 + 0x8 * k, 0, 32⟩
-- SPL_DEST: 11_cloth R325
def SPL_DEST.word (k : Nat) : Fld := ⟨0x5e0000 + 0x4 * k, 0, 32⟩
-- DRM_CFG: 13_memory R386
def DRM_CFG.ranks (i : Nat) : Fld := ⟨0x600000 + 0x1000 * i, 0, 2⟩
def DRM_CFG.density (i : Nat) : Fld := ⟨0x600000 + 0x1000 * i, 2, 2⟩
def DRM_CFG.cap_gb (i : Nat) : Fld := ⟨0x600000 + 0x1000 * i, 4, 8⟩
def DRM_CFG.rate (i : Nat) : Fld := ⟨0x600000 + 0x1000 * i, 16, 16⟩
def DRM_CFG.word (i : Nat) : Fld := ⟨0x600000 + 0x1000 * i, 0, 32⟩
-- DRM_STAT: 13_memory R386
def DRM_STAT.state (i : Nat) : Fld := ⟨0x600004 + 0x1000 * i, 0, 3⟩
def DRM_STAT.hot (i : Nat) : Fld := ⟨0x600004 + 0x1000 * i, 3, 1⟩
def DRM_STAT.sensor_fail (i : Nat) : Fld := ⟨0x600004 + 0x1000 * i, 4, 1⟩
def DRM_STAT.over_95 (i : Nat) : Fld := ⟨0x600004 + 0x1000 * i, 5, 1⟩
def DRM_STAT.fail_lane (i : Nat) : Fld := ⟨0x600004 + 0x1000 * i, 8, 4⟩
def DRM_STAT.temp (i : Nat) : Fld := ⟨0x600004 + 0x1000 * i, 16, 16⟩
def DRM_STAT.word (i : Nat) : Fld := ⟨0x600004 + 0x1000 * i, 0, 32⟩
-- DRM_REF: 13_memory R386
def DRM_REF.owed_r0 (i : Nat) : Fld := ⟨0x600008 + 0x1000 * i, 0, 4⟩
def DRM_REF.owed_r1 (i : Nat) : Fld := ⟨0x600008 + 0x1000 * i, 4, 4⟩
def DRM_REF.urgent (i : Nat) : Fld := ⟨0x600008 + 0x1000 * i, 16, 16⟩
def DRM_REF.word (i : Nat) : Fld := ⟨0x600008 + 0x1000 * i, 0, 32⟩
-- DRM_RH: 13_memory R386
def DRM_RH.k (i : Nat) : Fld := ⟨0x60000c + 0x1000 * i, 0, 5⟩
def DRM_RH.word (i : Nat) : Fld := ⟨0x60000c + 0x1000 * i, 0, 32⟩
-- DRM_DRFM_CNT: 13_memory R386
def DRM_DRFM_CNT.count (i : Nat) : Fld := ⟨0x600010 + 0x1000 * i, 0, 32⟩
def DRM_DRFM_CNT.word (i : Nat) : Fld := ⟨0x600010 + 0x1000 * i, 0, 32⟩
-- DRM_ECC_CNT: 13_memory R386
def DRM_ECC_CNT.corrected (i : Nat) : Fld := ⟨0x600014 + 0x1000 * i, 0, 16⟩
def DRM_ECC_CNT.uncorrected (i : Nat) : Fld := ⟨0x600014 + 0x1000 * i, 16, 16⟩
def DRM_ECC_CNT.word (i : Nat) : Fld := ⟨0x600014 + 0x1000 * i, 0, 32⟩
-- DRM_ECS: 13_memory R386
def DRM_ECS.count (i : Nat) : Fld := ⟨0x600018 + 0x1000 * i, 0, 32⟩
def DRM_ECS.word (i : Nat) : Fld := ⟨0x600018 + 0x1000 * i, 0, 32⟩
-- DRM_UE_ADDR_LO: 13_memory R386
def DRM_UE_ADDR_LO.ue_lo (i : Nat) : Fld := ⟨0x600020 + 0x1000 * i, 0, 32⟩
def DRM_UE_ADDR_LO.word (i : Nat) : Fld := ⟨0x600020 + 0x1000 * i, 0, 32⟩
-- DRM_UE_ADDR_HI: 13_memory R386
def DRM_UE_ADDR_HI.ue_hi (i : Nat) : Fld := ⟨0x600024 + 0x1000 * i, 0, 16⟩
def DRM_UE_ADDR_HI.valid (i : Nat) : Fld := ⟨0x600024 + 0x1000 * i, 16, 1⟩
def DRM_UE_ADDR_HI.word (i : Nat) : Fld := ⟨0x600024 + 0x1000 * i, 0, 32⟩
-- DRM_DEV: 13_memory R386
def DRM_DEV.device (i : Nat) : Fld := ⟨0x600028 + 0x1000 * i, 0, 5⟩
def DRM_DEV.rank (i : Nat) : Fld := ⟨0x600028 + 0x1000 * i, 5, 1⟩
def DRM_DEV.valid (i : Nat) : Fld := ⟨0x600028 + 0x1000 * i, 6, 1⟩
def DRM_DEV.same_dev (i : Nat) : Fld := ⟨0x600028 + 0x1000 * i, 16, 16⟩
def DRM_DEV.word (i : Nat) : Fld := ⟨0x600028 + 0x1000 * i, 0, 32⟩
-- DRM_SCRUB: 13_memory R386
def DRM_SCRUB.progress (i : Nat) : Fld := ⟨0x60002c + 0x1000 * i, 0, 16⟩
def DRM_SCRUB.passes (i : Nat) : Fld := ⟨0x60002c + 0x1000 * i, 16, 16⟩
def DRM_SCRUB.word (i : Nat) : Fld := ⟨0x60002c + 0x1000 * i, 0, 32⟩
-- DRM_CLR: 13_memory R386
def DRM_CLR.clear (i : Nat) : Fld := ⟨0x60007c + 0x1000 * i, 0, 1⟩
def DRM_CLR.word (i : Nat) : Fld := ⟨0x60007c + 0x1000 * i, 0, 32⟩
-- DRM_TRAIN: 13_memory R386
def DRM_TRAIN.rd_centre (i k : Nat) : Fld := ⟨0x600100 + 0x1000 * i + 0x4 * k, 0, 8⟩
def DRM_TRAIN.rd_width (i k : Nat) : Fld := ⟨0x600100 + 0x1000 * i + 0x4 * k, 8, 8⟩
def DRM_TRAIN.wr_centre (i k : Nat) : Fld := ⟨0x600100 + 0x1000 * i + 0x4 * k, 16, 8⟩
def DRM_TRAIN.wr_width (i k : Nat) : Fld := ⟨0x600100 + 0x1000 * i + 0x4 * k, 24, 8⟩
def DRM_TRAIN.word (i k : Nat) : Fld := ⟨0x600100 + 0x1000 * i + 0x4 * k, 0, 32⟩
-- DRM_PWAIT: 13_memory R386
def DRM_PWAIT.peak (i k : Nat) : Fld := ⟨0x600200 + 0x1000 * i + 0x4 * k, 0, 16⟩
def DRM_PWAIT.held (i k : Nat) : Fld := ⟨0x600200 + 0x1000 * i + 0x4 * k, 16, 16⟩
def DRM_PWAIT.word (i k : Nat) : Fld := ⟨0x600200 + 0x1000 * i + 0x4 * k, 0, 32⟩
-- MTX_STAT: 16_heddle R467
def MTX_STAT.active : Fld := ⟨0x780000, 0, 5⟩
def MTX_STAT.word : Fld := ⟨0x780000, 0, 32⟩
-- MTX_DEFAULT_LO: 16_heddle R467
def MTX_DEFAULT_LO.addr_lo : Fld := ⟨0x780010, 0, 32⟩
def MTX_DEFAULT_LO.word : Fld := ⟨0x780010, 0, 32⟩
-- MTX_DEFAULT_HI: 16_heddle R467
def MTX_DEFAULT_HI.addr_hi : Fld := ⟨0x780014, 0, 16⟩
def MTX_DEFAULT_HI.master : Fld := ⟨0x780014, 16, 3⟩
def MTX_DEFAULT_HI.write : Fld := ⟨0x780014, 19, 1⟩
def MTX_DEFAULT_HI.reg : Fld := ⟨0x780014, 20, 1⟩
def MTX_DEFAULT_HI.valid : Fld := ⟨0x780014, 21, 1⟩
def MTX_DEFAULT_HI.word : Fld := ⟨0x780014, 0, 32⟩
-- MTX_CNT: 16_heddle R467
def MTX_CNT.default_hits : Fld := ⟨0x780018, 0, 16⟩
def MTX_CNT.reset_bursts : Fld := ⟨0x780018, 16, 16⟩
def MTX_CNT.word : Fld := ⟨0x780018, 0, 32⟩
-- MTX_PEAK: 16_heddle R467
def MTX_PEAK.peak0 : Fld := ⟨0x780020, 0, 5⟩
def MTX_PEAK.peak1 : Fld := ⟨0x780020, 5, 5⟩
def MTX_PEAK.peak2 : Fld := ⟨0x780020, 10, 5⟩
def MTX_PEAK.peak3 : Fld := ⟨0x780020, 15, 5⟩
def MTX_PEAK.peak4 : Fld := ⟨0x780020, 20, 5⟩
def MTX_PEAK.word : Fld := ⟨0x780020, 0, 32⟩
-- MTX_RATE: 16_heddle R467
def MTX_RATE.dram_rate : Fld := ⟨0x780030, 0, 5⟩
def MTX_RATE.word : Fld := ⟨0x780030, 0, 32⟩
-- MTX_CLR: 16_heddle R467
def MTX_CLR.clear : Fld := ⟨0x78007c, 0, 1⟩
def MTX_CLR.word : Fld := ⟨0x78007c, 0, 32⟩
-- SHT_STAT: 16_heddle R468
def SHT_STAT.running : Fld := ⟨0x700000, 0, 4⟩
def SHT_STAT.busy : Fld := ⟨0x700000, 4, 1⟩
def SHT_STAT.last : Fld := ⟨0x700000, 8, 4⟩
def SHT_STAT.word : Fld := ⟨0x700000, 0, 32⟩
-- SHT_EVENT: 16_heddle R468
def SHT_EVENT.done : Fld := ⟨0x700004, 0, 16⟩
def SHT_EVENT.error : Fld := ⟨0x700004, 16, 16⟩
def SHT_EVENT.word : Fld := ⟨0x700004, 0, 32⟩
-- SHT_EVT_EN: 16_heddle R468
def SHT_EVT_EN.enable : Fld := ⟨0x700008, 0, 32⟩
def SHT_EVT_EN.word : Fld := ⟨0x700008, 0, 32⟩
-- SHT_CH_CTL: 16_heddle R468
def SHT_CH_CTL.start (k : Nat) : Fld := ⟨0x700100 + 0x20 * k, 0, 1⟩
def SHT_CH_CTL.stop (k : Nat) : Fld := ⟨0x700100 + 0x20 * k, 1, 1⟩
def SHT_CH_CTL.heddle (k : Nat) : Fld := ⟨0x700100 + 0x20 * k, 2, 1⟩
def SHT_CH_CTL.word (k : Nat) : Fld := ⟨0x700100 + 0x20 * k, 0, 32⟩
-- SHT_CH_STAT: 16_heddle R468
def SHT_CH_STAT.state (k : Nat) : Fld := ⟨0x700104 + 0x20 * k, 0, 3⟩
def SHT_CH_STAT.stop_pending (k : Nat) : Fld := ⟨0x700104 + 0x20 * k, 3, 1⟩
def SHT_CH_STAT.cause (k : Nat) : Fld := ⟨0x700104 + 0x20 * k, 4, 3⟩
def SHT_CH_STAT.word (k : Nat) : Fld := ⟨0x700104 + 0x20 * k, 0, 32⟩
-- SHT_CH_NEXT_LO: 16_heddle R468
def SHT_CH_NEXT_LO.lo (k : Nat) : Fld := ⟨0x700108 + 0x20 * k, 0, 32⟩
def SHT_CH_NEXT_LO.word (k : Nat) : Fld := ⟨0x700108 + 0x20 * k, 0, 32⟩
-- SHT_CH_NEXT_HI: 16_heddle R468
def SHT_CH_NEXT_HI.hi (k : Nat) : Fld := ⟨0x70010c + 0x20 * k, 0, 16⟩
def SHT_CH_NEXT_HI.word (k : Nat) : Fld := ⟨0x70010c + 0x20 * k, 0, 32⟩
-- SHT_CH_CUR_LO: 16_heddle R468
def SHT_CH_CUR_LO.lo (k : Nat) : Fld := ⟨0x700110 + 0x20 * k, 0, 32⟩
def SHT_CH_CUR_LO.word (k : Nat) : Fld := ⟨0x700110 + 0x20 * k, 0, 32⟩
-- SHT_CH_CUR_HI: 16_heddle R468
def SHT_CH_CUR_HI.hi (k : Nat) : Fld := ⟨0x700114 + 0x20 * k, 0, 16⟩
def SHT_CH_CUR_HI.word (k : Nat) : Fld := ⟨0x700114 + 0x20 * k, 0, 32⟩
-- SHT_CH_REMAIN: 16_heddle R468
def SHT_CH_REMAIN.value (k : Nat) : Fld := ⟨0x700118 + 0x20 * k, 0, 32⟩
def SHT_CH_REMAIN.word (k : Nat) : Fld := ⟨0x700118 + 0x20 * k, 0, 32⟩
-- SHT_CH_COUNT: 16_heddle R468
def SHT_CH_COUNT.value (k : Nat) : Fld := ⟨0x70011c + 0x20 * k, 0, 32⟩
def SHT_CH_COUNT.word (k : Nat) : Fld := ⟨0x70011c + 0x20 * k, 0, 32⟩
-- HDL_ROLE: 16_heddle R469
def HDL_ROLE.ctl : Fld := ⟨0x7c0000, 0, 1⟩
def HDL_ROLE.svc : Fld := ⟨0x7c0000, 1, 1⟩
def HDL_ROLE.pair0_held : Fld := ⟨0x7c0000, 2, 1⟩
def HDL_ROLE.pair1_held : Fld := ⟨0x7c0000, 3, 1⟩
def HDL_ROLE.takeovers : Fld := ⟨0x7c0000, 16, 8⟩
def HDL_ROLE.word : Fld := ⟨0x7c0000, 0, 32⟩
-- HDL_BOOT: 16_heddle R469
def HDL_BOOT.stage : Fld := ⟨0x7c0004, 0, 3⟩
def HDL_BOOT.warm : Fld := ⟨0x7c0004, 3, 1⟩
def HDL_BOOT.word : Fld := ⟨0x7c0004, 0, 32⟩
-- HDL_FW_VER: 16_heddle R469
def HDL_FW_VER.version : Fld := ⟨0x7c0008, 0, 32⟩
def HDL_FW_VER.word : Fld := ⟨0x7c0008, 0, 32⟩
-- HDL_PAIR_ERR: 16_heddle R469
def HDL_PAIR_ERR.kick : Fld := ⟨0x7c000c, 0, 1⟩
def HDL_PAIR_ERR.mismatch0 : Fld := ⟨0x7c000c, 8, 8⟩
def HDL_PAIR_ERR.mismatch1 : Fld := ⟨0x7c000c, 16, 8⟩
def HDL_PAIR_ERR.word : Fld := ⟨0x7c000c, 0, 32⟩
-- HDL_MBOX: 16_heddle R469
def HDL_MBOX.data (k : Nat) : Fld := ⟨0x7c0020 + 0x4 * k, 0, 32⟩
def HDL_MBOX.word (k : Nat) : Fld := ⟨0x7c0020 + 0x4 * k, 0, 32⟩
-- HDL_DOORBELL: 16_heddle R469
def HDL_DOORBELL.to_pair0 : Fld := ⟨0x7c0040, 0, 1⟩
def HDL_DOORBELL.to_pair1 : Fld := ⟨0x7c0040, 1, 1⟩
def HDL_DOORBELL.word : Fld := ⟨0x7c0040, 0, 32⟩
-- HDL_BARRIER: 16_heddle R469
def HDL_BARRIER.busy : Fld := ⟨0x7c0044, 0, 4⟩
def HDL_BARRIER.clean_refused : Fld := ⟨0x7c0044, 4, 1⟩
def HDL_BARRIER.held : Fld := ⟨0x7c0044, 16, 16⟩
def HDL_BARRIER.word : Fld := ⟨0x7c0044, 0, 32⟩
-- HDL_CLEAN_LO: 16_heddle R469
def HDL_CLEAN_LO.base_lo (k : Nat) : Fld := ⟨0x7c0100 + 0x10 * k, 0, 32⟩
def HDL_CLEAN_LO.word (k : Nat) : Fld := ⟨0x7c0100 + 0x10 * k, 0, 32⟩
-- HDL_CLEAN_HI: 16_heddle R469
def HDL_CLEAN_HI.base_hi (k : Nat) : Fld := ⟨0x7c0104 + 0x10 * k, 0, 16⟩
def HDL_CLEAN_HI.word (k : Nat) : Fld := ⟨0x7c0104 + 0x10 * k, 0, 32⟩
-- HDL_CLEAN_LEN: 16_heddle R469
def HDL_CLEAN_LEN.length (k : Nat) : Fld := ⟨0x7c0108 + 0x10 * k, 0, 32⟩
def HDL_CLEAN_LEN.word (k : Nat) : Fld := ⟨0x7c0108 + 0x10 * k, 0, 32⟩
-- HDL_CLEAN_CTL: 16_heddle R469
def HDL_CLEAN_CTL.op (k : Nat) : Fld := ⟨0x7c010c + 0x10 * k, 0, 2⟩
def HDL_CLEAN_CTL.pair (k : Nat) : Fld := ⟨0x7c010c + 0x10 * k, 2, 1⟩
def HDL_CLEAN_CTL.busy (k : Nat) : Fld := ⟨0x7c010c + 0x10 * k, 3, 1⟩
def HDL_CLEAN_CTL.done (k : Nat) : Fld := ⟨0x7c010c + 0x10 * k, 4, 1⟩
def HDL_CLEAN_CTL.word (k : Nat) : Fld := ⟨0x7c010c + 0x10 * k, 0, 32⟩
-- WGE_START: 17_faults_wear R493
def WGE_START.start (k : Nat) : Fld := ⟨0x7e0000 + 0x4 * k, 0, 32⟩
def WGE_START.word (k : Nat) : Fld := ⟨0x7e0000 + 0x4 * k, 0, 32⟩
-- WGE_BUSY: 17_faults_wear R493
def WGE_BUSY.busy (k : Nat) : Fld := ⟨0x7e0020 + 0x4 * k, 0, 32⟩
def WGE_BUSY.word (k : Nat) : Fld := ⟨0x7e0020 + 0x4 * k, 0, 32⟩
-- WGE_BOB_OFF: 17_faults_wear R493
def WGE_BOB_OFF.off (k : Nat) : Fld := ⟨0x7e0040 + 0x4 * k, 0, 32⟩
def WGE_BOB_OFF.word (k : Nat) : Fld := ⟨0x7e0040 + 0x4 * k, 0, 32⟩
-- WGE_DOM_SET: 17_faults_wear R493
def WGE_DOM_SET.set_ (k : Nat) : Fld := ⟨0x7e0100 + 0x10 * k, 0, 7⟩
def WGE_DOM_SET.word (k : Nat) : Fld := ⟨0x7e0100 + 0x10 * k, 0, 32⟩
-- WGE_DOM_READ: 17_faults_wear R493
def WGE_DOM_READ.path_code (k : Nat) : Fld := ⟨0x7e0104 + 0x10 * k, 0, 8⟩
def WGE_DOM_READ.sram_code (k : Nat) : Fld := ⟨0x7e0104 + 0x10 * k, 8, 8⟩
def WGE_DOM_READ.temp (k : Nat) : Fld := ⟨0x7e0104 + 0x10 * k, 16, 16⟩
def WGE_DOM_READ.word (k : Nat) : Fld := ⟨0x7e0104 + 0x10 * k, 0, 32⟩
-- WGE_DOM_HIST: 17_faults_wear R493
def WGE_DOM_HIST.first (k : Nat) : Fld := ⟨0x7e0108 + 0x10 * k, 0, 8⟩
def WGE_DOM_HIST.peak (k : Nat) : Fld := ⟨0x7e0108 + 0x10 * k, 8, 8⟩
def WGE_DOM_HIST.days (k : Nat) : Fld := ⟨0x7e0108 + 0x10 * k, 16, 16⟩
def WGE_DOM_HIST.word (k : Nat) : Fld := ⟨0x7e0108 + 0x10 * k, 0, 32⟩

end Sys2Proof.Machine
end

