-- ==== Sys2Proof/Machine/RegTable.lean ====
section
/-! DEFINITION. The register map of spec/19 (R517) and every register's fields with their access codes and reset values,
from the register tables of spec/. One list per block; an entry is
the register, which half of a 64-bit pair it is, offset, how many (an indexed register), the step of the index, whether it
survives a warm restart, and the fields: lowest bit, width, access, reset. Fields a table calls reserved have no entry: they read 0 (R519). -/

namespace Sys2Proof.Machine

/-- The common fault registers at offset 0xF00 of every block (17 R472). -/
def faultRegs : List RegDesc :=
  [⟨.FSTAT, .single, 0xf00, 1, 0x0, false, [⟨0, 16, .w1c, 0⟩, ⟨16, 16, .w1c, 0⟩]⟩,
   ⟨.FMASK, .single, 0xf04, 1, 0x0, false, [⟨0, 16, .rw, 0⟩]⟩,
   ⟨.FCOUNT, .single, 0xf08, 1, 0x0, true, [⟨0, 16, .roh, 0⟩, ⟨16, 8, .roh, 0⟩, ⟨24, 8, .roh, 0⟩]⟩,
   ⟨.FFIRST, .single, 0xf0c, 1, 0x0, false, [⟨0, 4, .roh, 0⟩, ⟨4, 2, .roh, 0⟩, ⟨6, 1, .roh, 0⟩, ⟨7, 1, .roh, 0⟩]⟩,
   ⟨.FINJ, .single, 0xf10, 1, 0x0, false, [⟨0, 4, .rw, 0⟩, ⟨8, 1, .wo, 0⟩, ⟨9, 1, .roh, 0⟩, ⟨16, 16, .roh, 0⟩]⟩,
   ⟨.FDETAIL, .single, 0xf14, 1, 0x0, false, [⟨0, 32, .roh, 0⟩]⟩,
   ⟨.FPN_LO, .lo, 0xf18, 1, 0x0, false, [⟨0, 32, .roh, 0⟩]⟩,
   ⟨.FPN_HI, .hi, 0xf1c, 1, 0x0, false, [⟨0, 16, .roh, 0⟩, ⟨16, 16, .roh, 0⟩]⟩]

/-- The registers of GLB (R492). -/
def glbRegs : List RegDesc :=
  [⟨.GLB_ID, .single, 0x0, 4, 0x4, true, [⟨0, 32, .ro, 0⟩]⟩,
   ⟨.GLB_IDCODE, .single, 0x10, 1, 0x0, true, [⟨0, 32, .ro, 0x4096b47⟩]⟩,
   ⟨.GLB_TEST, .single, 0x20, 1, 0x0, false, [⟨0, 1, .ro, 0⟩, ⟨1, 1, .roh, 0⟩]⟩,
   ⟨.GLB_CTL, .single, 0x30, 1, 0x0, true, [⟨0, 1, .rw, 0⟩]⟩,
   ⟨.GLB_FATAL, .single, 0x34, 1, 0x0, false, [⟨0, 1, .roh, 0⟩, ⟨1, 11, .roh, 0⟩, ⟨12, 4, .roh, 0⟩]⟩,
   ⟨.GLB_LAST_FATAL, .single, 0x38, 1, 0x0, true, [⟨0, 11, .roh, 0⟩, ⟨11, 4, .roh, 0⟩, ⟨15, 1, .roh, 0⟩, ⟨16, 1, .roh, 0⟩]⟩]

/-- The registers of REF (R409). -/
def refRegs : List RegDesc :=
  [⟨.REF_CFG, .single, 0x0, 1, 0x0, true, [⟨0, 3, .rw, 3⟩, ⟨3, 1, .rw, 1⟩, ⟨4, 12, .rw, 0x12c⟩]⟩,
   ⟨.REF_LIMITS, .single, 0x4, 1, 0x0, true, [⟨0, 16, .rw, 0x14⟩, ⟨16, 16, .rw, 0x3e8⟩]⟩,
   ⟨.REF_TIMES, .single, 0x8, 1, 0x0, true, [⟨0, 8, .rw, 0xa⟩, ⟨16, 16, .rw, 0x5a0⟩]⟩,
   ⟨.REF_PRIO, .single, 0x10, 4, 0x4, true, [⟨0, 4, .rw, 0⟩, ⟨4, 1, .rw, 0⟩, ⟨5, 1, .rw, 0⟩]⟩,
   ⟨.REF_COMP, .single, 0x20, 4, 0x4, true, [⟨0, 20, .rw, 0⟩]⟩,
   ⟨.REF_STAT, .single, 0x40, 1, 0x0, true, [⟨0, 2, .roh, 0⟩, ⟨2, 2, .roh, 0⟩, ⟨4, 1, .roh, 0⟩, ⟨5, 1, .roh, 0⟩, ⟨6, 1, .roh, 0⟩, ⟨7, 1, .roh, 0⟩, ⟨8, 4, .roh, 0⟩, ⟨12, 4, .roh, 0⟩]⟩,
   ⟨.REF_DQ, .single, 0x44, 1, 0x0, true, [⟨0, 4, .roh, 6⟩, ⟨4, 4, .roh, 6⟩, ⟨8, 4, .roh, 6⟩, ⟨12, 4, .roh, 6⟩]⟩,
   ⟨.REF_OFS, .single, 0x50, 4, 0x4, true, [⟨0, 32, .roh, 0⟩]⟩,
   ⟨.REF_PHASE, .single, 0x60, 4, 0x4, true, [⟨0, 32, .roh, 0⟩]⟩,
   ⟨.REF_HOLD_EST, .single, 0x70, 1, 0x0, true, [⟨0, 32, .roh, 0⟩]⟩,
   ⟨.REF_HOLD_TIME, .single, 0x74, 1, 0x0, true, [⟨0, 32, .roh, 0⟩]⟩,
   ⟨.REF_STEP, .single, 0x80, 1, 0x0, true, [⟨0, 20, .wo, 0⟩]⟩,
   ⟨.REF_THETA, .single, 0x84, 1, 0x0, true, [⟨0, 32, .roh, 0⟩]⟩,
   ⟨.REF_THETA_APP, .single, 0x88, 1, 0x0, true, [⟨0, 32, .roh, 0⟩]⟩,
   ⟨.REF_OUT, .single, 0x90, 1, 0x0, true, [⟨0, 1, .rw, 1⟩, ⟨1, 1, .rw, 1⟩, ⟨2, 1, .rw, 1⟩]⟩,
   ⟨.REF_PPSOUT_OFS, .single, 0x94, 1, 0x0, true, [⟨0, 24, .rw, 0⟩]⟩,
   ⟨.REF_PICKOUT_OFS, .single, 0x98, 1, 0x0, true, [⟨0, 12, .rw, 0⟩]⟩,
   ⟨.REF_EVENT, .single, 0xa0, 1, 0x0, true, [⟨0, 1, .w1c, 0⟩, ⟨1, 1, .w1c, 0⟩, ⟨2, 1, .w1c, 0⟩, ⟨3, 1, .w1c, 0⟩, ⟨4, 1, .w1c, 0⟩, ⟨5, 1, .w1c, 0⟩, ⟨6, 1, .w1c, 0⟩, ⟨7, 1, .w1c, 0⟩, ⟨8, 1, .w1c, 0⟩, ⟨9, 1, .w1c, 0⟩]⟩,
   ⟨.REF_EVT_EN, .single, 0xa4, 1, 0x0, true, [⟨0, 10, .rw, 0⟩]⟩,
   ⟨.REF_SW_CNT, .single, 0xa8, 1, 0x0, true, [⟨0, 16, .roh, 0⟩, ⟨16, 16, .roh, 0⟩]⟩]

/-- The registers of PCK (R360, R53). -/
def pckRegs : List RegDesc :=
  [⟨.PCK_CFG, .single, 0x0, 1, 0x0, true, [⟨0, 13, .roh, 0x9c4⟩, ⟨13, 1, .roh, 1⟩, ⟨14, 1, .roh, 0⟩, ⟨16, 4, .roh, 0⟩]⟩,
   ⟨.PCK_STATE, .single, 0x4, 1, 0x0, false, [⟨0, 2, .roh, 0⟩, ⟨8, 1, .w1c, 0⟩, ⟨9, 1, .w1c, 0⟩, ⟨16, 16, .roh, 0⟩]⟩,
   ⟨.PCK_LOAD, .single, 0x8, 1, 0x0, false, [⟨0, 1, .wo, 0⟩, ⟨1, 1, .wo, 0⟩]⟩,
   ⟨.PCK_LOAD_PN_LO, .lo, 0x10, 1, 0x0, false, [⟨0, 32, .rw, 0⟩]⟩,
   ⟨.PCK_LOAD_PN_HI, .hi, 0x14, 1, 0x0, false, [⟨0, 16, .rw, 0⟩, ⟨16, 16, .rw, 0⟩]⟩,
   ⟨.PCK_ANCHOR_LO, .lo, 0x18, 1, 0x0, true, [⟨0, 32, .rw, 0⟩]⟩,
   ⟨.PCK_ANCHOR_HI, .hi, 0x1c, 1, 0x0, true, [⟨0, 32, .rw, 0⟩]⟩,
   ⟨.PCK_PN_LO, .lo, 0x20, 1, 0x0, true, [⟨0, 32, .roh, 0⟩]⟩,
   ⟨.PCK_PN_HI, .hi, 0x24, 1, 0x0, true, [⟨0, 16, .roh, 0⟩, ⟨16, 16, .roh, 0⟩]⟩,
   ⟨.PCK_SHED_POS, .single, 0x28, 1, 0x0, true, [⟨0, 15, .roh, 0⟩]⟩,
   ⟨.PCK_TBASE_PN_LO, .lo, 0x30, 1, 0x0, true, [⟨0, 32, .roh, 0⟩]⟩,
   ⟨.PCK_TBASE_PN_HI, .hi, 0x34, 1, 0x0, true, [⟨0, 32, .roh, 0⟩]⟩,
   ⟨.PCK_COMMIT, .single, 0x40, 1, 0x0, false, [⟨0, 1, .wo, 0⟩, ⟨1, 1, .wo, 0⟩, ⟨2, 1, .wo, 0⟩]⟩,
   ⟨.PCK_COMMIT_AT_LO, .lo, 0x44, 1, 0x0, false, [⟨0, 32, .rw, 0⟩]⟩,
   ⟨.PCK_COMMIT_AT_HI, .hi, 0x48, 1, 0x0, false, [⟨0, 32, .rw, 0⟩]⟩,
   ⟨.PCK_COMMIT_STAT, .single, 0x4c, 1, 0x0, false, [⟨0, 1, .roh, 0⟩, ⟨1, 1, .w1c, 0⟩, ⟨2, 1, .w1c, 0⟩, ⟨3, 1, .w1c, 0⟩, ⟨16, 16, .roh, 0⟩]⟩,
   ⟨.PCK_COMMIT_PN_LO, .lo, 0x50, 1, 0x0, false, [⟨0, 32, .roh, 0⟩]⟩,
   ⟨.PCK_COMMIT_PN_HI, .hi, 0x54, 1, 0x0, false, [⟨0, 32, .roh, 0⟩]⟩,
   ⟨.PCK_SYNC, .single, 0x60, 1, 0x0, false, [⟨0, 1, .wo, 0⟩]⟩,
   ⟨.PCK_SYNC_STAT, .single, 0x64, 1, 0x0, false, [⟨0, 1, .roh, 0⟩, ⟨1, 1, .roh, 0⟩, ⟨2, 1, .w1c, 0⟩, ⟨16, 16, .roh, 0⟩]⟩,
   ⟨.PCK_SYNC_PN_LO, .lo, 0x68, 1, 0x0, false, [⟨0, 32, .roh, 0⟩]⟩,
   ⟨.PCK_SYNC_PN_HI, .hi, 0x6c, 1, 0x0, false, [⟨0, 32, .roh, 0⟩]⟩,
   ⟨.PCK_WEAVE, .single, 0x80, 1, 0x0, false, [⟨0, 3, .wo, 0⟩]⟩,
   ⟨.PCK_WEAVE_AT_LO, .lo, 0x84, 1, 0x0, false, [⟨0, 32, .rw, 0⟩]⟩,
   ⟨.PCK_WEAVE_AT_HI, .hi, 0x88, 1, 0x0, false, [⟨0, 32, .rw, 0⟩]⟩,
   ⟨.PCK_WEAVE_STAT, .single, 0x8c, 1, 0x0, false, [⟨0, 3, .roh, 0⟩, ⟨3, 1, .roh, 0⟩, ⟨4, 1, .roh, 0⟩, ⟨5, 1, .w1c, 0⟩, ⟨6, 1, .w1c, 0⟩, ⟨8, 8, .roh, 0⟩, ⟨16, 16, .roh, 0⟩]⟩,
   ⟨.PCK_WEAVE_ERR_OFS, .single, 0x90, 1, 0x0, false, [⟨0, 32, .roh, 0⟩]⟩,
   ⟨.PCK_DRAFT_ID_LO, .lo, 0x94, 1, 0x0, true, [⟨0, 32, .roh, 0⟩]⟩,
   ⟨.PCK_DRAFT_ID_HI, .hi, 0x98, 1, 0x0, true, [⟨0, 32, .roh, 0⟩]⟩,
   ⟨.PCK_STAGE_ID_LO, .lo, 0x9c, 1, 0x0, true, [⟨0, 32, .roh, 0⟩]⟩,
   ⟨.PCK_STAGE_ID_HI, .hi, 0xa0, 1, 0x0, true, [⟨0, 32, .roh, 0⟩]⟩,
   ⟨.PCK_WEAVE_PN_LO, .lo, 0xa4, 1, 0x0, true, [⟨0, 32, .roh, 0⟩]⟩,
   ⟨.PCK_WEAVE_PN_HI, .hi, 0xa8, 1, 0x0, true, [⟨0, 32, .roh, 0⟩]⟩,
   ⟨.PCK_WEAVE_CNT, .single, 0xac, 1, 0x0, false, [⟨0, 16, .roh, 0⟩, ⟨16, 16, .roh, 0⟩]⟩]

/-- The registers of WRP (R114, R83, R84). -/
def wrpRegs : List RegDesc :=
  [⟨.WRP_CTL, .single, 0x0, 1, 0x0, false, [⟨0, 1, .rwp, 1⟩, ⟨1, 1, .rwp, 0⟩, ⟨2, 1, .rwp, 0⟩]⟩,
   ⟨.WRP_PSTAT, .single, 0x4, 1, 0x0, false, [⟨0, 3, .roh, 1⟩, ⟨3, 1, .w1c, 0⟩, ⟨4, 1, .w1c, 0⟩, ⟨5, 1, .w1c, 0⟩, ⟨6, 1, .w1c, 0⟩, ⟨8, 6, .roh, 0⟩, ⟨16, 8, .roh, 0⟩]⟩,
   ⟨.WRP_TRAIN, .single, 0x8, 1, 0x0, false, [⟨0, 16, .roh, 0⟩, ⟨16, 16, .roh, 0⟩]⟩,
   ⟨.WRP_CLKOFS, .single, 0xc, 1, 0x0, false, [⟨0, 16, .roh, 0⟩]⟩,
   ⟨.WRP_CNT_CLR, .single, 0x10, 1, 0x0, false, [⟨0, 1, .wo, 0⟩]⟩,
   ⟨.WRP_LSTAT, .single, 0x100, 4, 0x40, false, [⟨0, 3, .roh, 0⟩, ⟨3, 1, .roh, 0⟩, ⟨4, 2, .roh, 0⟩, ⟨6, 1, .roh, 0⟩, ⟨7, 1, .roh, 0⟩, ⟨8, 8, .roh, 0⟩, ⟨16, 8, .roh, 0⟩]⟩,
   ⟨.WRP_LEQ, .single, 0x104, 4, 0x40, false, [⟨0, 4, .roh, 8⟩, ⟨4, 6, .roh, 0⟩, ⟨10, 5, .roh, 0⟩, ⟨15, 5, .roh, 0⟩, ⟨20, 5, .roh, 0⟩, ⟨25, 5, .roh, 0⟩]⟩,
   ⟨.WRP_LSNAP, .single, 0x108, 4, 0x40, true, [⟨0, 4, .roh, 8⟩, ⟨4, 6, .roh, 0⟩, ⟨10, 5, .roh, 0⟩, ⟨15, 5, .roh, 0⟩, ⟨20, 5, .roh, 0⟩, ⟨25, 5, .roh, 0⟩]⟩,
   ⟨.WRP_LIDLE, .single, 0x10c, 4, 0x40, false, [⟨0, 17, .roh, 0⟩]⟩,
   ⟨.WRP_LCNT_STUFF, .single, 0x110, 4, 0x40, false, [⟨0, 32, .roh, 0⟩]⟩,
   ⟨.WRP_LCNT_HDR, .single, 0x114, 4, 0x40, false, [⟨0, 32, .roh, 0⟩]⟩,
   ⟨.WRP_LCNT_MRK, .single, 0x118, 4, 0x40, false, [⟨0, 16, .roh, 0⟩, ⟨16, 16, .roh, 0⟩]⟩,
   ⟨.WRP_LCNT_LOCK, .single, 0x11c, 4, 0x40, false, [⟨0, 16, .roh, 0⟩, ⟨16, 16, .roh, 0⟩]⟩,
   ⟨.WRP_LSKEW, .single, 0x120, 4, 0x40, false, [⟨0, 12, .roh, 0⟩]⟩,
   ⟨.WRP_BLANK_LO, .lo, 0x200, 1, 0x0, false, [⟨0, 32, .rwp, 0⟩]⟩,
   ⟨.WRP_BLANK_HI, .hi, 0x204, 1, 0x0, false, [⟨0, 32, .rwp, 0⟩]⟩,
   ⟨.WRP_FRAME_STAT, .single, 0x208, 1, 0x0, false, [⟨0, 4, .roh, 0⟩, ⟨8, 8, .roh, 0⟩]⟩,
   ⟨.WRP_LAST_PN, .single, 0x20c, 1, 0x0, false, [⟨0, 32, .roh, 0⟩]⟩,
   ⟨.WRP_ACC_LO, .lo, 0x210, 1, 0x0, false, [⟨0, 32, .roh, 0⟩]⟩,
   ⟨.WRP_ACC_HI, .hi, 0x214, 1, 0x0, false, [⟨0, 32, .roh, 0⟩]⟩,
   ⟨.WRP_FMT_ERR, .single, 0x220, 1, 0x0, false, [⟨0, 32, .roh, 0⟩]⟩,
   ⟨.WRP_UFLAG, .single, 0x224, 1, 0x0, false, [⟨0, 16, .roh, 0⟩, ⟨16, 16, .roh, 0⟩]⟩,
   ⟨.WRP_ARRIVAL, .single, 0x228, 1, 0x0, false, [⟨0, 16, .roh, 0x7fff⟩, ⟨16, 16, .roh, 0x8000⟩]⟩,
   ⟨.WRP_SRC_ID, .single, 0x22c, 1, 0x0, false, [⟨0, 32, .roh, 0⟩]⟩,
   ⟨.WRP_ANS_LAT, .single, 0x230, 1, 0x0, false, [⟨0, 13, .roh, 0⟩]⟩,
   ⟨.WRP_FCNT_CLR, .single, 0x238, 1, 0x0, false, [⟨0, 1, .wo, 0⟩]⟩,
   ⟨.WRP_REJ, .single, 0x240, 12, 0x4, false, [⟨0, 32, .roh, 0⟩]⟩]

/-- The registers of CRL (R152). -/
def crlRegs : List RegDesc :=
  [⟨.CRL_CFG, .single, 0x0, 1, 0x0, false, [⟨0, 1, .roh, 0⟩, ⟨1, 1, .roh, 0⟩, ⟨2, 1, .roh, 0⟩]⟩,
   ⟨.CRL_STATE, .single, 0x4, 1, 0x0, false, [⟨0, 3, .roh, 4⟩, ⟨4, 7, .roh, 0x40⟩, ⟨12, 7, .roh, 0⟩, ⟨19, 1, .roh, 0⟩, ⟨20, 4, .roh, 0⟩]⟩,
   ⟨.CRL_ABSENT, .single, 0x8, 1, 0x0, false, [⟨0, 10, .roh, 0⟩, ⟨10, 10, .roh, 0⟩, ⟨20, 10, .roh, 0⟩]⟩,
   ⟨.CRL_LMAP, .single, 0x100, 64, 0x4, false, [⟨0, 7, .roh, 0⟩]⟩,
   ⟨.CRL_PLACE, .single, 0x1000, 512, 0x4, false, [⟨0, 7, .roh, 0⟩, ⟨8, 4, .roh, 0⟩, ⟨12, 2, .roh, 0⟩, ⟨14, 1, .roh, 0⟩, ⟨15, 7, .roh, 0⟩, ⟨22, 3, .roh, 0⟩]⟩,
   ⟨.CRL_ORDER, .single, 0x1800, 512, 0x4, false, [⟨0, 9, .roh, 0⟩]⟩]

/-- The registers of LOM (R151, R180). -/
def lomRegs : List RegDesc :=
  [⟨.LOM_ROLE, .single, 0x0, 1, 0x0, true, [⟨0, 3, .roh, 0⟩, ⟨3, 1, .roh, 0⟩, ⟨8, 6, .roh, 0⟩, ⟨15, 1, .roh, 1⟩, ⟨16, 3, .roh, 0⟩]⟩,
   ⟨.LOM_STAT, .single, 0x4, 1, 0x0, false, [⟨0, 1, .roh, 0⟩, ⟨1, 1, .roh, 0⟩, ⟨8, 4, .roh, 0⟩]⟩,
   ⟨.LOM_RETIRE, .single, 0x8, 1, 0x0, false, [⟨0, 1, .rwp, 0⟩]⟩,
   ⟨.LOM_CHK, .single, 0xc, 1, 0x0, false, [⟨0, 16, .roh, 0⟩, ⟨31, 1, .wo, 0⟩]⟩,
   ⟨.LOM_PASS, .single, 0x20, 9, 0x4, false, [⟨0, 32, .roh, 0⟩]⟩,
   ⟨.LOM_SPILL_CNT, .single, 0x100, 1, 0x0, true, [⟨0, 32, .roh, 0⟩]⟩,
   ⟨.LOM_SPILL_PEAK, .single, 0x104, 1, 0x0, false, [⟨0, 11, .roh, 0⟩, ⟨16, 11, .roh, 0⟩]⟩,
   ⟨.LOM_SPILL_DEFER, .single, 0x108, 1, 0x0, true, [⟨0, 32, .roh, 0⟩]⟩,
   ⟨.LOM_FRAY, .single, 0x10c, 1, 0x0, true, [⟨0, 18, .roh, 0⟩]⟩,
   ⟨.LOM_FRAY_TOTAL, .single, 0x110, 1, 0x0, true, [⟨0, 32, .roh, 0⟩]⟩,
   ⟨.LOM_BOBBIN_ECC, .single, 0x114, 1, 0x0, true, [⟨0, 16, .roh, 0⟩, ⟨16, 16, .roh, 0⟩]⟩,
   ⟨.LOM_DUMP_STAT, .single, 0x118, 1, 0x0, false, [⟨0, 15, .roh, 0⟩, ⟨16, 4, .roh, 0⟩, ⟨20, 1, .roh, 0⟩]⟩,
   ⟨.LOM_SPILLQ, .single, 0x11c, 1, 0x0, false, [⟨0, 11, .roh, 0⟩, ⟨16, 11, .roh, 0⟩]⟩,
   ⟨.LOM_SPILL_LOST, .single, 0x120, 1, 0x0, true, [⟨0, 32, .roh, 0⟩]⟩,
   ⟨.LOM_BB_CLR, .single, 0x1fc, 1, 0x0, false, [⟨0, 1, .wo, 0⟩]⟩]

/-- The registers of APU (R153). -/
def apuRegs : List RegDesc :=
  [⟨.APU_SHED_LO, .lo, 0x0, 1, 0x0, false, [⟨0, 32, .roh, 0⟩]⟩,
   ⟨.APU_SHED_HI, .hi, 0x4, 1, 0x0, false, [⟨0, 16, .roh, 0⟩, ⟨16, 16, .roh, 0⟩]⟩,
   ⟨.APU_PEAK, .single, 0x8, 1, 0x0, false, [⟨0, 15, .roh, 0⟩, ⟨16, 12, .roh, 0⟩]⟩,
   ⟨.APU_BLANKED, .single, 0xc, 1, 0x0, false, [⟨0, 13, .roh, 0⟩]⟩]

/-- The registers of HRN (R210). -/
def hrnRegs : List RegDesc :=
  [⟨.HRN_STAT, .single, 0x0, 1, 0x0, false, [⟨0, 7, .roh, 0⟩, ⟨8, 1, .roh, 0⟩]⟩,
   ⟨.HRN_WECC, .single, 0x4, 1, 0x0, false, [⟨0, 16, .roh, 0⟩, ⟨16, 16, .roh, 0⟩]⟩,
   ⟨.HRN_CLR, .single, 0x8, 1, 0x0, false, [⟨0, 1, .wo, 0⟩]⟩]

/-- The registers of HST (R211). -/
def hstRegs : List RegDesc :=
  [⟨.HST_SWAP, .single, 0x0, 1, 0x0, false, [⟨0, 9, .rwp, 0⟩, ⟨12, 1, .rwp, 0⟩, ⟨16, 4, .rwp, 0⟩]⟩,
   ⟨.HST_STATE, .single, 0x4, 1, 0x0, false, [⟨0, 1, .roh, 0⟩, ⟨1, 2, .roh, 0⟩, ⟨3, 1, .roh, 0⟩, ⟨4, 1, .roh, 0⟩, ⟨5, 9, .roh, 0⟩, ⟨14, 1, .roh, 0⟩]⟩,
   ⟨.HST_SW_PN_LO, .lo, 0x8, 1, 0x0, false, [⟨0, 32, .roh, 0⟩]⟩,
   ⟨.HST_SW_PN_HI, .hi, 0xc, 1, 0x0, false, [⟨0, 16, .roh, 0⟩, ⟨16, 16, .roh, 0⟩]⟩,
   ⟨.HST_SW_LEN, .single, 0x10, 1, 0x0, false, [⟨0, 9, .roh, 0⟩, ⟨9, 1, .roh, 0⟩]⟩,
   ⟨.HST_EVENT, .single, 0x14, 1, 0x0, false, [⟨0, 1, .w1c, 0⟩, ⟨1, 1, .w1c, 0⟩, ⟨2, 1, .w1c, 0⟩, ⟨3, 1, .w1c, 0⟩, ⟨4, 1, .w1c, 0⟩, ⟨5, 1, .w1c, 0⟩, ⟨6, 1, .w1c, 0⟩, ⟨7, 1, .w1c, 0⟩, ⟨8, 1, .w1c, 0⟩]⟩,
   ⟨.HST_EVT_EN, .single, 0x18, 1, 0x0, false, [⟨0, 9, .rw, 0⟩]⟩,
   ⟨.HST_GAIN_SEL, .single, 0x20, 1, 0x0, false, [⟨0, 1, .rwp, 0⟩]⟩,
   ⟨.HST_BASE_A_LO, .lo, 0x30, 1, 0x0, false, [⟨0, 32, .roh, 0⟩]⟩,
   ⟨.HST_BASE_A_HI, .hi, 0x34, 1, 0x0, false, [⟨0, 16, .roh, 0⟩]⟩,
   ⟨.HST_BASE_B_LO, .lo, 0x38, 1, 0x0, false, [⟨0, 32, .roh, 0⟩]⟩,
   ⟨.HST_BASE_B_HI, .hi, 0x3c, 1, 0x0, false, [⟨0, 16, .roh, 0⟩]⟩,
   ⟨.HST_GAIN0_LO, .lo, 0x40, 1, 0x0, false, [⟨0, 32, .roh, 0⟩]⟩,
   ⟨.HST_GAIN0_HI, .hi, 0x44, 1, 0x0, false, [⟨0, 16, .roh, 0⟩]⟩,
   ⟨.HST_GAIN1_LO, .lo, 0x48, 1, 0x0, false, [⟨0, 32, .roh, 0⟩]⟩,
   ⟨.HST_GAIN1_HI, .hi, 0x4c, 1, 0x0, false, [⟨0, 16, .roh, 0⟩]⟩,
   ⟨.HST_GEN, .single, 0x50, 1, 0x0, false, [⟨0, 16, .roh, 0⟩, ⟨16, 10, .roh, 0⟩]⟩,
   ⟨.HST_CNT_SAT, .single, 0x54, 1, 0x0, false, [⟨0, 32, .roh, 0⟩]⟩,
   ⟨.HST_CNT_REFUSED, .single, 0x58, 1, 0x0, false, [⟨0, 32, .roh, 0⟩]⟩]

/-- The registers of BTN (R212). -/
def btnRegs : List RegDesc :=
  [⟨.BTN_SAT, .single, 0x0, 1, 0x0, false, [⟨0, 32, .roh, 0⟩]⟩,
   ⟨.BTN_PEAK, .single, 0x4, 1, 0x0, false, [⟨0, 23, .roh, 0⟩]⟩,
   ⟨.BTN_PEAK_BEAM, .single, 0x8, 1, 0x0, false, [⟨0, 9, .roh, 0⟩]⟩,
   ⟨.BTN_CLASSES, .single, 0xc, 1, 0x0, false, [⟨0, 10, .roh, 0⟩, ⟨10, 10, .roh, 0⟩, ⟨20, 10, .roh, 0⟩]⟩,
   ⟨.BTN_ROUTE_ERR, .single, 0x10, 1, 0x0, false, [⟨0, 32, .roh, 0⟩]⟩,
   ⟨.BTN_CLR, .single, 0x1c, 1, 0x0, false, [⟨0, 1, .wo, 0⟩]⟩]

/-- The registers of ZCH (R237). -/
def zchRegs : List RegDesc :=
  [⟨.ZCH_GEN, .single, 0x0, 1, 0x0, true, [⟨0, 32, .roh, 0⟩]⟩,
   ⟨.ZCH_STAT, .single, 0x4, 1, 0x0, false, [⟨0, 1, .w1c, 0⟩, ⟨1, 1, .w1c, 0⟩, ⟨2, 1, .w1c, 0⟩]⟩,
   ⟨.ZCH_SAT, .single, 0x8, 1, 0x0, false, [⟨0, 32, .roh, 0⟩]⟩,
   ⟨.ZCH_GAP, .single, 0xc, 1, 0x0, false, [⟨0, 32, .roh, 0⟩]⟩,
   ⟨.ZCH_CLR, .single, 0x1c, 1, 0x0, false, [⟨0, 1, .wo, 0⟩]⟩,
   ⟨.ZCH_STATE_BASE_LO, .lo, 0x20, 1, 0x0, false, [⟨0, 32, .roh, 0⟩]⟩,
   ⟨.ZCH_STATE_BASE_HI, .hi, 0x24, 1, 0x0, false, [⟨0, 16, .roh, 0⟩]⟩,
   ⟨.ZCH_COEF_SEL, .single, 0x30, 1, 0x0, false, [⟨0, 2, .rw, 0⟩, ⟨2, 8, .rw, 0⟩, ⟨10, 6, .rw, 0⟩]⟩,
   ⟨.ZCH_COEF_DATA, .single, 0x34, 1, 0x0, false, [⟨0, 19, .roh, 0⟩]⟩,
   ⟨.ZCH_CFG, .single, 0x1000, 128, 0x10, false, [⟨0, 9, .roh, 0⟩, ⟨9, 3, .roh, 0⟩, ⟨12, 2, .roh, 0⟩, ⟨14, 1, .roh, 0⟩, ⟨15, 1, .roh, 0⟩, ⟨16, 13, .roh, 0⟩]⟩,
   ⟨.ZCH_RATIO, .single, 0x1004, 128, 0x10, false, [⟨0, 32, .roh, 0x80000000⟩]⟩,
   ⟨.ZCH_SHIFT, .single, 0x1008, 128, 0x10, false, [⟨0, 5, .rwp, 0⟩]⟩,
   ⟨.ZCH_SEQ, .single, 0x100c, 128, 0x10, false, [⟨0, 32, .roh, 0⟩]⟩]

/-- The registers of PWD (R238). -/
def pwdRegs : List RegDesc :=
  [⟨.PWD_STAT, .single, 0x4, 1, 0x0, false, [⟨0, 1, .w1c, 0⟩, ⟨1, 1, .w1c, 0⟩]⟩,
   ⟨.PWD_SAT, .single, 0x8, 1, 0x0, false, [⟨0, 32, .roh, 0⟩]⟩,
   ⟨.PWD_GAP, .single, 0xc, 1, 0x0, false, [⟨0, 32, .roh, 0⟩]⟩,
   ⟨.PWD_CLR, .single, 0x1c, 1, 0x0, false, [⟨0, 1, .wo, 0⟩]⟩,
   ⟨.PWD_CFG, .single, 0x1000, 512, 0x10, false, [⟨0, 16, .roh, 1⟩, ⟨16, 16, .roh, 1⟩]⟩,
   ⟨.PWD_OUT, .single, 0x1004, 512, 0x10, false, [⟨0, 6, .rwp, 0⟩, ⟨6, 1, .roh, 0⟩, ⟨8, 13, .roh, 0⟩]⟩,
   ⟨.PWD_LAST, .single, 0x1008, 512, 0x10, false, [⟨0, 32, .roh, 0⟩]⟩]

/-- The registers of TRD (R258). -/
def trdRegs : List RegDesc :=
  [⟨.TRD_CTL, .single, 0x0, 1, 0x0, false, [⟨0, 1, .rwp, 1⟩, ⟨1, 1, .rwp, 0⟩]⟩,
   ⟨.TRD_STAT, .single, 0x4, 1, 0x0, false, [⟨0, 3, .roh, 0⟩, ⟨3, 1, .w1c, 0⟩, ⟨4, 1, .w1c, 0⟩, ⟨5, 1, .w1c, 0⟩, ⟨6, 1, .w1c, 0⟩, ⟨7, 1, .w1c, 0⟩, ⟨8, 1, .w1c, 0⟩, ⟨9, 1, .w1c, 0⟩, ⟨10, 1, .w1c, 0⟩]⟩,
   ⟨.TRD_PC, .single, 0x8, 1, 0x0, false, [⟨0, 14, .roh, 0⟩]⟩,
   ⟨.TRD_CFG, .single, 0xc, 1, 0x0, false, [⟨0, 1, .roh, 0⟩, ⟨1, 1, .roh, 0⟩, ⟨16, 16, .roh, 0⟩]⟩,
   ⟨.TRD_BUSY, .single, 0x10, 1, 0x0, false, [⟨0, 16, .roh, 0⟩, ⟨16, 16, .roh, 0⟩]⟩,
   ⟨.TRD_OVERRUN, .single, 0x14, 1, 0x0, true, [⟨0, 32, .roh, 0⟩]⟩,
   ⟨.TRD_SATCNT, .single, 0x18, 1, 0x0, true, [⟨0, 32, .roh, 0⟩]⟩,
   ⟨.TRD_TRIG_CNT, .single, 0x24, 1, 0x0, true, [⟨0, 32, .roh, 0⟩]⟩,
   ⟨.TRD_EMIT_CNT, .single, 0x30, 1, 0x0, true, [⟨0, 32, .roh, 0⟩]⟩,
   ⟨.TRD_CLAMP, .single, 0x34, 1, 0x0, true, [⟨0, 32, .roh, 0⟩]⟩,
   ⟨.TRD_DROP, .single, 0x1c, 1, 0x0, true, [⟨0, 16, .roh, 0⟩, ⟨16, 16, .roh, 0⟩]⟩,
   ⟨.TRD_FIFO, .single, 0x20, 1, 0x0, false, [⟨0, 10, .roh, 0⟩, ⟨16, 13, .roh, 0⟩]⟩,
   ⟨.TRD_TRIG_CAUSE, .single, 0x28, 1, 0x0, false, [⟨0, 32, .roh, 0⟩]⟩,
   ⟨.TRD_TRIG_PN, .single, 0x2c, 1, 0x0, false, [⟨0, 32, .roh, 0⟩]⟩,
   ⟨.TRD_DADDR, .single, 0x38, 1, 0x0, false, [⟨0, 16, .rw, 0⟩]⟩,
   ⟨.TRD_DDATA, .single, 0x3c, 1, 0x0, false, [⟨0, 32, .roh, 0⟩]⟩,
   ⟨.TRD_CLR, .single, 0x40, 1, 0x0, false, [⟨0, 1, .wo, 0⟩]⟩,
   ⟨.TRD_PARAM, .single, 0x80, 16, 0x4, false, [⟨0, 32, .rwp, 0⟩]⟩,
   ⟨.TRD_DSUB, .single, 0x100, 16, 0x4, false, [⟨0, 32, .roh, 0⟩]⟩,
   ⟨.TRD_QUEUE, .single, 0x140, 4, 0x4, false, [⟨0, 13, .roh, 0⟩, ⟨31, 1, .roh, 0⟩]⟩]

/-- The registers of JRN (R293). -/
def jrnRegs : List RegDesc :=
  [⟨.JRN_CFG, .single, 0x0, 1, 0x0, false, [⟨0, 12, .roh, 0⟩, ⟨12, 12, .roh, 0⟩]⟩,
   ⟨.JRN_SEG_STAT, .single, 0x4, 1, 0x0, false, [⟨0, 12, .roh, 0⟩, ⟨12, 12, .roh, 0⟩]⟩,
   ⟨.JRN_WSEG, .single, 0x8, 1, 0x0, false, [⟨0, 12, .roh, 0⟩]⟩,
   ⟨.JRN_BASE_LO, .lo, 0x10, 1, 0x0, false, [⟨0, 32, .roh, 0⟩]⟩,
   ⟨.JRN_BASE_HI, .hi, 0x14, 1, 0x0, false, [⟨0, 16, .roh, 0⟩]⟩,
   ⟨.JRN_DIR_BASE_LO, .lo, 0x18, 1, 0x0, false, [⟨0, 32, .roh, 0⟩]⟩,
   ⟨.JRN_DIR_BASE_HI, .hi, 0x1c, 1, 0x0, false, [⟨0, 16, .roh, 0⟩]⟩,
   ⟨.JRN_SLOG_BASE_LO, .lo, 0x20, 1, 0x0, false, [⟨0, 32, .roh, 0⟩]⟩,
   ⟨.JRN_SLOG_BASE_HI, .hi, 0x24, 1, 0x0, false, [⟨0, 16, .roh, 0⟩]⟩,
   ⟨.JRN_OLDEST_LO, .lo, 0x30, 1, 0x0, false, [⟨0, 32, .roh, 0⟩]⟩,
   ⟨.JRN_OLDEST_HI, .hi, 0x34, 1, 0x0, false, [⟨0, 32, .roh, 0⟩]⟩,
   ⟨.JRN_CAP_PRE, .single, 0x40, 1, 0x0, false, [⟨0, 24, .rwp, 0⟩]⟩,
   ⟨.JRN_CAP_POST, .single, 0x44, 1, 0x0, false, [⟨0, 24, .rwp, 0⟩]⟩,
   ⟨.JRN_CAP_AT_LO, .lo, 0x48, 1, 0x0, false, [⟨0, 32, .rw, 0⟩]⟩,
   ⟨.JRN_CAP_AT_HI, .hi, 0x4c, 1, 0x0, false, [⟨0, 32, .rw, 0⟩]⟩,
   ⟨.JRN_CAP_PORTS_LO, .lo, 0x50, 1, 0x0, false, [⟨0, 32, .rw, 0xffffffff⟩]⟩,
   ⟨.JRN_CAP_PORTS_HI, .hi, 0x54, 1, 0x0, false, [⟨0, 32, .rw, 0xffffffff⟩]⟩,
   ⟨.JRN_CAP_CMD, .single, 0x60, 1, 0x0, false, [⟨0, 2, .wo, 0⟩, ⟨2, 1, .wo, 0⟩, ⟨3, 1, .wo, 0⟩, ⟨4, 4, .wo, 0⟩]⟩,
   ⟨.JRN_EVENT, .single, 0x64, 1, 0x0, false, [⟨0, 1, .w1c, 0⟩, ⟨1, 1, .w1c, 0⟩, ⟨2, 1, .w1c, 0⟩, ⟨3, 1, .w1c, 0⟩, ⟨4, 1, .w1c, 0⟩, ⟨5, 1, .w1c, 0⟩, ⟨6, 1, .w1c, 0⟩, ⟨7, 1, .w1c, 0⟩, ⟨8, 1, .w1c, 0⟩, ⟨9, 1, .w1c, 0⟩, ⟨10, 1, .w1c, 0⟩, ⟨11, 1, .w1c, 0⟩]⟩,
   ⟨.JRN_EVT_EN, .single, 0x68, 1, 0x0, false, [⟨0, 12, .rw, 0⟩]⟩,
   ⟨.JRN_TRIG_CNT, .single, 0x70, 1, 0x0, true, [⟨0, 16, .roh, 0⟩, ⟨16, 16, .roh, 0⟩]⟩,
   ⟨.JRN_REPLAY, .single, 0x74, 1, 0x0, false, [⟨0, 6, .roh, 0⟩, ⟨6, 7, .roh, 0⟩, ⟨13, 1, .roh, 0⟩, ⟨14, 3, .roh, 0⟩]⟩,
   ⟨.JRN_REPLAY_PROG, .single, 0x78, 1, 0x0, false, [⟨0, 16, .roh, 0⟩, ⟨16, 16, .roh, 0⟩]⟩,
   ⟨.JRN_REPLAY_CNT, .single, 0x7c, 1, 0x0, true, [⟨0, 8, .roh, 0⟩, ⟨8, 8, .roh, 0⟩, ⟨16, 8, .roh, 0⟩]⟩,
   ⟨.JRN_LSEQ_LO, .lo, 0x80, 1, 0x0, false, [⟨0, 32, .roh, 0⟩]⟩,
   ⟨.JRN_LSEQ_HI, .hi, 0x84, 1, 0x0, false, [⟨0, 32, .roh, 0⟩]⟩,
   ⟨.JRN_LEDGER_ERR, .single, 0x88, 1, 0x0, true, [⟨0, 16, .roh, 0⟩, ⟨16, 16, .roh, 0⟩]⟩,
   ⟨.JRN_UNJOURNALLED, .single, 0x8c, 1, 0x0, true, [⟨0, 32, .roh, 0⟩]⟩,
   ⟨.JRN_DIR_ERR, .single, 0x90, 1, 0x0, true, [⟨0, 32, .roh, 0⟩]⟩,
   ⟨.JRN_LEDGER_LOST, .single, 0x94, 1, 0x0, true, [⟨0, 32, .roh, 0⟩]⟩,
   ⟨.JRN_CLR, .single, 0x9c, 1, 0x0, false, [⟨0, 1, .wo, 0⟩]⟩,
   ⟨.JRN_CAP_STAT, .single, 0x100, 16, 0x10, false, [⟨0, 3, .roh, 0⟩, ⟨3, 1, .roh, 0⟩, ⟨4, 1, .roh, 0⟩, ⟨16, 16, .roh, 0⟩]⟩,
   ⟨.JRN_CAP_T_LO, .lo, 0x104, 16, 0x10, false, [⟨0, 32, .roh, 0⟩]⟩,
   ⟨.JRN_CAP_T_HI, .hi, 0x108, 16, 0x10, false, [⟨0, 32, .roh, 0⟩]⟩,
   ⟨.JRN_CAP_PROG, .single, 0x10c, 16, 0x10, false, [⟨0, 32, .roh, 0⟩]⟩,
   ⟨.JRN_CAP_SEG, .single, 0x200, 16, 0x4, false, [⟨0, 12, .roh, 0⟩]⟩]

/-- The registers of CLO (R324). -/
def cloRegs : List RegDesc :=
  [⟨.CLO_CTL, .single, 0x0, 1, 0x0, false, [⟨0, 1, .rwp, 1⟩]⟩,
   ⟨.CLO_STAT, .single, 0x4, 1, 0x0, false, [⟨0, 3, .roh, 1⟩, ⟨3, 1, .roh, 0⟩, ⟨4, 1, .roh, 0⟩, ⟨16, 14, .roh, 0⟩]⟩,
   ⟨.CLO_MAC_LO, .lo, 0x10, 1, 0x0, false, [⟨0, 32, .roh, 0⟩]⟩,
   ⟨.CLO_MAC_HI, .hi, 0x14, 1, 0x0, false, [⟨0, 16, .roh, 0⟩]⟩,
   ⟨.CLO_IP, .single, 0x18, 1, 0x0, false, [⟨0, 32, .roh, 0⟩]⟩,
   ⟨.CLO_UDP, .single, 0x1c, 1, 0x0, false, [⟨0, 16, .roh, 0⟩]⟩,
   ⟨.CLO_TX_FRAMES_LO, .lo, 0x20, 1, 0x0, true, [⟨0, 32, .roh, 0⟩]⟩,
   ⟨.CLO_TX_FRAMES_HI, .hi, 0x24, 1, 0x0, true, [⟨0, 32, .roh, 0⟩]⟩,
   ⟨.CLO_TX_BYTES_LO, .lo, 0x28, 1, 0x0, true, [⟨0, 32, .roh, 0⟩]⟩,
   ⟨.CLO_TX_BYTES_HI, .hi, 0x2c, 1, 0x0, true, [⟨0, 32, .roh, 0⟩]⟩,
   ⟨.CLO_RETX, .single, 0x30, 1, 0x0, true, [⟨0, 32, .roh, 0⟩]⟩,
   ⟨.CLO_RX_RCPT, .single, 0x34, 1, 0x0, true, [⟨0, 32, .roh, 0⟩]⟩,
   ⟨.CLO_RX_DROP, .single, 0x38, 1, 0x0, true, [⟨0, 32, .roh, 0⟩]⟩,
   ⟨.CLO_FEC, .single, 0x3c, 1, 0x0, true, [⟨0, 16, .roh, 0⟩, ⟨16, 16, .roh, 0⟩]⟩,
   ⟨.CLO_CLR, .single, 0x7c, 1, 0x0, false, [⟨0, 1, .wo, 0⟩]⟩]

/-- The registers of SPL (R325). -/
def splRegs : List RegDesc :=
  [⟨.SPL_CFG, .single, 0x0, 1, 0x0, false, [⟨0, 16, .rwp, 0⟩]⟩,
   ⟨.SPL_STAT, .single, 0x4, 1, 0x0, false, [⟨0, 14, .roh, 0⟩, ⟨14, 14, .roh, 0⟩]⟩,
   ⟨.SPL_RING_BASE_LO, .lo, 0x10, 1, 0x0, false, [⟨0, 32, .roh, 0⟩]⟩,
   ⟨.SPL_RING_BASE_HI, .hi, 0x14, 1, 0x0, false, [⟨0, 16, .roh, 0⟩]⟩,
   ⟨.SPL_INCARN, .single, 0x18, 1, 0x0, true, [⟨0, 32, .roh, 0⟩]⟩,
   ⟨.SPL_DEV_TAG, .single, 0x1c, 1, 0x0, false, [⟨0, 32, .roh, 0⟩]⟩,
   ⟨.SPL_QSEL, .single, 0x20, 1, 0x0, false, [⟨0, 13, .rw, 0⟩]⟩,
   ⟨.SPL_QSTAT, .single, 0x24, 1, 0x0, false, [⟨0, 2, .roh, 0⟩, ⟨2, 1, .roh, 0⟩, ⟨3, 5, .roh, 0⟩, ⟨8, 17, .roh, 0⟩, ⟨25, 1, .roh, 0⟩]⟩,
   ⟨.SPL_QNEXT_LO, .lo, 0x28, 1, 0x0, false, [⟨0, 32, .roh, 0⟩]⟩,
   ⟨.SPL_QNEXT_HI, .hi, 0x2c, 1, 0x0, false, [⟨0, 16, .roh, 0⟩]⟩,
   ⟨.SPL_QBASE_LO, .lo, 0x30, 1, 0x0, false, [⟨0, 32, .roh, 0⟩]⟩,
   ⟨.SPL_QBASE_HI, .hi, 0x34, 1, 0x0, false, [⟨0, 16, .roh, 0⟩]⟩,
   ⟨.SPL_QFILL, .single, 0x38, 1, 0x0, false, [⟨0, 32, .roh, 0⟩]⟩,
   ⟨.SPL_QLOST, .single, 0x3c, 1, 0x0, false, [⟨0, 32, .roh, 0⟩]⟩,
   ⟨.SPL_QRETX, .single, 0x40, 1, 0x0, false, [⟨0, 32, .roh, 0⟩]⟩,
   ⟨.SPL_EVENT, .single, 0x50, 1, 0x0, false, [⟨0, 1, .w1c, 0⟩, ⟨1, 1, .w1c, 0⟩, ⟨2, 1, .w1c, 0⟩, ⟨3, 1, .w1c, 0⟩, ⟨4, 1, .w1c, 0⟩, ⟨5, 1, .w1c, 0⟩, ⟨6, 1, .w1c, 0⟩]⟩,
   ⟨.SPL_EVT_EN, .single, 0x54, 1, 0x0, false, [⟨0, 7, .rw, 0⟩]⟩,
   ⟨.SPL_CNT_RCPT, .single, 0x58, 1, 0x0, true, [⟨0, 32, .roh, 0⟩]⟩,
   ⟨.SPL_CNT_BADRCPT, .single, 0x5c, 1, 0x0, true, [⟨0, 32, .roh, 0⟩]⟩,
   ⟨.SPL_CLR, .single, 0x7c, 1, 0x0, false, [⟨0, 1, .wo, 0⟩]⟩,
   ⟨.SPL_RC_RATE, .single, 0x100, 16, 0x8, false, [⟨0, 16, .roh, 0⟩, ⟨16, 8, .roh, 0⟩, ⟨24, 2, .roh, 0⟩]⟩,
   ⟨.SPL_RC_TIME, .single, 0x104, 16, 0x8, false, [⟨0, 16, .roh, 0⟩, ⟨16, 16, .roh, 0⟩]⟩,
   ⟨.SPL_QCFG_A, .single, 0x10000, 8192, 0x8, false, [⟨0, 12, .roh, 0⟩, ⟨12, 4, .roh, 0⟩, ⟨16, 5, .roh, 0⟩, ⟨21, 1, .roh, 0⟩]⟩,
   ⟨.SPL_QCFG_B, .single, 0x10004, 8192, 0x8, false, [⟨0, 16, .roh, 0⟩]⟩,
   ⟨.SPL_DEST, .single, 0x20000, 32768, 0x4, false, [⟨0, 32, .roh, 0⟩]⟩]

/-- The registers of DRM (R386). -/
def drmRegs : List RegDesc :=
  [⟨.DRM_CFG, .single, 0x0, 1, 0x0, true, [⟨0, 2, .roh, 0⟩, ⟨2, 2, .roh, 0⟩, ⟨4, 8, .roh, 0⟩, ⟨16, 16, .roh, 0⟩]⟩,
   ⟨.DRM_STAT, .single, 0x4, 1, 0x0, false, [⟨0, 3, .roh, 0⟩, ⟨3, 1, .roh, 0⟩, ⟨4, 1, .w1c, 0⟩, ⟨5, 1, .w1c, 0⟩, ⟨8, 4, .roh, 0⟩, ⟨16, 16, .roh, 0⟩]⟩,
   ⟨.DRM_REF, .single, 0x8, 1, 0x0, false, [⟨0, 4, .roh, 0⟩, ⟨4, 4, .roh, 0⟩, ⟨16, 16, .roh, 0⟩]⟩,
   ⟨.DRM_RH, .single, 0xc, 1, 0x0, false, [⟨0, 5, .rwp, 0xc⟩]⟩,
   ⟨.DRM_DRFM_CNT, .single, 0x10, 1, 0x0, true, [⟨0, 32, .roh, 0⟩]⟩,
   ⟨.DRM_ECC_CNT, .single, 0x14, 1, 0x0, true, [⟨0, 16, .roh, 0⟩, ⟨16, 16, .roh, 0⟩]⟩,
   ⟨.DRM_ECS, .single, 0x18, 1, 0x0, true, [⟨0, 32, .roh, 0⟩]⟩,
   ⟨.DRM_UE_ADDR_LO, .lo, 0x20, 1, 0x0, false, [⟨0, 32, .roh, 0⟩]⟩,
   ⟨.DRM_UE_ADDR_HI, .hi, 0x24, 1, 0x0, false, [⟨0, 16, .roh, 0⟩, ⟨16, 1, .roh, 0⟩]⟩,
   ⟨.DRM_DEV, .single, 0x28, 1, 0x0, false, [⟨0, 5, .roh, 0⟩, ⟨5, 1, .roh, 0⟩, ⟨6, 1, .roh, 0⟩, ⟨16, 16, .roh, 0⟩]⟩,
   ⟨.DRM_SCRUB, .single, 0x2c, 1, 0x0, false, [⟨0, 16, .roh, 0⟩, ⟨16, 16, .roh, 0⟩]⟩,
   ⟨.DRM_CLR, .single, 0x7c, 1, 0x0, false, [⟨0, 1, .wo, 0⟩]⟩,
   ⟨.DRM_TRAIN, .single, 0x100, 10, 0x4, true, [⟨0, 8, .roh, 0⟩, ⟨8, 8, .roh, 0⟩, ⟨16, 8, .roh, 0⟩, ⟨24, 8, .roh, 0⟩]⟩,
   ⟨.DRM_PWAIT, .single, 0x200, 8, 0x4, false, [⟨0, 16, .roh, 0⟩, ⟨16, 16, .roh, 0⟩]⟩]

/-- The registers of SHT (R468). -/
def shtRegs : List RegDesc :=
  [⟨.SHT_STAT, .single, 0x0, 1, 0x0, false, [⟨0, 4, .roh, 0⟩, ⟨4, 1, .roh, 0⟩, ⟨8, 4, .roh, 0⟩]⟩,
   ⟨.SHT_EVENT, .single, 0x4, 1, 0x0, false, [⟨0, 16, .w1c, 0⟩, ⟨16, 16, .w1c, 0⟩]⟩,
   ⟨.SHT_EVT_EN, .single, 0x8, 1, 0x0, false, [⟨0, 32, .rw, 0⟩]⟩,
   ⟨.SHT_CH_CTL, .single, 0x100, 16, 0x20, false, [⟨0, 1, .wo, 0⟩, ⟨1, 1, .wo, 0⟩, ⟨2, 1, .rw, 0⟩]⟩,
   ⟨.SHT_CH_STAT, .single, 0x104, 16, 0x20, false, [⟨0, 3, .roh, 0⟩, ⟨3, 1, .roh, 0⟩, ⟨4, 3, .roh, 0⟩]⟩,
   ⟨.SHT_CH_NEXT_LO, .lo, 0x108, 16, 0x20, false, [⟨0, 32, .rw, 0⟩]⟩,
   ⟨.SHT_CH_NEXT_HI, .hi, 0x10c, 16, 0x20, false, [⟨0, 16, .rw, 0⟩]⟩,
   ⟨.SHT_CH_CUR_LO, .lo, 0x110, 16, 0x20, false, [⟨0, 32, .roh, 0⟩]⟩,
   ⟨.SHT_CH_CUR_HI, .hi, 0x114, 16, 0x20, false, [⟨0, 16, .roh, 0⟩]⟩,
   ⟨.SHT_CH_REMAIN, .single, 0x118, 16, 0x20, false, [⟨0, 32, .roh, 0⟩]⟩,
   ⟨.SHT_CH_COUNT, .single, 0x11c, 16, 0x20, false, [⟨0, 32, .roh, 0⟩]⟩]

/-- The registers of MTX (R467). -/
def mtxRegs : List RegDesc :=
  [⟨.MTX_STAT, .single, 0x0, 1, 0x0, false, [⟨0, 5, .roh, 0⟩]⟩,
   ⟨.MTX_DEFAULT_LO, .lo, 0x10, 1, 0x0, false, [⟨0, 32, .roh, 0⟩]⟩,
   ⟨.MTX_DEFAULT_HI, .hi, 0x14, 1, 0x0, false, [⟨0, 16, .roh, 0⟩, ⟨16, 3, .roh, 0⟩, ⟨19, 1, .roh, 0⟩, ⟨20, 1, .roh, 0⟩, ⟨21, 1, .roh, 0⟩]⟩,
   ⟨.MTX_CNT, .single, 0x18, 1, 0x0, false, [⟨0, 16, .roh, 0⟩, ⟨16, 16, .roh, 0⟩]⟩,
   ⟨.MTX_PEAK, .single, 0x20, 1, 0x0, false, [⟨0, 5, .roh, 0⟩, ⟨5, 5, .roh, 0⟩, ⟨10, 5, .roh, 0⟩, ⟨15, 5, .roh, 0⟩, ⟨20, 5, .roh, 0⟩]⟩,
   ⟨.MTX_RATE, .single, 0x30, 1, 0x0, false, [⟨0, 5, .rw, 0x14⟩]⟩,
   ⟨.MTX_CLR, .single, 0x7c, 1, 0x0, false, [⟨0, 1, .wo, 0⟩]⟩]

/-- The registers of HDL (R469). -/
def hdlRegs : List RegDesc :=
  [⟨.HDL_ROLE, .single, 0x0, 1, 0x0, true, [⟨0, 1, .roh, 0⟩, ⟨1, 1, .roh, 1⟩, ⟨2, 1, .roh, 0⟩, ⟨3, 1, .roh, 0⟩, ⟨16, 8, .roh, 0⟩]⟩,
   ⟨.HDL_BOOT, .single, 0x4, 1, 0x0, true, [⟨0, 3, .roh, 0⟩, ⟨3, 1, .roh, 0⟩]⟩,
   ⟨.HDL_FW_VER, .single, 0x8, 1, 0x0, true, [⟨0, 32, .roh, 0⟩]⟩,
   ⟨.HDL_PAIR_ERR, .single, 0xc, 1, 0x0, true, [⟨0, 1, .wo, 0⟩, ⟨8, 8, .roh, 0⟩, ⟨16, 8, .roh, 0⟩]⟩,
   ⟨.HDL_MBOX, .single, 0x20, 8, 0x4, true, [⟨0, 32, .rw, 0⟩]⟩,
   ⟨.HDL_DOORBELL, .single, 0x40, 1, 0x0, true, [⟨0, 1, .w1c, 0⟩, ⟨1, 1, .w1c, 0⟩]⟩,
   ⟨.HDL_BARRIER, .single, 0x44, 1, 0x0, true, [⟨0, 4, .roh, 0⟩, ⟨4, 1, .w1c, 0⟩, ⟨16, 16, .roh, 0⟩]⟩,
   ⟨.HDL_CLEAN_LO, .lo, 0x100, 4, 0x10, true, [⟨0, 32, .rw, 0⟩]⟩,
   ⟨.HDL_CLEAN_HI, .hi, 0x104, 4, 0x10, true, [⟨0, 16, .rw, 0⟩]⟩,
   ⟨.HDL_CLEAN_LEN, .single, 0x108, 4, 0x10, true, [⟨0, 32, .rw, 0⟩]⟩,
   ⟨.HDL_CLEAN_CTL, .single, 0x10c, 4, 0x10, true, [⟨0, 2, .wo, 0⟩, ⟨2, 1, .roh, 0⟩, ⟨3, 1, .roh, 0⟩, ⟨4, 1, .w1c, 0⟩]⟩]

/-- The registers of WGE (R493). -/
def wgeRegs : List RegDesc :=
  [⟨.WGE_START, .single, 0x0, 5, 0x4, true, [⟨0, 32, .wo, 0⟩]⟩,
   ⟨.WGE_BUSY, .single, 0x20, 5, 0x4, true, [⟨0, 32, .roh, 0⟩]⟩,
   ⟨.WGE_BOB_OFF, .single, 0x40, 3, 0x4, true, [⟨0, 32, .rw, 0⟩]⟩,
   ⟨.WGE_DOM_SET, .single, 0x100, 133, 0x10, true, [⟨0, 7, .rw, 0x50⟩]⟩,
   ⟨.WGE_DOM_READ, .single, 0x104, 133, 0x10, true, [⟨0, 8, .roh, 0⟩, ⟨8, 8, .roh, 0⟩, ⟨16, 16, .roh, 0⟩]⟩,
   ⟨.WGE_DOM_HIST, .single, 0x108, 133, 0x10, true, [⟨0, 8, .rw, 0⟩, ⟨8, 8, .rw, 0⟩, ⟨16, 16, .rw, 0⟩]⟩]

/-- The block instances: how many, base, step of the instances, span (19 R517). -/
def blockMap : List BlockDesc :=
  [⟨1, 0x0, 0x0, 0x1000, glbRegs⟩,
   ⟨1, 0x10000, 0x0, 0x1000, refRegs⟩,
   ⟨1, 0x20000, 0x0, 0x1000, pckRegs⟩,
   ⟨64, 0x100000, 0x1000, 0x1000, wrpRegs⟩,
   ⟨1, 0x180000, 0x0, 0x2000, crlRegs⟩,
   ⟨68, 0x200000, 0x1000, 0x1000, lomRegs⟩,
   ⟨1, 0x280000, 0x0, 0x1000, apuRegs⟩,
   ⟨64, 0x300000, 0x1000, 0x1000, hrnRegs⟩,
   ⟨1, 0x370000, 0x0, 0x1000, hstRegs⟩,
   ⟨1, 0x380000, 0x0, 0x1000, btnRegs⟩,
   ⟨1, 0x400000, 0x0, 0x2000, zchRegs⟩,
   ⟨1, 0x440000, 0x0, 0x3000, pwdRegs⟩,
   ⟨4, 0x480000, 0x10000, 0x1000, trdRegs⟩,
   ⟨1, 0x500000, 0x0, 0x1000, jrnRegs⟩,
   ⟨32, 0x580000, 0x1000, 0x1000, cloRegs⟩,
   ⟨1, 0x5c0000, 0x0, 0x40000, splRegs⟩,
   ⟨24, 0x600000, 0x1000, 0x1000, drmRegs⟩,
   ⟨1, 0x700000, 0x0, 0x1000, shtRegs⟩,
   ⟨1, 0x780000, 0x0, 0x1000, mtxRegs⟩,
   ⟨1, 0x7c0000, 0x0, 0x1000, hdlRegs⟩,
   ⟨1, 0x7e0000, 0x0, 0x1000, wgeRegs⟩]

end Sys2Proof.Machine
end

