-- ==== Sys2Proof/Machine/Ops.lean ====
section
/-! DEFINITION. The shared operations: how a command acts on the state, the register file and its access codes, pick
numbers, the ledger's event ring, the notice queue, and the raising of a fault with everything common to all of them. -/

namespace Sys2Proof.Machine

/-- A command's effect: `f` on the device unless it is held in reset (18 R494), the queue untouched. The pins PWROK and RST_N
are inputs: no such command changes their level. -/
def State.act (f : Device → Device) (s : State) : Host.Outcome State Fault Refusal :=
  .next { s with dev := if s.dev.held then s.dev
                        else { f s.dev with held := s.dev.held, powered := s.dev.powered } }

/-- An effect that reset does not hold back: the pins PWROK and RST_N. -/
def State.actRaw (f : Device → Device) (s : State) : Host.Outcome State Fault Refusal :=
  .next { s with dev := f s.dev }

/-! ### The register map -/

/-- The instance of `b` whose span holds `addr`, and the offset in it (19 R517). -/
def BlockDesc.locate (b : BlockDesc) (addr : Nat) : Option (Nat × Nat) :=
  if addr < b.base then none
  else
    let i := if b.step = 0 then 0 else (addr - b.base) / b.step
    let off := addr - b.base - i * b.step
    if i < b.count ∧ off < b.span then some (i, off) else none

/-- The block, instance and offset that `addr` decodes to; none goes to the default target (19 R517, 16 R452). -/
def locate (addr : Nat) : Option (BlockDesc × Nat × Nat) :=
  if addr % 4 ≠ 0 then none
  else blockMap.findSome? fun b => (b.locate addr).map fun p => (b, p.1, p.2)

/-- The index that `off` has in the register `r`, when it lies on it. -/
def RegDesc.indexOf (r : RegDesc) (off : Nat) : Option Nat :=
  if off < r.off then none
  else if r.step = 0 then (if off = r.off then some 0 else none)
  else if (off - r.off) % r.step = 0 ∧ (off - r.off) / r.step < r.cnt then some ((off - r.off) / r.step) else none

/-- The register at `addr` with its block instance and index: none for a reserved offset (19 R518). -/
def descAt (addr : Nat) : Option (RegDesc × Nat × Nat) :=
  match locate addr with
  | none => none
  | some (b, i, off) => (b.regs ++ faultRegs).findSome? fun r => (r.indexOf off).map fun k => (r, i, k)

/-- The fields of the register at `addr`; none listed for a reserved offset. -/
def fieldsAt (addr : Nat) : List FieldDesc :=
  match descAt addr with
  | none => []
  | some (r, _, _) => r.fields

/-- The reset word that a table's Reset column gives. -/
def RegDesc.resetNat (r : RegDesc) : Nat := r.fields.foldl (fun a f => a + f.reset * 2 ^ f.lo) 0

/-- The register at `addr` after a cold reset (00 R7). Three tables give the value by the index: LOM_ROLE and CRL_LMAP
(05 R151, R152, R544), REF_PRIO (14 R409). -/
def resetWord (addr : Nat) : W32 :=
  match descAt addr with
  | none => 0
  | some (r, i, k) =>
    BitVec.ofNat 32 <|
      if r.id = .LOM_ROLE then (if i < 64 then i * 256 else 1) + 0x8000
      else if r.id = .CRL_LMAP then k
      else if r.id = .REF_PRIO then k
      else r.resetNat

/-- The word of the register at `addr`; of a pick-committed register, the shadow (00 R5). -/
def Device.word (d : Device) (addr : Nat) : W32 := Sparse.get resetWord d.regs addr

/-- Sets the word of the register at `addr`. -/
def Device.setWord (d : Device) (addr : Nat) (v : W32) : Device := { d with regs := Sparse.put resetWord d.regs addr v }

/-- A field's value; of a pick-committed field, the shadow. -/
def Device.get (d : Device) (f : Fld) : Nat := f.of (d.word f.addr)

/-- A one-bit field as a truth value. -/
def Device.flag (d : Device) (f : Fld) : Bool := d.get f != 0

/-- Hardware has set bit `n` of the register at `addr` in this matrix cycle, if `b` holds (00 R6). -/
def Device.heat (d : Device) (addr n : Nat) (b : Bool) : Device :=
  { d with hot := if b then Sparse.put (fun _ => 0) d.hot addr (Sparse.get (fun _ => 0) d.hot addr ||| BitVec.ofNat 32 (2 ^ n)) else d.hot }

/-- Sets a field; the register's other fields keep their values. -/
def Device.set (d : Device) (f : Fld) (v : Nat) : Device :=
  (d.setWord f.addr (f.into (d.word f.addr) v)).heat f.addr f.lo (f.w == 1 && v % 2 == 1)

/-- Sets a one-bit field from a truth value. -/
def Device.put (d : Device) (f : Fld) (b : Bool) : Device := d.set f (if b then 1 else 0)

/-- Adds `n` to a saturating counter. -/
def Device.add (d : Device) (f : Fld) (n : Nat) : Device := d.set f (satU f.w (d.get f + n))

/-- Counts one in a saturating counter. -/
def Device.inc (d : Device) (f : Fld) : Device := d.add f 1

/-- Counts one modulo the field's width. -/
def Device.incMod (d : Device) (f : Fld) : Device := d.set f (d.get f + 1)

/-- Raises a peak to `v`. -/
def Device.peak (d : Device) (f : Fld) (v : Nat) : Device := if d.get f < v then d.set f (satU f.w v) else d

/-- The live word of a pick-committed register (02). -/
def Device.liveWord (d : Device) (addr : Nat) : W32 := Sparse.get resetWord d.live addr

/-- The live value of a pick-committed field (02). -/
def Device.liveOf (d : Device) (f : Fld) : Nat := f.of (d.liveWord f.addr)

/-- Sets the live value and the shadow of a pick-committed field, as a weave does (12 R358); a weave discards the pending
commit, so there is no pending value to set. -/
def Device.setBoth (d : Device) (f : Fld) (v : Nat) : Device :=
  { d.set f v with live := Sparse.put resetWord d.live f.addr (f.into (d.liveWord f.addr) v) }

/-- A 64-bit pair as one number. -/
def Device.pair (d : Device) (lo hi : Fld) : Nat := d.get lo + 2 ^ 32 * d.get hi

/-- Sets a 64-bit pair. -/
def Device.setPair (d : Device) (lo hi : Fld) (v : Nat) : Device := (d.set lo (v % 2 ^ 32)).set hi (v / 2 ^ 32)

/-- The register at `addr` has a pick-committed field. -/
def isRwp (addr : Nat) : Bool := (fieldsAt addr).any fun f => f.acc == .rwp

/-- What a write of `v` leaves in a register that held `old`, field by field (00 R5). `hot` are the bits that hardware has set in
this matrix cycle, which stay set (00 R6). -/
def applyAccess (fs : List FieldDesc) (hot old v : W32) : W32 :=
  fs.foldl (fun x f =>
    let g : Fld := ⟨0, f.lo, f.w⟩
    match f.acc with
    | .rw => g.into x (g.of v)
    | .rwp => g.into x (g.of v)
    | .w1c => g.into x ((g.of x) &&& (2 ^ f.w - 1 - (g.of v &&& (2 ^ f.w - 1 - g.of hot))))
    | .ro => x
    | .roh => x
    | .wo => x) old

/-- The bits of the register at `addr` that hardware has set in the current matrix cycle. -/
def Device.hotAt (d : Device) (addr : Nat) : W32 := Sparse.get (fun _ => 0) d.hot addr

/-- The word that the register at `addr` held when the current matrix cycle began. -/
def Device.wordAtCycle (d : Device) (addr : Nat) : W32 := Sparse.get resetWord d.tm.mark addr

/-- The names of the pairs' halves: `addr` is a _LO and its _HI follows (00 R8). -/
def hiOf (addr : Nat) : Option Nat :=
  match descAt addr with
  | none => none
  | some (r, _, _) => if r.half = .lo then some (addr + 4) else none

/-- The _LO of the pair whose _HI is at `addr`. -/
def loOf (addr : Nat) : Option Nat :=
  match descAt addr with
  | none => none
  | some (r, _, _) => if r.half = .hi then some (addr - 4) else none

/-- Matrix master `m` can issue register requests (16 R449, R450; 19 R521): a pair that is not held in reset, the host bridge,
the debug port while the IEEE 1149.1 port is unlocked; the shuttle engine never does. -/
def Device.issues (d : Device) (m : Nat) : Bool :=
  if m = 0 then !d.flag HDL_ROLE.pair0_held
  else if m = 1 then !d.flag HDL_ROLE.pair1_held
  else if m = 2 then false
  else if m = 4 then !d.flag GLB_TEST.jtag_locked
  else true

/-- The most requests that master `m` has had outstanding (16 R467). -/
def mtxPeak (m : Nat) : Fld := ⟨MTX_PEAK.word.addr, 5 * m, 5⟩

/-- The pair that holds the control role is in reset (16 R449). -/
def Device.ctlHeld (d : Device) : Bool :=
  if d.get HDL_ROLE.ctl = 0 then d.flag HDL_ROLE.pair0_held else d.flag HDL_ROLE.pair1_held

/-- The pair that holds the service role is in reset: nobody does its work until the takeover (16 R448, R449). -/
def Device.svcHeld (d : Device) : Bool :=
  if d.get HDL_ROLE.svc = 0 then d.flag HDL_ROLE.pair0_held else d.flag HDL_ROLE.pair1_held

/-- Firmware runs and holds the control role: it executes messages, sends notices and answers. -/
def Device.fwUp (d : Device) : Bool := d.boot.phase == .running && d.rsq.hdrUp && !d.ctlHeld

/-! ### Time and picks -/

/-- The extended pick number of the current interval: epoch × 2^48 + PN (02 R40). -/
def Device.pn (d : Device) : Nat := d.pair PCK_PN_LO.word PCK_PN_HI.word

/-- PCK is RUNNING. -/
def Device.running (d : Device) : Bool := d.get PCK_STATE.state == 2

/-- A draft is woven. -/
def Device.woven (d : Device) : Bool := d.flag PCK_WEAVE_STAT.woven

/-- The pick period P in loom cycles. -/
def Device.period (d : Device) : Nat := d.get PCK_CFG.period

/-- The shed length S, 1 while no draft is woven. -/
def Device.shedLen (d : Device) : Nat := 2 ^ d.get PCK_CFG.shed_log2

/-- The pick that a notice or a fault register names: 0 when PCK is not RUNNING (17 R472, 15 R437). -/
def Device.faultPick (d : Device) : Nat := if d.running then d.pn else 0

/-- The slew of a switch goes on for `n` loom cycles, 1 ps in 1,600 of them, at most by what is left (14 R398). -/
def Device.slewSwitch (d : Device) (n : Nat) : Device :=
  let r := d.ref
  let u := r.slewPart + n
  let k := min (u / 1600) r.slewLeft.natAbs
  let step : Int := if r.slewLeft < 0 then -(k : Int) else k
  { d with ref := { r with slewPart := u % 1600, slewLeft := r.slewLeft - step, moved := r.moved + step } }

/-- The applied θ moves towards the target for `n` loom cycles, 1 ps in 1,600 of them, unless a switch slews (14 R404,
R405). -/
def Device.slewTheta (d : Device) (n : Nat) : Device :=
  let goal := sx 32 (d.get REF_THETA.theta)
  let cur := sx 32 (d.get REF_THETA_APP.theta)
  if d.get REF_STAT.state = 2 then d.slewSwitch n
  else if goal = cur then { d with ref := { d.ref with slewFrac := 0 } }
  else
    let u := d.ref.slewFrac + n
    let next : Int := if cur < goal then min goal (cur + (u / 1600 : Nat)) else max goal (cur - (u / 1600 : Nat))
    { d.set REF_THETA_APP.theta (low 32 next) with ref := { d.ref with slewFrac := if next = goal then 0 else u % 1600 } }

/-- A new matrix cycle begins: bits that are set from here on are set in it (00 R6). -/
def Device.newCycle (d : Device) : Device := { d with hot := [], tm := { d.tm with mark := d.regs } }

/-- The time-stamped commands move the model's clock forward, never back; the applied θ follows it. A matrix cycle, at
800 MHz, is two loom cycles (16). -/
def Device.at_ (d : Device) (t : Nat) : Device :=
  if d.tm.now < t then
    let x := if t / 2 = d.tm.now / 2 then d else d.newCycle
    { x.slewTheta (t - d.tm.now) with tm := { x.tm with now := t } }
  else d

/-- Takes the next free value's index. -/
def Device.nextFree (d : Device) : Device := { d with freeN := d.freeN + 1 }

/-! ### The ledger's event ring (10 R285 to R287) -/

/-- The last event's sequence number. -/
def Device.lseq (d : Device) : Nat := d.pair JRN_LSEQ_LO.lseq_lo JRN_LSEQ_HI.lseq_hi

/-- Appends an event to copy 0 and then to copy 1; `second` says that the write of copy 1 completed. Each ring holds
4,194,304 entries. -/
def Device.ledgerAt (d : Device) (second : Bool) (ty pick : Nat) (body : List Byte) : Device :=
  let n := (d.lseq + 1) % 2 ^ 64
  let e : LedEvent := { ty := ty, seq := n, pick := pick, body := body, ok := true }
  let d := d.setPair JRN_LSEQ_LO.lseq_lo JRN_LSEQ_HI.lseq_hi n
  { d with jrn := { d.jrn with
      copy0 := (e :: d.jrn.copy0).take 4194304,
      copy1 := ({ e with ok := second } :: d.jrn.copy1).take 4194304 } }

/-! ### Notices (15 R436 to R442) -/

/-- The registers of a pair list that are write-one-to-clear: their values merge by OR (15 R439). -/
def isW1c (addr : Nat) : Bool := (fieldsAt addr).any fun f => f.acc == .w1c

/-- Merging an occurrence into a queued notice (15 R439). -/
def Notice.merge (n : Notice) (pick : Nat) (pairs : List (Nat × Nat)) : Notice :=
  { n with
    count := satU 16 (n.count + 1), lastPick := pick,
    pairs := (n.pairs.zip pairs).map fun p => (p.1.1, if isW1c p.1.1 then p.1.2 ||| p.2.2 else p.2.2) }

/-- A notice of `n`'s subject that a new one of this type and these pairs merges into. -/
def Notice.takes (n : Notice) (ty subject : Nat) (pairs : List (Nat × Nat)) : Bool :=
  !n.sent && n.ty == ty && n.subject == subject && n.pairs.map Prod.fst == pairs.map Prod.fst && ty != 1 && ty != 2 && ty != 3

/-- Drops are reported by one LOST notice, whose picks are those of the first and the last of them: one that waits takes further
drops, else one is queued once an entry is free (R437, R442). -/
def Device.settleLost (d : Device) : Device :=
  let r := d.rsq
  if r.dropped = 0 then d
  else if r.queue.any (fun n => n.ty == 2 && !n.sent) then
    let queue := r.queue.map fun n =>
      if n.ty == 2 && !n.sent then { n with count := satU 16 (n.count + r.dropped), lastPick := r.dropLast } else n
    { d with rsq := { r with dropped := 0, queue := queue } }
  else if 4096 ≤ r.queue.length then d
  else
    let n : Notice := { nseq := r.nseq, ty := 2, severity := (Config.severity 2 0).val, count := r.dropped, firstPick := r.dropFirst,
                        lastPick := r.dropLast, subject := 0, ref := be 8 0, pairs := [], sent := false, expiries := 0,
                        timeout := 0, sentAt := 0 }
    { d with rsq := { r with dropped := 0, queue := r.queue ++ [n], nseq := r.nseq + 1 } }

/-- Puts a new notice into the queue: merged (R439), appended with the next nseq, or dropped when the entries open to
its severity are full (R442); the last 64 entries serve ALARM, FATAL and the LOST notice. -/
def Device.noticeRef (d : Device) (ty sev subject : Nat) (ref : List Byte) (pairs : List (Nat × Nat)) : Device :=
  let r := d.rsq
  let pick := d.faultPick
  if r.queue.any (fun n => n.takes ty subject pairs) then
    let queue := r.queue.map fun n => if n.takes ty subject pairs then n.merge pick pairs else n
    { d with rsq := { r with queue := queue } }
  else if r.queue.length < (if 2 ≤ sev then 4096 else 4032) then
    let n : Notice := { nseq := r.nseq, ty := ty, severity := sev, count := 1, firstPick := pick, lastPick := pick,
                        subject := subject, ref := ref, pairs := pairs, sent := false, expiries := 0, timeout := 0,
                        sentAt := 0 }
    { d with rsq := { r with queue := r.queue ++ [n], nseq := r.nseq + 1 } }
  else
    let lost := Sparse.get (fun _ => 0) r.counters 8
    { d with rsq := { r with dropped := satU 16 (r.dropped + 1), dropLast := pick,
                             dropFirst := if r.dropped = 0 then pick else r.dropFirst,
                             counters := Sparse.put (fun _ => 0) r.counters 8 (satU 32 (lost + 1)) } }.settleLost

/-- A notice whose ref is zero. -/
def Device.notice (d : Device) (ty sev subject : Nat) (pairs : List (Nat × Nat)) : Device :=
  d.noticeRef ty sev subject (be 8 0) pairs

/-- An EVENT notice whose pair 0 is the register at `addr` (15 R438); the spec names no severity for it (log 13). -/
def Device.eventNotice (d : Device) (subject addr : Nat) : Device :=
  d.notice 0x11 (Config.severity 0x11 addr).val subject [(addr, (d.word addr).toNat)]

/-! ### Faults (17) -/

/-- The base address of a block instance (19 R517). -/
def blkBase : Blk → Nat
  | .glb => 0
  | .ref => 0x10000
  | .pck => 0x20000
  | .wrp p => 0x100000 + 0x1000 * p.val
  | .crl => 0x180000
  | .lom k => 0x200000 + 0x1000 * k.val
  | .apu => 0x280000
  | .hrn h => 0x300000 + 0x1000 * h.val
  | .hst => 0x370000
  | .btn => 0x380000
  | .zch => 0x400000
  | .pwd => 0x440000
  | .trd e => 0x480000 + 0x10000 * e.val
  | .jrn => 0x500000
  | .clo c => 0x580000 + 0x1000 * c.val
  | .spl => 0x5c0000
  | .drm c => 0x600000 + 0x1000 * c.val
  | .sht => 0x700000
  | .mtx => 0x780000
  | .hdl => 0x7c0000
  | .wge => 0x7e0000

/-- The classes a block gives its sources, from source 0 (17 R479): 1 C, 2 U, 3 F, 0 unused. -/
def blkClasses : Blk → List Nat
  | .glb => [0, 0, 3, 3]
  | .ref => [0, 0, 3]
  | .pck => [0, 0, 3]
  | .wrp _ => [1, 2]
  | .crl => [1, 2]
  | .lom _ => [1, 2, 2, 2, 2, 2]
  | .apu => [0, 0, 2]
  | .hrn _ => [1, 2, 2]
  | .hst => [1, 0, 2, 2]
  | .btn => [0, 0, 2]
  | .zch => [0, 0, 2, 2, 2]
  | .pwd => [0, 0, 2, 2, 2]
  | .trd _ => [1, 2]
  | .jrn => [0, 0, 2, 2, 2]
  | .clo _ => [1, 2, 2]
  | .spl => [1, 2, 2]
  | .drm _ => [0, 2, 1, 3]
  | .sht => [1, 2]
  | .mtx => [0, 0, 3]
  | .hdl => [1, 0, 2, 3]
  | .wge => [0, 0, 1]

/-- The class of source `n` of block `b`; 0 for a source the block does not list. -/
def faultClass (b : Blk) (n : Nat) : Nat := (blkClasses b).getD n 0

/-- Sets one bit of a field. -/
def Device.setBit (d : Device) (f : Fld) (n : Nat) : Device := (d.set f (d.get f ||| 2 ^ n)).heat f.addr (f.lo + n) (decide (n < f.w))

/-- What a fatal source adds (17 R477, R478): GLB_FATAL names the first one; `inj` is its injected tag. -/
def Device.fatal (d : Device) (base src : Nat) (inj : Bool) : Device :=
  if d.flag GLB_FATAL.fatal then d
  else
    let d := ((d.put GLB_FATAL.fatal true).set GLB_FATAL.block (base / 4096)).set GLB_FATAL.source src
    { d with sup := { d.sup with fatalAt := some d.tm.now, fatalInj := inj } }

/-- The event of source `src` is captured (17 R472, R542); `real` says that a real event is among those of its cycle. -/
def Device.firstEvent (d : Device) (b : Blk) (src : Nat) (real : Bool) (detail : Nat) : Device :=
  let base := blkBase b
  let d := (d.set (FFIRST.source base) src).set (FFIRST.class_ base) (faultClass b src)
  let d := ((d.put (FFIRST.injected base) (!real)).put (FFIRST.valid base) true).set (FDETAIL.detail base) detail
  d.setPair (FPN_LO.fpn_lo base) (FPN_HI.word base) d.faultPick

/-- FSTAT of block `b` was all zero when the current matrix cycle began, so the event that FFIRST holds came in this cycle, and an
event of source `src` goes before it (17 R473): of higher class, of its class and real where that one was injected, or else of a
lower number. -/
def Device.outranks (d : Device) (b : Blk) (src : Nat) (real : Bool) : Bool :=
  let base := blkBase b
  let cls := faultClass b src
  let old := d.get (FFIRST.class_ base)
  let inj := d.flag (FFIRST.injected base)
  d.word (FSTAT.real base).addr != 0 && d.wordAtCycle (FSTAT.real base).addr == 0 &&
    (decide (old < cls) || (old == cls && ((real && inj) || (real == !inj && decide (src < d.get (FFIRST.source base))))))

/-- The fault of block `b` has taken its loom, port or pair out of work, which its next notice reports (17 R475). -/
def Device.tookAway (d : Device) (b : Blk) : Device := { d with sup := { d.sup with took := (blkBase b :: d.sup.took).eraseDups } }

/-- Source `src` of block `b` is recorded in FSTAT and counted (R472); with FSTAT all zero, no fault has taken anything away yet
(R475). -/
def Device.faultBits (d : Device) (b : Blk) (src : Nat) (real inj : Bool) : Device :=
  let base := blkBase b
  let cls := faultClass b src
  let d := if d.word (FSTAT.real base).addr == 0 then
      { d with sup := { d.sup with took := d.sup.took.filter fun x => x != base } }
    else d
  let d := if real then
      (d.setBit (FSTAT.real base) src).inc (if cls = 1 then FCOUNT.c_count base else if cls = 2 then FCOUNT.u_count base
        else FCOUNT.f_count base)
    else d
  if inj then (d.setBit (FSTAT.injected base) src).inc (FINJ.inj_count base) else d

/-- The fault registers of a raised source (17 R472, R473, R484): FSTAT, the class counts of real events, the injection
count, the captured first event with its detail and pick, and GLB_FATAL for a fatal one. The class is the source's own. -/
def Device.raise (d : Device) (b : Blk) (src : Nat) (real inj : Bool) (detail : Nat) : Device :=
  let cls := faultClass b src
  if cls = 0 ∨ (!real ∧ !inj) then d
  else
    let first := d.word (FSTAT.real (blkBase b)).addr == 0 || d.outranks b src real
    let e := d.faultBits b src real inj
    let e := if first then e.firstEvent b src real detail else e
    if cls = 3 then e.fatal (blkBase b) src (!real) else e

/-- A real fault that the block's own checks find. -/
def Device.raiseReal (d : Device) (b : Blk) (src detail : Nat) : Device := d.raise b src true false detail

/-- An injection of source `src` of block `b` is armed: the source that go has named, whatever FINJ.source says since (17 R483). -/
def Device.armed (d : Device) (b : Blk) (src : Nat) : Bool :=
  d.testen && d.flag (FINJ.pending (blkBase b)) && Sparse.get (fun _ => 0) d.sup.armedSrc (blkBase b) == src

/-- The armed injection acts: pending clears, and the source is raised as injected, with a real event or without. -/
def Device.takeInjection (d : Device) (b : Blk) (src : Nat) (real : Bool) (detail : Nat) : Device :=
  (d.put (FINJ.pending (blkBase b)) false).raise b src real true detail

/-- A check of source `src`: `found` is the real finding. It answers whether the consequence is taken, and the device
with what was found or injected recorded (17 R483, R484). -/
def Device.check (d : Device) (b : Blk) (src : Nat) (found : Bool) (detail : Nat) : Bool × Device :=
  if d.armed b src then (true, d.takeInjection b src found detail)
  else if found then (true, d.raiseReal b src detail)
  else (false, d)

/-- R542 gives the source a detail; every other source's FDETAIL is 0. -/
def hasDetail : Blk → Nat → Bool
  | .lom _, n => decide (n < 5)
  | .crl, n => decide (n < 2)
  | .hrn _, n => decide (n < 2)
  | .trd _, n => decide (n < 2)
  | .wrp _, n => decide (n < 2)
  | .sht, n => decide (n < 2)
  | .hdl, n => n == 0
  | .clo _, n => decide (n < 3)
  | .spl, n => decide (n < 3)
  | .hst, n => n == 0 || n == 3
  | .jrn, n => n == 3
  | .drm _, _ => true
  | _, _ => false

/-- The block's fault interrupt (17 R474): some source is set, and is fatal or not masked. -/
def Device.irq (d : Device) (b : Blk) : Bool :=
  let base := blkBase b
  let set := d.get (FSTAT.real base) ||| d.get (FSTAT.injected base)
  (List.range 16).any fun n => bit set n && (faultClass b n == 3 || !bit (d.get (FMASK.mask base)) n)

/-! ### Channels and windows of attached memory (13 R364 to R366, R381; 16 R451) -/

/-- Channel `ch` beside its registers. Its generator has no seed in the spec (log 79). -/
def DramCh.cold : DramCh := { sensorFails := 0, rows := [], marks := [], acts := [], rfm := none, draw := 0, queue := [] }

/-- Channel `ch`. -/
def Device.dram (d : Device) (ch : Nat) : DramCh := Sparse.get (fun _ => DramCh.cold) d.drm ch

/-- Sets channel `ch`. -/
def Device.setDram (d : Device) (ch : Nat) (x : DramCh) : Device := { d with drm := Sparse.put (fun _ => DramCh.cold) d.drm ch x }

/-- The channel runs. -/
def Device.chanRuns (d : Device) (ch : Nat) : Bool := d.get (DRM_STAT.state ch) == 2

/-- The channel that holds the line at bulk address `a` (13 R365, R366; 16 R451). -/
def lineChannel (a : Nat) : Nat :=
  let inW (b n : Nat) : Bool := decide (b ≤ a) && decide (a < b + n)
  if inW 0x040000000000 0x20000000 then (a - 0x040000000000) / 512 % 8
  else if inW 0x040020000000 0x20000000 then 8 + (a - 0x040020000000) / 512 % 8
  else if inW 0x040040000000 0x4000000 then 16 + (a - 0x040040000000) / 512 % 8
  else if inW 0x0C0000000000 0x5E800000 then (a - 0x0C0000000000) / 768 % 24
  else a / 768 % 24

/-- The size T_g of the general window: 0 while attached memory is not in use (R362). -/
def Device.generalSize (d : Device) : Nat :=
  if d.boot.dramReady then 18432 * ((d.get (DRM_CFG.cap_gb 0) * 2 ^ 30 - 2 ^ 27) / 768) else 0

/-- A window of the bulk address space with the offset in it. -/
inductive Win where
  | general (a : Nat) | ledger (copy off : Nat) | staging (off : Nat) | woven (off : Nat) | bobbin (k off : Nat)
  | treadle (e off : Nat) | firmware (a : Nat) | shared (a : Nat) | rom (off : Nat) | flash (off : Nat)
  deriving DecidableEq, Repr

/-- The window that `a` lies in; `heddle` also decodes the windows of R451. None goes to the default target. DESIGN CHOICE
(log 80): while attached memory is not in use (R362) the ledger copies and the firmware area do not decode either; the draft
window does, so that a draft can be loaded and its check fails with code 11. -/
def Device.window (d : Device) (heddle : Bool) (a : Nat) : Option Win :=
  let inW (b n : Nat) : Bool := decide (b ≤ a) && decide (a < b + n)
  if a < d.generalSize then some (.general a)
  else if d.boot.dramReady ∧ inW 0x040000000000 0x20000000 then some (.ledger 0 (a - 0x040000000000))
  else if d.boot.dramReady ∧ inW 0x040020000000 0x20000000 then some (.ledger 1 (a - 0x040020000000))
  else if inW 0x040040000000 0x2000000 then some (.staging (a - 0x040040000000))
  else if inW 0x040042000000 0x2000000 then some (.woven (a - 0x040042000000))
  else if inW 0x080000000000 (68 * 2 ^ 21) then
    some (.bobbin ((a - 0x080000000000) / 2 ^ 21) ((a - 0x080000000000) % 2 ^ 21))
  else if inW 0x080100000000 (4 * 2 ^ 20) ∧ (a - 0x080100000000) % 2 ^ 20 < 0x60000 then
    some (.treadle ((a - 0x080100000000) / 2 ^ 20) ((a - 0x080100000000) % 2 ^ 20))
  else if heddle ∧ d.boot.dramReady ∧ inW 0x0C0000000000 0x5E800000 then some (.firmware a)
  else if heddle ∧ inW 0x0C0100000000 0x1C0000 then some (.shared a)
  else if heddle ∧ inW 0x0C0200000000 0x40000 then some (.rom (a - 0x0C0200000000))
  else if heddle ∧ inW 0x0C0300000000 0x4000000 then some (.flash (a - 0x0C0300000000))
  else none

/-- Attached memory holds `a`: the general window and the parts of the system area that have bulk addresses. -/
def Device.inMemory (d : Device) (a : Nat) : Bool := d.boot.dramReady && match d.window true a with
  | some (.general _) => true
  | some (.ledger _ _) => true
  | some (.staging _) => true
  | some (.woven _) => true
  | some (.firmware _) => true
  | _ => false

/-- The 128-byte access units of `[a, a + n)` (R371). -/
def unitsOf (a n : Nat) : List Nat := (List.range ((a + n + 127) / 128 - a / 128)).map fun i => 128 * (a / 128 + i)

/-- An access of attached memory by `u` enters through its port (R381): each controller that holds a part of `[a, a + n)` accepts it,
and it waits there for a command slot. `owed` says that a matrix master still waits for the response. -/
def Device.enters (d : Device) (u : MemUser) (a n : Nat) (writes owed : Bool) : Device :=
  if n = 0 ∨ !d.inMemory a then d
  else
    let us := unitsOf a n
    let x : MemSlot := { user := u, addr := a, len := n, writes := writes, owed := owed, since := d.tm.now }
    (List.range 24).foldl (fun d ch =>
      if d.chanRuns ch ∧ us.any (fun i => lineChannel i == ch) then
        d.setDram ch { d.dram ch with queue := (d.dram ch).queue ++ [x] }
      else d) d

/-- The tables of a ledger copy after its event ring (10 R286): where each begins, the size of its entries, their number. The
header is table 0. -/
def ledgerAreas : List (Nat × Nat × Nat) :=
  [(0, 4096, 1), (268439552, 32, 3072), (268537856, 128, 16), (268539904, 64, 4), (268540160, 64, 8192), (269064448, 64, 4096)]

/-- Where the entry `key` lies in a copy, and its size. -/
def tablePlace (key : Nat) : Nat × Nat :=
  let (b, n, _) := ledgerAreas.getD (key / 65536) (0, 0, 0)
  (b + n * (key % 65536), n)

/-! ### Writes of the ledger -/

/-- `n` bytes at `off` of both ledger copies are written or read through port 1 (13 R381). -/
def Device.ledgerEnters (d : Device) (off n : Nat) (writes : Bool) : Device :=
  (d.enters .ledger (0x040000000000 + off) n writes false).enters .ledger (0x040020000000 + off) n writes false

/-- A write to the ledger is in both copies, but for the check of JRN source 4, the write of copy 1 (17 R483, R479 ledger_copy).
A write that fails during a quiesce fails the quiesce (10 R291). -/
def Device.ledgerCheck (d : Device) : Bool × Device :=
  let (bad, d) := d.check .jrn 4 false 0
  (bad, if bad && d.jrn.quiesced == some false then { d with jrn := { d.jrn with quiesceBad := true } } else d)

/-- Appends a ledger event, while attached memory is in use (13 R362). -/
def Device.ledger (d : Device) (ty pick : Nat) (body : List Byte) : Device :=
  if !d.boot.dramReady then d
  else
    let (bad, d) := d.ledgerCheck
    let d := d.ledgerAt (!bad) ty pick body
    d.ledgerEnters (4096 + 64 * (d.lseq % 4194304)) 64 true

/-- The entry of a ledger table that was never written. -/
def LedEntry.cold : LedEntry := { seq := 0, at_ := 0, ok := false, val := [] }

/-- Rewrites the entry `key` of the ledger's tables, in copy 0 and then in copy 1, with its own sequence number (10 R285, R288). -/
def Device.writeTable (d : Device) (key : Nat) (val : List Nat) : Device :=
  if !d.boot.dramReady then d
  else
    let (bad, d) := d.ledgerCheck
    let n := (d.jrn.tabSeq + 1) % 2 ^ 64
    let e : LedEntry := { seq := n, at_ := d.tm.now, ok := true, val := val }
    let put (m : Sparse LedEntry) (e : LedEntry) : Sparse LedEntry := Sparse.put (fun _ => LedEntry.cold) m key e
    let d := { d with jrn := { d.jrn with tabSeq := n, tab0 := put d.jrn.tab0 e, tab1 := put d.jrn.tab1 { e with ok := !bad } } }
    d.ledgerEnters (tablePlace key).1 (tablePlace key).2 true

end Sys2Proof.Machine
end

