-- ==== Sys2Proof/Machine/Memory.lean ====
section
/-! DEFINITION. Attached memory and the windows of the bulk address space (13 R364 to R367, 16 R451): bytes, poisoned
lines, atomic adds of long-integration elements (06 R163, R167, R169), draft slots, and what each window reads as. -/

namespace Sys2Proof.Machine

/-- What a byte of attached memory that nothing has written reads as (log 5). -/
def memDflt (_ : Nat) : Byte := 0

/-- The canonical form of attached memory: addresses strictly rising, no entry equal to what an unlisted address reads as. -/
def Memory.wf (m : Sparse Byte) : Bool := Sparse.wf memDflt m

/-- The byte at bulk address `a` of the stores behind `mem`. -/
def Device.byte (d : Device) (a : Nat) : Byte := Sparse.get memDflt d.mem a

/-- `n` bytes from `a`. -/
def Device.bytes (d : Device) (a n : Nat) : List Byte := Sparse.getAll memDflt d.mem a n

/-- Where the line at bulk address `a` is marked: an alias of the draft window leads to the physical slot that holds its role
(13 R364), slot 0 at the place of the first alias and slot 1 at that of the second. -/
def Device.phys (d : Device) (a : Nat) : Nat :=
  if 0x040040000000 ≤ a ∧ a < 0x040044000000 ∧ !d.drafts.woven1 then
    if a < 0x040042000000 then a + 0x2000000 else a - 0x2000000
  else a

/-- The poisoned lines that `[a, a + n)` touches (13 R372). -/
def Device.poisonIn (d : Device) (a n : Nat) : List Nat :=
  let p := d.phys a
  d.poison.filter fun l => decide (p < 64 * l + 64) && decide (64 * l < p + n)

/-- Some line that `[a, a + n)` touches is poisoned (13 R372). -/
def Device.poisoned (d : Device) (a n : Nat) : Bool := !(d.poisonIn a n).isEmpty

/-- The address of the line of `[a, a + n)` in which a read fails: the first that is poisoned, else the first (17 R542). -/
def Device.failedLine (d : Device) (a n : Nat) : Nat := 64 * (d.poisonIn a n).min?.getD (a / 64)

/-- Writes bytes at `a`. A line written whole gets fresh check bytes; a poisoned line written in part stays poisoned
(13 R372). -/
def Device.store (d : Device) (a : Nat) (bs : List Byte) : Device :=
  { d with
    mem := Sparse.putAll memDflt d.mem a bs,
    poison := d.poison.filter fun l => !(decide (a ≤ 64 * l) && decide (64 * l + 64 ≤ a + bs.length)) }

/-- Renews the lines that `[a, a + n)` touches: they are written back whole with fresh check bytes. -/
def Device.renew (d : Device) (a n : Nat) : Device :=
  { d with poison := d.poison.filter fun l => !(decide (a < 64 * l + 64) && decide (64 * l < a + n)) }

/-- Marks the line that holds `a` poisoned. -/
def Device.poisonLine (d : Device) (a : Nat) : Device :=
  let l := d.phys a / 64
  if d.poison.contains l then d else { d with poison := l :: d.poison }

/-- The DRM block of channel `ch`. -/
def drmBlk (ch : Nat) : Blk := .drm (Fin.ofNat 24 ch)

/-- A line found uncorrectable is poisoned and counted, the first address captured (13 R372); the fault has been raised. -/
def Device.linePoisoned (d : Device) (ch a : Nat) : Device :=
  let a := a / 64 * 64
  let d := (d.inc (DRM_ECC_CNT.uncorrected ch)).poisonLine a
  if d.flag (DRM_UE_ADDR_HI.valid ch) then d
  else
    ((d.set (DRM_UE_ADDR_LO.ue_lo ch) a).set (DRM_UE_ADDR_HI.ue_hi ch) (a / 2 ^ 32)).put (DRM_UE_ADDR_HI.valid ch) true

/-- The poisoned lines of `[a, a + n)` are delivered with their mark to what reads them: DRM raises, counts and captures each
(13 R372, 17 R479). -/
def Device.delivered (d : Device) (a n : Nat) : Device :=
  (d.poisonIn a n).foldl (fun d l =>
    let x := 64 * l + a - d.phys a
    (d.raiseReal (drmBlk (lineChannel x)) 1 (x % 2 ^ 32)).linePoisoned (lineChannel x) x) d

/-- Removes every stored byte of `[a, a + n)`: each reads as the default again, 0, and its lines are fresh. -/
def Device.zeroRange (d : Device) (a n : Nat) : Device :=
  { d.renew a n with mem := Sparse.keep (fun k => !(decide (a ≤ k) && decide (k < a + n))) d.mem }

/-- `bs` with every byte that lies in a poisoned line as zero, read from address `a` (17 R481). -/
def Device.zeroPoison (d : Device) (a : Nat) (bs : List Byte) : List Byte :=
  if d.poison.isEmpty then bs
  else (List.range bs.length).map fun i => if d.poisoned (a + i) 1 then 0 else bs.getD i 0

/-! ### Long-integration elements (06) -/

/-- A long-integration element (R163). -/
structure Elem where
  re : Int
  im : Int
  fray : Bool
  count : Nat
  deriving DecidableEq, Repr

/-- The 96-bit layout of R163. -/
def Elem.enc (e : Elem) : List Byte :=
  be 12 (low 36 e.re * 2 ^ 60 + low 36 e.im * 2 ^ 24 + (if e.fray then 2 ^ 23 else 0) + e.count % 2 ^ 23)

/-- The element that 12 bytes hold. -/
def Elem.dec (bs : List Byte) : Elem :=
  let x := ofBe bs
  { re := sx 36 (x / 2 ^ 60), im := sx 36 (x / 2 ^ 24), fray := bit x 23, count := x % 2 ^ 23 }

/-- The element that replaces one found uncorrectable (R169). -/
def Elem.lost : Elem := { re := 0, im := 0, fray := true, count := 0 }

/-- The sum of an element and a contribution, saturating at 2^35 - 1 with fray (R167). -/
def Elem.plus (e : Elem) (re im : Int) (fray : Bool) (count : Nat) : Elem :=
  let r := e.re + re
  let i := e.im + im
  let beyond := satSym 36 r != r || satSym 36 i != i
  { re := satSym 36 r, im := satSym 36 i, fray := e.fray || fray || beyond, count := (e.count + count) % 2 ^ 23 }

/-- Every element of the matrix at `base`, wholly or partly in a poisoned line that `[a, a + 12)` touches, becomes
`Elem.lost`, every autocorrelation entry likewise, and the lines are renewed (R169). -/
def Device.replaceLost (d : Device) (base a : Nat) : Device :=
  let lines := d.poison.filter fun l => a < 64 * l + 64 && 64 * l < a + 12
  let fix (d : Device) (l : Nat) : Device :=
    let d := (List.range 7).foldl (fun d j =>
      let off := (64 * l - base) / 12 * 12 + 12 * j
      if 64 * l < base + off + 12 ∧ off < 100663296 ∧ base + off < 64 * l + 64 then d.store (base + off) Elem.lost.enc else d) d
    let d := (List.range 8).foldl (fun d j =>
      if base + 100663296 ≤ 64 * l + 8 * j then d.store (64 * l + 8 * j) (be 8 (2 ^ 23)) else d) d
    d.renew (64 * l) 64
  lines.foldl fix d

/-- The add of R167 itself at address `a` of the matrix at `base`: an element found uncorrectable is replaced first (R169). -/
def Device.addStored (d : Device) (base a : Nat) (re im : Int) (fray : Bool) (count : Nat) : Device :=
  let d := if d.poisoned a 12 then d.replaceLost base a else d
  d.store a ((Elem.dec (d.bytes a 12)).plus re im fray count).enc

/-- The atomic add of R167 at address `a` of the matrix at `base`. It answers whether an uncorrectable line was met. -/
def Device.addElem (d : Device) (base a : Nat) (re im : Int) (fray : Bool) (count : Nat) : Bool × Device :=
  (d.poisoned a 12, (d.delivered a 12).addStored base a re im fray count)

/-- Adds an input's shed sum and count into its autocorrelation entry (R168, R176): 40-bit sum, fray in bit 23. -/
def Device.addAuto (d : Device) (base i sum count : Nat) (fray : Bool) : Bool × Device :=
  let a := base + 100663296 + 8 * i
  let bad := d.poisoned a 8
  let d := if bad then (d.delivered a 8).replaceLost base a else d
  let x := ofBe (d.bytes a 8)
  let n := (x / 2 ^ 24 + sum) % 2 ^ 40
  let c := (x % 2 ^ 23 + count) % 2 ^ 23
  (bad, d.store a (be 8 (n * 2 ^ 24 + (if fray || bit x 23 then 2 ^ 23 else 0) + c)))

/-! ### The windows (R364, 16 R451) -/

/-- Two addresses lie in the same window. -/
def Win.same : Win → Win → Bool
  | .general _, .general _ => true
  | .ledger c _, .ledger c' _ => c == c'
  | .staging _, .staging _ => true
  | .woven _, .woven _ => true
  | .bobbin k _, .bobbin k' _ => k == k'
  | .treadle e _, .treadle e' _ => e == e'
  | .firmware _, .firmware _ => true
  | .shared _, .shared _ => true
  | .rom _, .rom _ => true
  | .flash _, .flash _ => true
  | _, _ => false

/-- A write is accepted by the window. -/
def Win.writable : Win → Bool
  | .general _ => true
  | .staging _ => true
  | .firmware _ => true
  | .shared _ => true
  | _ => false

/-- `[a, a + n)` decodes and does not span the end of a window (15 R431 ADDRESS). -/
def Device.decodes (d : Device) (heddle : Bool) (a n : Nat) : Option Win :=
  match d.window heddle a, d.window heddle (a + n - 1) with
  | some w, some v => if w.same v then some w else none
  | _, _ => none

/-- `u` reads `[a, a + n)` (R381): poisoned lines are delivered with their mark. -/
def Device.readFor (d : Device) (u : MemUser) (a n : Nat) : Device := (d.delivered a n).enters u a n false false

/-- `u` writes `bs` at `a` (R381). -/
def Device.storeFor (d : Device) (u : MemUser) (a : Nat) (bs : List Byte) : Device :=
  (d.store a bs).enters u a bs.length true false

/-- The staging slot's bytes. -/
def Drafts.staging (x : Drafts) : Sparse Byte := if x.woven1 then x.slot0 else x.slot1

/-- The woven slot's bytes. -/
def Drafts.woven (x : Drafts) : Sparse Byte := if x.woven1 then x.slot1 else x.slot0

/-- A bobbin word's 64 bits (06 R154). -/
def BobWord.enc (w : BobWord) : Nat :=
  low 24 w.re * 2 ^ 40 + low 24 w.im * 2 ^ 16 + (if w.fray then 2 ^ 15 else 0) + w.count % 2 ^ 15

/-- The word of 64 bits. -/
def BobWord.dec (x : Nat) : BobWord :=
  { re := sx 24 (x / 2 ^ 40), im := sx 24 (x / 2 ^ 16), fray := bit x 15, count := x % 2 ^ 15 }

/-- A cleared bobbin word (06 R155). -/
def BobWord.zero : BobWord := { re := 0, im := 0, fray := false, count := 0 }

/-- A loom that holds nothing. -/
def Loom.cold : Loom :=
  { bank0 := [], bank1 := [], latch := [], spills := [], lost := [], eccU := 0 }

/-- Physical loom `k`. -/
def Device.loom (d : Device) (k : Nat) : Loom := Sparse.get (fun _ => Loom.cold) d.looms k

/-- Sets physical loom `k`. -/
def Device.setLoom (d : Device) (k : Nat) (l : Loom) : Device :=
  { d with looms := Sparse.put (fun _ => Loom.cold) d.looms k l }

/-- Bank `b` of a loom. -/
def Loom.bank (l : Loom) (b : Bool) : Sparse BobWord := if b then l.bank1 else l.bank0

/-- Sets bank `b`. -/
def Loom.setBank (l : Loom) (b : Bool) (m : Sparse BobWord) : Loom :=
  if b then { l with bank1 := m } else { l with bank0 := m }

/-- Word `w` of bank `b`. -/
def Loom.word (l : Loom) (b : Bool) (w : Nat) : BobWord := Sparse.get (fun _ => BobWord.zero) (l.bank b) w

/-- Sets word `w` of bank `b`. -/
def Loom.setWordOf (l : Loom) (b : Bool) (w : Nat) (v : BobWord) : Loom :=
  l.setBank b (Sparse.put (fun _ => BobWord.zero) (l.bank b) w v)

/-- An engine after a weave or warm restart (09 R240): registers 0, lengths 65,536. -/
def Engine.cold : Engine :=
  { v := [], s := [], acc := [], a := [], b := [], l := [], lPend := [], pc := 0, prog := [], data := [], badData := [],
    ap := [], det := [], event := false, pick := 0, busy := none, slow := none,
    trigged := false, startAt := none, fifoFrom := none,
    handed := none, cfg := none }

/-- Engine `e`. -/
def Device.engine (d : Device) (e : Nat) : Engine := Sparse.get (fun _ => Engine.cold) d.engines e

/-- Sets engine `e`. -/
def Device.setEngine (d : Device) (e : Nat) (x : Engine) : Device :=
  { d with engines := Sparse.put (fun _ => Engine.cold) d.engines e x }

/-- A data-memory word of an engine. -/
def Engine.datum (x : Engine) (a : Nat) : W32 := Sparse.get (fun _ => (0 : W32)) x.data a

/-- Word `a` of data memory as a read returns it: 0 when it is lost (09 R257). -/
def Engine.load (x : Engine) (a : Nat) : Nat := if x.badData.contains a then 0 else (x.datum a).toNat

/-- The 64 bytes of a ledger event entry (10 R287); a copy whose write failed does not match its CRC. -/
def LedEvent.enc (e : LedEvent) : List Byte :=
  let body := be 2 e.ty ++ be 2 0 ++ be 8 e.seq ++ be 8 (e.pick / 2 ^ 48 * 2 ^ 48 + e.pick % 2 ^ 48) ++
    (e.body ++ List.replicate (40 - e.body.length) 0).take 40
  body ++ be 4 (if e.ok then crc32c body else crc32c body ^^^ 1)

/-- The entry at index `i` of a ring: entry number `seq` lies at index seq mod 4,194,304 (log 9). -/
def ringEntry (es : List LedEvent) (i : Nat) : Option LedEvent := es.find? fun e => e.seq % 4194304 == i

/-- The table entry that the byte at `off` of a copy lies in, and its place in the entry. -/
def tableAt (off : Nat) : Option (Nat × Nat) :=
  ledgerAreas.zipIdx.findSome? fun e =>
    let (b, n, c) := e.1
    if b ≤ off ∧ off < b + n * c then some (65536 * e.2 + (off - b) / n, (off - b) % n) else none

/-- A copy's table entry `key`. -/
def Journal.entry (j : Journal) (copy key : Nat) : LedEntry :=
  Sparse.get (fun _ => LedEntry.cold) (if copy = 0 then j.tab0 else j.tab1) key

/-- A byte of a ledger copy: the event ring from 4 KiB on, and the tables, whose entries have no byte layout but for the
header's magic (log 9). What was never written reads 0. -/
def Device.ledgerWindow (d : Device) (copy off : Nat) : Byte :=
  if 4096 ≤ off ∧ off < 4096 + 2 ^ 28 then
    match ringEntry (if copy = 0 then d.jrn.copy0 else d.jrn.copy1) ((off - 4096) / 64) with
    | none => 0
    | some e => e.enc.getD ((off - 4096) % 64) 0
  else match tableAt off with
    | none => 0
    | some (key, i) =>
      let e := d.jrn.entry copy key
      if e.seq = 0 then 0
      else if key = 0 ∧ i < 2 then (be 2 0x4C47).getD i 0
      else Config.tableByte key e.val e.seq e.ok i

/-- The line that the bytes at `off` of a ledger copy lie in is lost. -/
def Device.ledgerHurt (d : Device) (copy off n : Nat) : Bool := d.poisoned (0x040000000000 + 0x20000000 * copy + off) n

/-- The event `e` is valid in a copy (10 R289). -/
def Device.eventOk (d : Device) (copy : Nat) (e : LedEvent) : Bool :=
  e.ok && !d.ledgerHurt copy (4096 + 64 * (e.seq % 4194304)) 64

/-- The table entry `key` is valid in a copy. -/
def Device.entryOk (d : Device) (copy key : Nat) : Bool :=
  (d.jrn.entry copy key).ok && !d.ledgerHurt copy (tablePlace key).1 (tablePlace key).2

/-- The byte that a window shows at the moment of the read (R364). -/
def Device.winByte (d : Device) : Win → Byte
  | .general a => d.byte a
  | .ledger c off => d.ledgerWindow c off
  | .staging off => Sparse.get memDflt d.drafts.staging off
  | .woven off => Sparse.get memDflt d.drafts.woven off
  | .bobbin k off => (be 8 ((d.loom k).word (off / 2 ^ 20 == 1) (off % 2 ^ 20 / 8)).enc).getD (off % 8) 0
  | .treadle e off =>
    if off < 0x20000 then (be 8 (Sparse.get (fun _ => (0 : BitVec 64)) (d.engine e).prog (off / 8)).toNat).getD (off % 8) 0
    else (be 4 ((d.engine e).load ((off - 0x20000) / 4))).getD (off % 4) 0
  | .firmware a => d.byte a
  | .shared a => d.byte a
  | .rom off => Config.bootRom off
  | .flash off => d.flashByte off

/-- `n` bytes of a window from `a`, poisoned lines as zeros (15 R435). -/
def Device.winBytes (d : Device) (heddle : Bool) (a n : Nat) : List Byte :=
  (List.range n).map fun i =>
    if d.poisoned (a + i) 1 then 0 else match d.window heddle (a + i) with
      | none => 0
      | some w => d.winByte w

/-! ### Draft slot writes (12 R326 to R328) -/

/-- Adds the range `[a, b)` to a rising list of ranges, joining what touches. -/
def addRange : List (Nat × Nat) → Nat → Nat → List (Nat × Nat)
  | [], a, b => [(a, b)]
  | (x, y) :: rs, a, b =>
    if b < x then (a, b) :: (x, y) :: rs
    else if y < a then (x, y) :: addRange rs a b
    else addRange rs (min x a) (max y b)

/-- Some range covers `[a, b)`. -/
def covers (rs : List (Nat × Nat)) (a b : Nat) : Bool := decide (b ≤ a) || rs.any fun r => decide (r.1 ≤ a) && decide (b ≤ r.2)

/-- Writes bytes into the staging slot. -/
def Drafts.putStaging (x : Drafts) (off : Nat) (bs : List Byte) : Drafts :=
  let x := { x with written := addRange x.written off (off + bs.length) }
  if x.woven1 then { x with slot0 := Sparse.putAll memDflt x.slot0 off bs }
  else { x with slot1 := Sparse.putAll memDflt x.slot1 off bs }

/-- The staging slot's state code. -/
def Device.stage (d : Device) : Nat := d.get PCK_WEAVE_STAT.stage

/-- A bulk write into the staging slot: refused while CHECKING or ARMED (R328), else the slot is LOADING. Lines written whole
get fresh check bytes. -/
def Device.writeStaging (d : Device) (off : Nat) (bs : List Byte) : Option Device :=
  if d.stage = 2 ∨ d.stage = 5 then none
  else
    let a := d.phys (0x040040000000 + off)
    let d := { d with
      drafts := d.drafts.putStaging off bs
      poison := d.poison.filter fun l => !(decide (a ≤ 64 * l) && decide (64 * l + 64 ≤ a + bs.length)) }
    let d := d.set PCK_WEAVE_STAT.stage 1
    some (d.setPair PCK_STAGE_ID_LO.id_lo PCK_STAGE_ID_HI.id_hi 0)

/-! ### Banks in use (07 R204, 12 R351) -/

/-- The size of a harness pattern bank (07 R191). -/
def bankSize : Nat := 16781312

/-- The base of bank A or B from the woven draft. -/
def Device.bankBase (d : Device) (b : Bool) : Nat :=
  if b then d.pair HST_BASE_B_LO.base_lo HST_BASE_B_HI.base_hi else d.pair HST_BASE_A_LO.base_lo HST_BASE_A_HI.base_hi

/-- A bank is in use (R204): the active one, and one that a pending, scheduled, running or latched request names. -/
def Device.bankInUse (d : Device) (b : Bool) : Bool :=
  d.woven && ((d.get HST_STATE.active == 1) == b ||
    (match d.setter.pend with | some r => r.target == b | none => false) ||
    (match d.setter.sw with | some w => w.target == b | none => false) ||
    (match d.setter.latched with | some r => r.target == b | none => false))

/-- Two ranges meet. -/
def meets (a n b m : Nat) : Bool := decide (0 < n) && decide (0 < m) && decide (a < b + m) && decide (b < a + n)

/-- The new draft's bank A while a weave is armed: 6 bytes at 46 of its MEMORY section. -/
def Device.armedBankA (d : Device) : Option Nat :=
  match d.drafts.armed with
  | none => none
  | some x =>
    if x.unweave then none
    else
      let s := d.drafts.staging
      let rd (a n : Nat) : Nat := ofBe (Sparse.getAll memDflt s a n)
      let n := rd 16 2
      match (List.range n).find? (fun k => rd (64 + 16 * k) 2 == 5) with
      | none => none
      | some k => some (rd (rd (64 + 16 * k + 4) 4 + 46) 6)

/-- A matrix write to `[a, a + n)` meets a bank in use or the bank being prepared. -/
def Device.bankGuard (d : Device) (a n : Nat) : Bool :=
  (d.bankInUse false && meets a n (d.bankBase false) bankSize) ||
  (d.bankInUse true && meets a n (d.bankBase true) bankSize) ||
  (match d.armedBankA with | some b => meets a n b bankSize | none => false)

/-- What became of a write through the windows, in the statuses of 15 R431. -/
inductive WrStat where
  | ok | address | readOnly | refused
  deriving DecidableEq, Repr

/-- The default target's capture and count (16 R453). -/
def Device.defaultHit (d : Device) (m addr : Nat) (write reg : Bool) : Device :=
  let d := if d.flag MTX_DEFAULT_HI.valid then d
    else
      d.setPair MTX_DEFAULT_LO.word MTX_DEFAULT_HI.word
        (addr % 2 ^ 48 + 2 ^ 48 * (m + (if write then 8 else 0) + (if reg then 16 else 0) + 32))
  d.inc MTX_CNT.default_hits

/-- A memory request whose address no window holds reaches the default target; one that runs past the end of the window it
names is refused there (R451, 15 R431). -/
def Device.missed (d : Device) (m : Nat) (heddle : Bool) (a : Nat) (write : Bool) : Device :=
  if (d.window heddle a).isNone then d.defaultHit m a write false else d

/-- A memory write by master `m` (R364, R451): through the windows with their access rules. A write that is not performed
changes no memory; a bank in use also sets write_refused and counts (07 R204). -/
def Device.winWrite (d : Device) (m : Nat) (heddle : Bool) (a : Nat) (bs : List Byte) : WrStat × Device :=
  match d.decodes heddle a bs.length with
  | none => (.address, d.missed m heddle a true)
  | some w =>
    if !w.writable then (.readOnly, d)
    else match w with
      | .staging off =>
        match d.writeStaging off bs with
        | none => (.refused, d)
        | some d' => (.ok, d'.enters (.matrix (Fin.ofNat 5 m)) a bs.length true false)
      | _ =>
        if d.bankGuard a bs.length then
          (.refused, (d.put HST_EVENT.write_refused true).inc HST_CNT_REFUSED.count)
        else (.ok, d.storeFor (.matrix (Fin.ofNat 5 m)) a bs)

/-- The bursts that move `n` bytes at `a`: up to 16 beats of 32 bytes, none of them across 4 KiB (R454). A beat is 32 bytes of its
own alignment, so a burst ends at a multiple of 512. -/
def bursts (a n : Nat) : Nat := if n = 0 then 0 else (a + n - 1) / 512 - a / 512 + 1

end Sys2Proof.Machine
end

