-- ==== Sys2Proof/Machine/DraftRead.lean ====
section
/-! DEFINITION. Reading a draft where it lies: numbers, sections and the fields that blocks look up while a draft is
woven (12 R329 to R344). -/

namespace Sys2Proof.Machine

/-- `n` bytes at `off` of a slot, most significant first, as a number. -/
def rdN (m : Sparse Byte) (off n : Nat) : Nat := ofBe (Sparse.getAll memDflt m off n)

/-- A directory entry: type, offset, length, scrc, and where the entry lies (R330). -/
structure DirEntry where
  ty : Nat
  off : Nat
  len : Nat
  crc : Nat
  gap : Nat
  at_ : Nat
  deriving DecidableEq, Repr

/-- Entry `k` of the section directory. -/
def dirEntry (m : Sparse Byte) (k : Nat) : DirEntry :=
  let a := 64 + 16 * k
  { ty := rdN m a 2, off := rdN m (a + 4) 4, len := rdN m (a + 8) 4, crc := rdN m (a + 12) 4, gap := rdN m (a + 2) 2,
    at_ := a }

/-- The directory, at most 16 entries. -/
def directory (m : Sparse Byte) : List DirEntry := (List.range (min (rdN m 16 2) 16)).map (dirEntry m)

/-- The section of type `ty`, unless it is absent or of length 0 (R332). -/
def section_ (m : Sparse Byte) (ty : Nat) : Option DirEntry := (directory m).find? fun e => e.ty == ty && e.len != 0

/-- `n` bytes at `off` of the section of type `ty`; 0 when it is absent. -/
def secN (m : Sparse Byte) (ty off n : Nat) : Nat :=
  match section_ m ty with
  | none => 0
  | some e => rdN m (e.off + off) n

/-- `n` bytes at `off` of a section, zeros when it is absent or ends before them. -/
def secBytes (m : Sparse Byte) (ty off n : Nat) : List Byte :=
  match section_ m ty with
  | none => List.replicate n 0
  | some e => (List.range n).map fun i => if off + i < e.len then Sparse.get memDflt m (e.off + off + i) else 0

/-- The queue that a queue reference names, if it is valid (R332). -/
def queueRef (r : Nat) : Option Nat := if bit r 15 then some (r % 8192) else none

/-! ### Fields of a slot's draft -/

/-- The number of channel-table entries (R337). -/
def nEnt (m : Sparse Byte) : Nat := secN m 4 0 2

/-- The channel number of entry `e`. -/
def entChannel (m : Sparse Byte) (e : Nat) : Nat := secN m 4 (8 + 32 * e) 2

/-- ν_c of entry `e`. -/
def entNu (m : Sparse Byte) (e : Nat) : Nat := secN m 4 (8 + 32 * e + 2) 5

/-- N of entry `e`. -/
def entN (m : Sparse Byte) (e : Nat) : Nat := secN m 4 (8 + 32 * e + 8) 2

/-- The address of matrix buffer `b` of entry `e`. -/
def entBuf (m : Sparse Byte) (e b : Nat) : Nat := secN m 4 (8 + 32 * e + 10 + 6 * b) 6

/-- A field of MEMORY (R339). -/
def memF (m : Sparse Byte) (off n : Nat) : Nat := secN m 5 off n

/-- The queue reference of the records of pass `k`; 512 is the autocorrelations (R343). -/
def recordRef (m : Sparse Byte) (k : Nat) : Nat := secN m 9 (65672 + 2 * k) 2

/-- The queue reference of the capture readout (R343). -/
def captureRef (m : Sparse Byte) : Nat := secN m 9 2 2

/-- The queue reference of voltage beam `b` (R340). -/
def beamRef (m : Sparse Byte) (b : Nat) : Nat := secN m 6 (16781312 + 2 * b) 2

/-- The queue reference of chain `z` or detector `z - 128` (R341). -/
def unitRef (m : Sparse Byte) (z : Nat) : Nat :=
  if z < 128 then secN m 7 (16 * z + 6) 2 else secN m 7 (2048 + 16 * (z - 128) + 6) 2

/-- The position in the declared order: the pass number at place `n` (R335). -/
def declaredPass (m : Sparse Byte) (n : Nat) : Nat := secN m 2 (2112 + 2 * n) 2

/-! ### The woven draft -/

/-- The woven slot's bytes; empty when no draft is woven. -/
def Device.draft (d : Device) : Sparse Byte := if d.woven then d.drafts.woven else []

/-- The channel-table entry of the shed that begins at pick `x` (R338): W is the PN of the last weave. -/
def Device.entOf (d : Device) (x : Nat) : Nat :=
  let w := d.pair PCK_WEAVE_PN_LO.word PCK_WEAVE_PN_HI.word
  let n := nEnt d.draft
  (x % 2 ^ 48 + 2 ^ 48 - w % 2 ^ 48) % 2 ^ 48 / d.shedLen % (if n = 0 then 1 else n)

/-- The channel of pick `x` by the schedule (R338); 0 when no draft is woven. -/
def Device.channelOf (d : Device) (x : Nat) : Nat := entChannel d.draft (d.entOf x)

end Sys2Proof.Machine
end

