-- ==== Sys2Proof/Machine/Frames.lean ====
section
/-! DEFINITION. Ethernet, IPv4 and UDP frames, built and parsed: the cloth ports (11 R295, R297) and the heddle ports
(15 R412, R413) use them. A frame runs from its destination MAC to its last byte before the frame check sequence. -/

namespace Sys2Proof.Machine

/-- The sum of the 16-bit words of `bs`, most significant byte first, the last padded with 0. -/
def sum16 : List Byte → Nat
  | [] => 0
  | [a] => 256 * a.toNat
  | a :: b :: bs => 256 * a.toNat + b.toNat + sum16 bs

/-- The ones' complement sum folded to 16 bits. -/
def fold16 (x : Nat) : Nat :=
  let y := x % 65536 + x / 65536
  let z := y % 65536 + y / 65536
  z % 65536 + z / 65536

/-- The checksum field that makes the folded sum all ones. -/
def cksum16 (x : Nat) : Nat := 65535 - fold16 x

/-- What a UDP frame carries, beside its payload. `tag` is the 802.1Q tag word. -/
structure UdpHead where
  dmac : Nat
  smac : Nat
  tag : Option Nat
  dscp : Nat
  ttl : Nat
  sip : Nat
  dip : Nat
  sport : Nat
  dport : Nat
  deriving DecidableEq, Repr

/-- The IPv4 header of R295: no options, identification 0, DF, checksum computed. -/
def ipHeader (h : UdpHead) (total : Nat) : List Byte :=
  let a := be 1 0x45 ++ be 1 (h.dscp * 4) ++ be 2 total ++ be 2 0 ++ be 2 0x4000 ++ be 1 h.ttl ++ be 1 17
  let b := be 4 h.sip ++ be 4 h.dip
  a ++ be 2 (cksum16 (sum16 (a ++ b))) ++ b

/-- The sum that a UDP checksum covers: addresses, protocol and length, then the datagram. -/
def udpSum (sip dip len : Nat) (datagram : List Byte) : Nat :=
  sum16 (be 4 sip ++ be 4 dip) + 17 + len + sum16 datagram

/-- The UDP datagram: the checksum is always generated, and a computed 0 is sent as 0xFFFF (R295). -/
def udpDatagram (h : UdpHead) (payload : List Byte) : List Byte :=
  let len := 8 + payload.length
  let a := be 2 h.sport ++ be 2 h.dport ++ be 2 len
  let c := cksum16 (udpSum h.sip h.dip len (a ++ be 2 0 ++ payload))
  a ++ be 2 (if c = 0 then 0xFFFF else c) ++ payload

/-- The whole frame before its check sequence. -/
def udpFrame (h : UdpHead) (payload : List Byte) : List Byte :=
  be 6 h.dmac ++ be 6 h.smac ++ (match h.tag with | none => [] | some t => be 2 0x8100 ++ be 2 t) ++ be 2 0x0800 ++
    ipHeader h (28 + payload.length) ++ udpDatagram h payload

/-- The frame with its check sequence, least significant byte first. -/
def withFcs (frame : List Byte) : List Byte := frame ++ le 4 (crcEther frame)

/-- A received UDP frame that is whole and well formed: EtherType 0x0800 directly or after one tag, IHL 5, a valid header
checksum, MF 0 and fragment offset 0, protocol 17, a valid or absent UDP checksum (R297, R412). -/
def parseUdp (f : List Byte) : Option (UdpHead × List Byte) :=
  let tagged := beAt f 12 2 = 0x8100
  let e := if tagged then 16 else 12
  let ip := f.drop (e + 2)
  let total := beAt ip 2 2
  let udp := (ip.drop 20).take (total - 20)
  let ulen := beAt udp 4 2
  let h : UdpHead :=
    { dmac := beAt f 0 6, smac := beAt f 6 6, tag := if tagged then some (beAt f 14 2) else none,
      dscp := beAt ip 1 1 / 4, ttl := beAt ip 8 1, sip := beAt ip 12 4, dip := beAt ip 16 4, sport := beAt udp 0 2,
      dport := beAt udp 2 2 }
  if beAt f e 2 = 0x0800 ∧ beAt ip 0 1 = 0x45 ∧ 28 ≤ total ∧ total ≤ ip.length ∧ fold16 (sum16 (ip.take 20)) = 65535 ∧
      beAt ip 6 2 % 0x4000 = 0 ∧ beAt ip 9 1 = 17 ∧ 8 ≤ ulen ∧ ulen ≤ udp.length ∧
      (beAt udp 6 2 = 0 ∨ fold16 (udpSum h.sip h.dip ulen (udp.take ulen)) = 65535) then
    some (h, (udp.take ulen).drop 8)
  else none

end Sys2Proof.Machine
end

