-- ==== Sys2Proof/Machine/JournalOps.lean ====
section
/-! DEFINITION. The journal ring (10 R259 to R263, R547): segments, directory entries and slots; and captures (R264 to
R274): the window, freezing and trimming, merging and release. -/

namespace Sys2Proof.Machine

/-- A segment that has never been filled. -/
def Seg.cold : Seg := { span := none, opened := 0, openPick := 0, lastPick := 0 }

/-- Segment `g`. -/
def Journal.seg (j : Journal) (g : Nat) : Seg := Sparse.get (fun _ => Seg.cold) j.segs g

/-- Sets segment `g`. -/
def Journal.setSeg (j : Journal) (g : Nat) (x : Seg) : Journal :=
  { j with segs := Sparse.put (fun _ => Seg.cold) j.segs g x }

/-- A free capture slot. -/
def Capture.cold : Capture :=
  { first := 0, last := 0, trig := 0, sources := 0, merged := 0, cause := 0, segs := [], ports := 0, wantRead := false,
    autoRelease := false, lastByte := none, lastDir := none, nPieces := 0 }

/-- Capture slot `n`. -/
def Device.capture (d : Device) (n : Nat) : Capture := Sparse.get (fun _ => Capture.cold) d.jrn.captures n

/-- Sets capture slot `n`. -/
def Device.setCapture (d : Device) (n : Nat) (c : Capture) : Device :=
  { d with jrn := { d.jrn with captures := Sparse.put (fun _ => Capture.cold) d.jrn.captures n c } }

/-- The state of capture slot `n`: 0 FREE, 1 FILLING, 2 COMPLETE, 3 READING, 4 READ. -/
def Device.capState (d : Device) (n : Nat) : Nat := d.get (JRN_CAP_STAT.state n)

/-- The ring's base, the directory's and the spill log's (10 R259, R260, R275). -/
def Device.jrnBase (d : Device) : Nat := d.pair JRN_BASE_LO.base_lo JRN_BASE_HI.base_hi

/-- The directory's base. -/
def Device.dirBase (d : Device) : Nat := d.pair JRN_DIR_BASE_LO.base_lo JRN_DIR_BASE_HI.base_hi

/-- The spill log's base. -/
def Device.slogBase (d : Device) : Nat := d.pair JRN_SLOG_BASE_LO.base_lo JRN_SLOG_BASE_HI.base_hi

/-- The span of the 1,024 picks that hold pick `x` (R260). -/
def spanOf (x : Nat) : Nat := x / 1024

/-- The segments that hold a span, with it, spans rising. -/
def Journal.held (j : Journal) : List (Nat × Nat) :=
  let xs := j.segs.filterMap fun e => e.2.span.map fun s => (s, e.1)
  xs.mergeSort fun a b => decide (a.1 ≤ b.1)

/-- The segments frozen by captures other than slot `n` (16: by any capture). -/
def Device.frozenBy (d : Device) (n : Nat) : List Nat :=
  ((List.range 16).flatMap fun k => if k = n ∨ d.capState k = 0 then [] else (d.capture k).segs).eraseDups

/-- The replay `r` needs the span of segment `g` (R23, R277). -/
def Device.heldBy (d : Device) (r : Replay) (g : Nat) : Bool :=
  match (d.jrn.seg g).span with
  | none => false
  | some s => spanOf r.first ≤ s && s ≤ spanOf (r.shed.start + 2 ^ r.shed.log2 - 1)

/-- Segment `g` is held: a replay that runs or waits needs its span. -/
def Device.heldByReplay (d : Device) (g : Nat) : Bool := d.jrn.replays.any fun r => d.heldBy r g

/-- The segment in use that was opened first (R261), of those that satisfy `p`. -/
def Journal.oldest (j : Journal) (p : Nat → Bool) : Option (Nat × Seg) :=
  (j.segs.filter fun e => e.2.span.isSome && p e.1).foldl (fun (best : Option (Nat × Seg)) (e : Nat × Seg) => match best with
    | none => some e
    | some b => if e.2.opened < b.2.opened then some e else best) none

/-- JRN_SEG_STAT, JRN_OLDEST and the captures' segment counts follow the ring. -/
def Device.jrnStat (d : Device) : Device :=
  let d := d.set JRN_SEG_STAT.frozen (d.frozenBy 16).length
  let d := d.set JRN_SEG_STAT.held (d.jrn.segs.filter fun e => d.heldByReplay e.1).length
  let d := (List.range 16).foldl (fun d n =>
    d.set (JRN_CAP_SEG.segments n) (if d.capState n = 0 then 0 else (d.capture n).segs.length)) d
  match d.jrn.oldest fun _ => true with
  | none => d
  | some x => d.setPair JRN_OLDEST_LO.old_lo JRN_OLDEST_HI.old_hi x.2.openPick

/-- The segment that journals pick `x` (R547): the one that wrote it, else one whose entry of it has valid 0. -/
def Journal.find (j : Journal) (x : Nat) : Option Nat :=
  let of (e : Nat × Seg) : Bool := e.2.span == some (spanOf x) && decide (x ≤ e.2.lastPick)
  match j.segs.find? fun e => of e && decide (e.2.openPick ≤ x) with
  | some e => some e.1
  | none => (j.segs.find? of).map Prod.fst

/-- The address of pick `x`'s slot in segment `g` (R259). -/
def Device.slotAddr (d : Device) (g x : Nat) : Nat := d.jrnBase + g * 2 ^ 30 + 2 ^ 20 * (x % 1024)

/-- The address of pick `x`'s directory entry (R260). -/
def Device.dirAddr (d : Device) (g x : Nat) : Nat := d.dirBase + 589824 * g + 576 * (x % 1024)

/-- A directory entry (R260). `x` is the extended pick number. -/
def dirEntryBytes (valid payload : Bool) (x chan period accepted blank pcrc : Nat) : List Byte :=
  withCrc (be 2 0x4A44 ++ be 1 ((if valid then 1 else 0) + (if payload then 2 else 0)) ++ be 1 0 ++ be 8 x ++ be 2 chan ++
    be 2 period ++ be 8 accepted ++ be 512 blank ++ List.replicate 32 0 ++ be 4 pcrc)

/-- The slot's bytes of a creel slot: every blanked input is stored as zero (R259). -/
def CreelSlot.payload (c : CreelSlot) : Sparse Byte := c.bytes.filter fun e => !bit c.blank (e.1 % 4096)

/-! ### Captures -/

/-- The distinct members of `a` and `b`. -/
def unionSize (a b : List Nat) : Nat := (a ++ b).eraseDups.length

/-- Drops spans from the window's start, never the span `tau` that holds T, until the frozen segments fit `c` (R267). -/
def dropPre (c tau : Nat) (others : List Nat) : List (Nat × Nat) → List (Nat × Nat)
  | [] => []
  | (s, g) :: xs =>
    if s < tau ∧ c < unionSize others (((s, g) :: xs).map Prod.snd) then dropPre c tau others xs else (s, g) :: xs

/-- Keeps the post-window spans that fit, in order: the first that does not fit ends the freeze (R267). -/
def keepPost (c tau : Nat) (others kept : List Nat) : List (Nat × Nat) → List (Nat × Nat)
  | [] => []
  | (s, g) :: xs =>
    if tau < s ∧ c < unionSize others (kept ++ [g]) then [] else (s, g) :: keepPost c tau others (kept ++ [g]) xs

/-- The spans of `want` (rising) that a capture may freeze beside `others` under the limit `c`. -/
def fitSpans (c tau : Nat) (others : List Nat) (want : List (Nat × Nat)) : List (Nat × Nat) :=
  keepPost c tau others [] (dropPre c tau others want)

/-- The pick that the writer takes next: the pick of the current interval, written at the boundary that ends it. -/
def Device.writerAt (d : Device) : Nat := d.pn

/-- Some pick of `[a, b]` was in the journal and has been overwritten (R265). -/
def Device.overwritten (d : Device) (a b : Nat) : Bool := d.jrn.gone.any fun e => decide (e.1 ≤ b) && decide (a ≤ e.2)

/-- The span of a pick that the writer has not reached, as a segment still to be frozen: numbered from 4,096, past every
segment of the ring. -/
def aheadSeg (s : Nat) : Nat × Nat := (s, 4096 + s)

/-- The span of T of slot `n` while no segment holds it (R267). -/
def Device.aheadOf (d : Device) (n : Nat) : List (Nat × Nat) :=
  let s := spanOf (d.capture n).trig
  if d.capState n ≠ 1 ∨ (d.capture n).trig < d.writerAt ∨ d.jrn.unjournalled.contains s ∨ d.jrn.held.any (fun e => e.1 == s)
  then [] else [aheadSeg s]

/-- What captures other than slot `n` hold or have still to freeze for their T: these count against C (R267). -/
def Device.claims (d : Device) (n : Nat) : List Nat :=
  d.frozenBy n ++ ((List.range 16).flatMap fun k => if k = n then [] else (d.aheadOf k).map Prod.snd)

/-- The segments of the ring among spans. -/
def realSegs (xs : List (Nat × Nat)) : List Nat := (xs.map Prod.snd).filter fun g => decide (g < 4096)

/-- A capture becomes COMPLETE once its window's last pick is written (R269): `next` is the pick after the last one
written. -/
def Device.completeCapture (d : Device) (n next : Nat) : Device :=
  if d.capState n = 1 ∧ (d.capture n).last < next then
    (d.set (JRN_CAP_STAT.state n) 2).put JRN_EVENT.complete true
  else d

/-- Freezes in slot `n` what its window asks of the segments now in the journal, trimming by R267; a place is kept for the span
of `t` that the writer has not opened. It answers false when the span of `t` or of the capture's own T cannot be frozen, as that of a
span that got no segment (R262). -/
def Device.freeze (d : Device) (n t : Nat) : Bool × Device :=
  let c := d.capture n
  let lim := d.get JRN_CFG.cap_limit
  let others := d.claims n
  let tau := min (spanOf t) (spanOf c.trig)
  let held := d.jrn.held.filter fun e => spanOf c.first ≤ e.1 && e.1 ≤ spanOf c.last
  let own := (([t, c.trig].filter fun x => decide (d.writerAt ≤ x) && !d.jrn.unjournalled.contains (spanOf x) &&
      !(held.any fun e => e.1 == spanOf x)).map
    fun x => aheadSeg (spanOf x)).eraseDups
  let want := (held ++ own).mergeSort fun a b => decide (a.1 ≤ b.1)
  let got := fitSpans lim tau others want
  let has (x : Nat) : Bool := got.any fun e => e.1 == spanOf x
  if !has t ∨ !has c.trig ∨ lim < unionSize others (got.map Prod.snd) then (false, d)
  else
    let dropped := want.filter fun e => !got.contains e
    let pre := dropped.any fun e => e.1 < tau
    let post := dropped.any fun e => tau < e.1
    let first := if pre then max c.first (1024 * ((got.map Prod.fst).headD (spanOf c.trig))) else c.first
    let last := if post then 1024 * ((got.map Prod.fst).getLastD (spanOf c.trig)) + 1023 else c.last
    let d := d.setCapture n { c with segs := realSegs got, first := first, last := last }
    let d := if pre ∨ post then (d.put (JRN_CAP_STAT.trimmed n) true).put JRN_EVENT.trimmed true else d
    let d := if d.overwritten first last then (d.put (JRN_CAP_STAT.short_pre n) true).put JRN_EVENT.short_pre true else d
    (true, d)

/-- A trigger is refused (R267). -/
def Device.refuseTrigger (d : Device) : Device := (d.put JRN_EVENT.refused true).inc JRN_TRIG_CNT.refused

/-- TRIG_ACK goes high at `t` for 1,600 cycles; overlapping pulses join (R268). -/
def Device.ackPulse (d : Device) (t : Nat) : Device :=
  { d with trigAck := some (max (t + 1600) (d.trigAck.getD 0)) }

/-- The ledger body of a capture: slot and serial, window, sources (R287). -/
def Device.captureBody (d : Device) (n : Nat) : List Byte :=
  let c := d.capture n
  be 2 n ++ be 2 (d.get (JRN_CAP_STAT.serial n)) ++ be 8 c.first ++ be 8 c.last ++ be 1 c.sources

/-- The open capture that a trigger with this window merges into: FILLING or COMPLETE, overlapping or adjoining, the
latest T first (R266). -/
def Device.mergeTarget (d : Device) (first last : Nat) : Option Nat :=
  (List.range 16).foldl (fun best n =>
    let c := d.capture n
    if (d.capState n = 1 ∨ d.capState n = 2) ∧ first ≤ c.last + 1 ∧ c.first ≤ last + 1 then
      match best with
      | none => some n
      | some b => if (d.capture b).trig < c.trig then some n else best
    else best) none

/-- The cause that a capture holds when a trigger of source `src` with cause `w` joins it: the first engine's. -/
def Capture.joinCause (c : Capture) (src w : Nat) : Nat := if c.sources / 4 = 0 ∧ 2 ≤ src then w else c.cause

/-- A trigger joins slot `n`: its source is added, its window united (R266). -/
def Device.joinCapture (d : Device) (n t first last src cause : Nat) (count : Bool) : Bool × Device :=
  let c := d.capture n
  let c' := { c with first := min c.first first, last := max c.last last, sources := c.sources ||| 2 ^ src,
                     merged := if count then satU 8 (c.merged + 1) else c.merged, cause := c.joinCause src cause }
  let r := (d.setCapture n c').freeze n t
  if r.1 then
    let d := r.2
    let d := if d.capState n = 2 ∧ d.writerAt ≤ (d.capture n).last then d.set (JRN_CAP_STAT.state n) 1 else d
    (true, d.jrnStat)
  else (false, d)

/-- A trigger at pick `t` of source `src` (0 TRIG_IN, 1 command, 2 + e engine e), at the instant `now` (R264 to R268). It
answers whether the trigger froze or merged, and the slot. -/
def Device.takeTrigger (d : Device) (t src cause : Nat) : Option Nat × Device :=
  let first := t - d.liveOf JRN_CAP_PRE.picks
  let last := t + d.liveOf JRN_CAP_POST.picks
  match d.mergeTarget first last with
  | some n =>
    match d.joinCapture n t first last src cause true with
    | (true, d) => (some n, (d.put JRN_EVENT.merged true).inc JRN_TRIG_CNT.taken)
    | (false, d) => (none, d.refuseTrigger)
  | none =>
    match (List.range 16).find? fun n => d.capState n == 0 with
    | none => (none, d.refuseTrigger)
    | some n =>
      let c : Capture := { Capture.cold with first := first, last := last, trig := t, sources := 2 ^ src,
                                             cause := if 2 ≤ src then cause else 0 }
      let d0 := d
      let d := d.setCapture n c
      let d := (d.put (JRN_CAP_STAT.trimmed n) false).put (JRN_CAP_STAT.short_pre n) false
      match (d.set (JRN_CAP_STAT.state n) 1).freeze n t with
      | (false, _) => (none, d0.refuseTrigger)
      | (true, d) =>
        let d := (d.set (JRN_CAP_STAT.serial n) d.jrn.serial)
        let d := { d with jrn := { d.jrn with serial := (d.jrn.serial + 1) % 65536 } }
        let d := (d.setPair (JRN_CAP_T_LO.t_lo n) (JRN_CAP_T_HI.t_hi n) t).set (JRN_CAP_PROG.pieces n) 0
        let d := (d.put JRN_EVENT.freeze true).inc JRN_TRIG_CNT.taken
        let d := d.ledger 9 d.pn (d.captureBody n)
        (some n, (d.completeCapture n d.writerAt).jrnStat)

/-- A TRIG_IN edge or an engine's TRIG at `now`: one of each in the same interval form one trigger (R266). -/
def Device.trigger (d : Device) (now src cause : Nat) : Device :=
  let t := d.pn
  let eng := decide (2 ≤ src)
  let one := match d.jrn.lastTrig with
    | some (t', n, i, e) => if t' = t ∧ i = eng ∧ e = !eng then some n else none
    | none => none
  match one with
  | some n =>
    let d := { d with jrn := { d.jrn with lastTrig := some (t, n, true, true) } }
    if n < 16 then
      let c := d.capture n
      d.setCapture n { c with sources := c.sources ||| 2 ^ src, cause := c.joinCause src cause }
    else d
  | none =>
    let (r, d) := d.takeTrigger t src cause
    let d := { d with jrn := { d.jrn with lastTrig := some (t, r.getD 16, !eng, eng) } }
    if r.isSome then d.ackPulse now else d

/-- A slot is released: its segments become writable once nothing else holds them, and a readout in progress ends (R274). -/
def Device.releaseCapture (d : Device) (n : Nat) : Device :=
  if d.capState n = 0 then d
  else
    let d := d.ledger 10 d.pn (d.captureBody n)
    let d := if d.capState n = 3 then d.put JRN_EVENT.read_done true else d
    let d := (d.set (JRN_CAP_STAT.state n) 0).put JRN_EVENT.released true
    (d.setCapture n Capture.cold).jrnStat

/-! ### The writer (R261, R262) -/

/-- The segment that the writer takes: the lowest never filled, else the one with the oldest span that nothing freezes
or holds (R261). -/
def Device.pickSegment (d : Device) : Option Nat :=
  match (List.range (d.get JRN_CFG.n_seg)).find? fun g => (d.jrn.seg g).span == none with
  | some g => some g
  | none =>
    let frozen := d.frozenBy 16
    (d.jrn.oldest fun g => !frozen.contains g && !d.heldByReplay g).map Prod.fst

/-- A capture that still fills freezes the span just opened in segment `g`, or is cut at the span before it (R265, R267). -/
def Device.extendCapture (d : Device) (s g n : Nat) : Device :=
  let c := d.capture n
  if d.capState n = 1 ∧ spanOf c.first ≤ s ∧ s ≤ spanOf c.last then
    let had := (d.jrn.held.filter fun e => c.segs.contains e.2) ++ d.aheadOf n
    let want := (had ++ [(s, g)]).mergeSort fun a b => decide (a.1 ≤ b.1)
    let got := fitSpans (d.get JRN_CFG.cap_limit) (spanOf c.trig) (d.claims n) want
    let d := if got.length < want.length then (d.put (JRN_CAP_STAT.trimmed n) true).put JRN_EVENT.trimmed true else d
    if got.any fun e => e.2 == g then
      let first := if got.length < want.length then max c.first (1024 * ((got.map Prod.fst).headD 0)) else c.first
      d.setCapture n { c with segs := realSegs got, first := first }
    else
      let d := d.setCapture n { c with segs := realSegs got, last := 1024 * s - 1 }
      d.completeCapture n (1024 * s)
  else d

/-- The span of pick `x` is not journalled: no segment holds it (R262). -/
def Device.noSegment (d : Device) (x : Nat) : Device :=
  let d := d.put JRN_EVENT.no_segment true
  { d with jrn := { d.jrn with cur := none, unjournalled := (spanOf x :: d.jrn.unjournalled).eraseDups } }

/-- Opens a segment for pick `x`: entries of earlier picks of its span have valid 0 (R261). With none to open, the span
is not journalled and JRN source 2 is raised (R262). -/
def Device.openSegment (d : Device) (x : Nat) : Device :=
  let g := d.pickSegment
  let (none?, d) := d.check .jrn 2 g.isNone 0
  match (if none? then none else g) with
  | none => d.noSegment x
  | some g =>
    let old := d.jrn.seg g
    let gone := if old.span.isSome then (old.openPick, old.lastPick) :: d.jrn.gone else d.jrn.gone
    let j := d.jrn.setSeg g { span := some (spanOf x), opened := d.jrn.opens, openPick := x, lastPick := x }
    let d := { d with jrn := { j with
      cur := some g, opens := j.opens + 1, unjournalled := j.unjournalled.filter fun s => s != spanOf x,
      gone := gone.filter fun e => spanOf e.1 != spanOf x || decide (e.1 < x) } }
    let d := d.set JRN_WSEG.segment g
    let d := (List.range (x % 1024)).foldl (fun d i =>
      let y := 1024 * spanOf x + i
      d.storeFor .journal (d.dirAddr g y) (dirEntryBytes false false y 0 0 0 0 0)) d
    (List.range 16).foldl (fun d n => d.extendCapture (spanOf x) g n) d

/-- Bytes written for pick `x` are on their way: they are readable from the start of interval x + 3 (R261). -/
def Device.land (d : Device) (x a : Nat) (bs : List Byte) : Device :=
  { d with jrn := { d.jrn with landing := d.jrn.landing ++ [(x, a, bs)] } }

/-- What was written for picks that satisfy `p` becomes readable. -/
def Device.landed (d : Device) (p : Nat → Bool) : Device :=
  let now := d.jrn.landing.filter fun e => p e.1
  now.foldl (fun d e => d.storeFor .journal e.2.1 e.2.2) { d with jrn := { d.jrn with landing := d.jrn.landing.filter fun e => !p e.1 } }

/-- The slot and directory entry of some pick of `[a, b]` are not yet readable. -/
def Device.onItsWay (d : Device) (a b : Nat) : Bool := d.jrn.landing.any fun e => decide (a ≤ e.1) && decide (e.1 ≤ b)

/-- The journal write of pick `x`, of channel `chan` and period `period`, held in the creel slot `c` (R259 to R262). -/
def Device.journalWrite (d : Device) (x chan period : Nat) (c : CreelSlot) : Device :=
  if !d.woven then d
  else
    let fresh := d.jrn.reopen ∨ x % 1024 = 0
    let d := { d with jrn := { d.jrn with reopen := false } }
    let d := if fresh then d.openSegment x else d
    let d := match d.jrn.cur with
      | none => d.inc JRN_UNJOURNALLED.count
      | some g =>
        let d := { d with jrn := d.jrn.setSeg g { d.jrn.seg g with lastPick := x } }
        let bytes := c.payload
        let d := if c.accepted = 0 then d
          else d.land x (d.slotAddr g x) (Sparse.getAll memDflt bytes 0 1048576)
        let pcrc := if c.accepted = 0 then 0 else crc32c (Sparse.getAll memDflt bytes 0 1048576)
        d.land x (d.dirAddr g x) (dirEntryBytes true (c.accepted != 0) x chan period c.accepted c.blank pcrc)
    ((List.range 16).foldl (fun d n => d.completeCapture n (x + 1)) d).jrnStat

/-- The journal starts anew: a new ring, or none (12 R349). -/
def Device.clearJournal (d : Device) : Device :=
  { d with jrn := { d.jrn with segs := [], cur := none, unjournalled := [], gone := [], reopen := true } }

end Sys2Proof.Machine
end

