-- ==== Sys2Proof/Machine/Spool.lean ====
section
/-! DEFINITION. Spool queues and cloth ports: item admission and bolts (11 R298 to R305), receipts (R306 to R308), timers
(R310, R312), scheduling (R314, R315), port failure and re-homing (R318 to R320), the weave's effect on queues (R321). -/

namespace Sys2Proof.Machine

/-- The line's time for a frame of `n` bytes, frame check sequence included, in loom cycles at 100 Gb/s: with it go 20
bytes of preamble and gap (log 16). -/
def wireTime (n : Nat) : Nat := ((n + 20) * 16 + 124) / 125

/-- A queue at the cold start (R313). -/
def Queue.cold : Queue :=
  { next := 0, base := 0, wr := 0, free := 0, openAt := 0, openSince := none, openFirst := none, openItems := 0,
    starts := [], lostNow := 0, lost := 0, retxCount := 0, bolts := [], retx := [], moved := false, timeout := 0, expiries := 0,
    timer := none, stalled := false, port := none, lastPort := 0, lastSend := 0, tokens := 0, tokensAt := 0,
    hbDue := false }

/-- Queue `q`. -/
def Device.queue (d : Device) (q : Nat) : Queue := Sparse.get (fun _ => Queue.cold) d.queues q

/-- Sets queue `q`. -/
def Device.setQueue (d : Device) (q : Nat) (x : Queue) : Device :=
  { d with queues := Sparse.put (fun _ => Queue.cold) d.queues q x }

/-- A cloth port that has sent nothing. -/
def Cloth.cold : Cloth :=
  { lastFrame := [], cause := 0, failedOnce := false, before := 0, provingFrom := none, turns := [], retxLog := [] }

/-- Cloth port `c`. -/
def Device.clothPort (d : Device) (c : Nat) : Cloth := Sparse.get (fun _ => Cloth.cold) d.cloth c

/-- Sets cloth port `c`. -/
def Device.setCloth (d : Device) (c : Nat) (x : Cloth) : Device :=
  { d with cloth := Sparse.put (fun _ => Cloth.cold) d.cloth c x }

/-! ### Configuration of a queue (R314, R317, R325) -/

/-- Queue `q` is in use. -/
def Device.qOn (d : Device) (q : Nat) : Bool := d.flag (SPL_QCFG_A.enabled q)

/-- The window exponent. -/
def Device.qW (d : Device) (q : Nat) : Nat := d.get (SPL_QCFG_A.w q)

/-- The rate class. -/
def Device.qClass (d : Device) (q : Nat) : Nat := d.get (SPL_QCFG_A.class_ q)

/-- Word `k` of the queue's destination entry (R317). -/
def Device.qDest (d : Device) (q k : Nat) : Nat := d.get (SPL_DEST.word (8 * d.get (SPL_QCFG_A.dest q) + k))

/-- The destination's largest frame, FCS included (R296, R317). -/
def Device.maxFrame (d : Device) (q : Nat) : Nat :=
  let m := bits (d.qDest q 3) 0 16
  if m = 0 then 9216 else m

/-- The destination is tagged. -/
def Device.qTagged (d : Device) (q : Nat) : Bool := bit (d.qDest q 3) 31

/-- Home and backup port. -/
def Device.qHome (d : Device) (q : Nat) : Nat := bits (d.qDest q 4) 24 5

/-- The backup port. -/
def Device.qBackup (d : Device) (q : Nat) : Nat := bits (d.qDest q 4) 16 5

/-- The destination's IPv4 address: bytes 6 to 9. -/
def Device.qIp (d : Device) (q : Nat) : Nat := bits (d.qDest q 1) 0 16 * 65536 + bits (d.qDest q 2) 16 16

/-- rto in loom cycles: units of 10 µs, 0 meaning 10 ms. -/
def Device.qRto (d : Device) (q : Nat) : Nat :=
  let r := bits (d.qDest q 5) 16 16
  if r = 0 then 16000000 else 16000 * r

/-- retry_limit, 0 meaning 16. -/
def Device.qRetry (d : Device) (q : Nat) : Nat :=
  let r := bits (d.qDest q 5) 8 8
  if r = 0 then 16 else r

/-- The data capacity of a bolt (R300). -/
def Device.capacity (d : Device) (q : Nat) : Nat := d.maxFrame q - 78 - (if d.qTagged q then 4 else 0)

/-- The queue's ring in bytes; a disabled queue has none. -/
def Device.ringSize (d : Device) (q : Nat) : Nat :=
  if d.qOn q then d.get (SPL_QCFG_B.ring_mib q) * 2 ^ 20 else 0

/-- Where the queue's ring starts (R299). -/
def Device.ringStart (d : Device) (q : Nat) : Nat :=
  (List.range q).foldl (fun a i => a + d.ringSize i) (d.pair SPL_RING_BASE_LO.base_lo SPL_RING_BASE_HI.base_hi)

/-- The pieces of attached memory that `n` stream bytes from `x` occupy: address and length, the wrap split (R299). -/
def ringSpans (start size x n : Nat) : List (Nat × Nat) :=
  let o := x % size
  if o + n ≤ size then [(start + o, n)] else [(start + o, size - o), (start, n - (size - o))]

/-- Writes stream bytes into the ring. -/
def Device.ringWrite (d : Device) (q x : Nat) (bs : List Byte) : Device :=
  ((ringSpans (d.ringStart q) (d.ringSize q) x bs.length).foldl (fun p sp =>
    (p.1.storeFor .ring sp.1 (p.2.take sp.2), p.2.drop sp.2)) (d, bs)).1

/-- Reads stream bytes from the ring, poisoned bytes as zero. -/
def Device.ringRead (d : Device) (q x n : Nat) : List Byte :=
  (ringSpans (d.ringStart q) (d.ringSize q) x n).flatMap fun sp => d.zeroPoison sp.1 (d.bytes sp.1 sp.2)

/-- The stream bytes are read: the poisoned lines that they lie in are delivered (13 R372). -/
def Device.ringDelivered (d : Device) (q x n : Nat) : Device :=
  (ringSpans (d.ringStart q) (d.ringSize q) x n).foldl (fun d sp => d.readFor .ring sp.1 sp.2) d

/-- The first poisoned line that the stream bytes lie in. -/
def Device.ringPoison (d : Device) (q x n : Nat) : Option Nat :=
  (ringSpans (d.ringStart q) (d.ringSize q) x n).findSome? fun sp =>
    (List.range ((sp.1 + sp.2 - 1) / 64 + 1 - sp.1 / 64)).findSome? fun i =>
      let l := sp.1 / 64 + i
      if d.poison.contains l then some (64 * l) else none

/-! ### Items and bolts -/

/-- `a` is before `b` among sequence numbers (R302). -/
def seqBefore (a b : Nat) : Bool :=
  let n := (b + 2 ^ 48 - a) % 2 ^ 48
  decide (1 ≤ n) && decide (n < 2 ^ 47)

/-- Closes the open bolt, which takes the next number (R300, R301). -/
def Queue.close (x : Queue) : Queue :=
  if x.wr = x.openAt then x
  else
    { x with
      bolts := x.bolts ++ [{ seq := x.next, start := x.openAt, len := x.wr - x.openAt, first := x.openFirst.getD 0xFFFF,
                             items := x.openItems, lost := satU 16 x.lostNow, sent := none, tag := 0 }],
      next := (x.next + 1) % 2 ^ 48, openAt := x.wr, openSince := none, openFirst := none, openItems := 0, lostNow := 0 }

/-- `n` bytes enter the queue; `begins` says that they begin an item. Bolts close at capacity (R300). -/
def Queue.pack (cap now : Nat) : Nat → Queue → Nat → Bool → Queue
  | 0, x, _, _ => x
  | fuel + 1, x, n, begins =>
    if n = 0 then x
    else
      let k := min n (cap - (x.wr - x.openAt))
      let x := if begins then
          { x with openFirst := some (x.openFirst.getD (x.wr - x.openAt)), openItems := x.openItems + 1,
                   starts := x.starts ++ [x.wr] }
        else x
      let x := { x with openSince := some (x.openSince.getD now), wr := x.wr + k }
      let x := if cap ≤ x.wr - x.openAt then x.close else x
      Queue.pack cap now fuel x (n - k) false

/-- An item reaches the queue that `ref` names (R298, R299): it is admitted whole with its room reserved, or discarded
whole and counted. A reference without its valid bit queues nothing. -/
def Device.offer (d : Device) (ref : Nat) (item : List Byte) : Device :=
  match queueRef ref with
  | none => d
  | some q =>
    let x := d.queue q
    let n := item.length
    if !d.qOn q ∨ d.ringSize q < x.wr - x.free + n then
      (d.setQueue q { x with lostNow := x.lostNow + 1, lost := satU 32 (x.lost + 1) }).put SPL_EVENT.overrun true
    else
      let d := d.ringWrite q x.wr item
      let cap := d.capacity q
      let x := Queue.pack cap d.tm.now (n / cap + 2) x n true
      let x := if d.get (SPL_RC_TIME.flush (d.qClass q)) = 0 then x.close else x
      d.setQueue q x

/-! ### Serving ports -/

/-- Port `c` is in service: UP or PROVING (R318). -/
def Device.inService (d : Device) (c : Nat) : Bool := d.get (CLO_STAT.state c) == 2 || d.get (CLO_STAT.state c) == 4

/-- The port that a queue moves to: the first of `cs` in service, else the lowest-numbered in service. -/
def Device.choosePort (d : Device) (cs : List Nat) : Option Nat := (cs ++ List.range 32).find? fun c => d.inService c

/-- SPL_STAT and the ports' queue counts follow the queues. -/
def Device.splStat (d : Device) : Device :=
  let qs := d.queues.filter fun e => d.qOn e.1
  let d := d.set SPL_STAT.stalled (qs.filter fun e => e.2.stalled).length
  let d := d.set SPL_STAT.away (qs.filter fun e => match e.2.port with
    | none => false
    | some p => p != d.qHome e.1).length
  (List.range 32).foldl (fun d c => d.set (CLO_STAT.queues c) (qs.filter fun e => e.2.port == some c).length) d

/-- A queue moved after a failure retransmits its outstanding bolts in order, ahead of its new ones (R319). -/
def Queue.resend (x : Queue) : Queue :=
  let out := (x.bolts.filter fun b => b.sent.isSome).map Bolt.seq
  { x with retx := out, moved := !out.isEmpty }

/-- A queue that no port serves moves to `p`: as a moved queue, its timer restarting at rto (R320). -/
def Device.reserve (d : Device) (q p : Nat) : Device :=
  let x := (d.queue q).resend
  d.setQueue q { x with port := some p, lastPort := p, timeout := d.qRto q,
                        timer := if x.retx.isEmpty then none else some d.tm.now }

/-- A port came into service: unserved queues move (R320). With `home`, its queues return to it (R318, R319). -/
def Device.portServes (d : Device) (c : Nat) (home : Bool) : Device :=
  let qs := (d.queues.filter fun e => d.qOn e.1).map Prod.fst
  let step (p : Bool × Device) (q : Nat) : Bool × Device :=
    let d := p.2
    let x := d.queue q
    match x.port with
    | none => match d.choosePort [d.qHome q, d.qBackup q] with
      | none => p
      | some t => (p.1, d.reserve q t)
    | some s => if home ∧ s ≠ c ∧ d.qHome q = c then
        (true, d.setQueue q { x with port := some c, lastPort := c })
      else p
  let (back, d) := qs.foldl step (false, d)
  (if back then d.put SPL_EVENT.returned true else d).splStat

/-- Port `c` fails with state code `st` and cause (1 link, 2 fault, 3 disabled): each queue it serves moves to its backup,
else to the lowest-numbered port in service, else becomes unserved (R318 to R320). -/
def Device.portFails (d : Device) (c st cause : Nat) : Device :=
  let d := d.set (CLO_STAT.state c) st
  let x := d.clothPort c
  let d := d.setCloth c { x with cause := cause, failedOnce := true, provingFrom := none }
  let qs := (d.queues.filter fun e => e.2.port == some c).map Prod.fst
  let step (p : (Bool × Bool) × Device) (q : Nat) : (Bool × Bool) × Device :=
    let d := p.2
    let x := d.queue q
    match d.choosePort [d.qBackup q] with
    | none => ((p.1.1, true), d.setQueue q { x with port := none, timer := none, hbDue := false })
    | some t => ((true, p.1.2), d.setQueue q { x.resend with port := some t, lastPort := t })
  let ((moved, gone), d) := qs.foldl step ((false, false), d)
  let d := if moved then d.put SPL_EVENT.rehomed true else d
  (if gone then d.put SPL_EVENT.unserved true else d).splStat

/-! ### Freeing and receipts -/

/-- A capture whose read asked for it is released once its readout's last byte is acknowledged (R274, R323). -/
def Device.autoRelease (d : Device) (q : Nat) : Device :=
  (List.range 16).foldl (fun d n =>
    let c := d.capture n
    match c.lastByte with
    | some (p, b) =>
      if c.autoRelease ∧ d.capState n = 4 ∧ p = q ∧ b < (d.queue q).free then d.releaseCapture n else d
    | none => d) d

/-- `base` moves to `b`: every bolt before it leaves the ring (R303). -/
def Queue.freeTo (x : Queue) (b : Nat) : Queue :=
  let keep := x.bolts.filter fun y => !seqBefore y.seq b
  let retx := x.retx.filter fun s => !seqBefore s b
  let free := match keep with
    | [] => x.openAt
    | y :: _ => y.start
  { x with base := b, bolts := keep, retx := retx, moved := x.moved && !retx.isEmpty, free := free,
           starts := x.starts.filter fun i => free ≤ i }

/-- `base` advances to `b`: the timeout is `rto` again, the expiries are counted anew and the queue leaves STALLED (R303, R310). -/
def Queue.advance (x : Queue) (b rto : Nat) : Queue :=
  { x.freeTo b with timeout := rto, expiries := 0, stalled := false }

/-- The timer restarts when bolts are outstanding on an acknowledged, served queue, else it stops (R310). -/
def Queue.restart (x : Queue) (w now : Nat) : Queue :=
  { x with timer := if w ≠ 0 ∧ x.port.isSome ∧ x.bolts.any (fun b => b.sent.isSome) then some now else none }

/-- A dropped receipt (R307, R308). -/
def Device.badReceipt (d : Device) : Device := (d.inc SPL_CNT_BADRCPT.count).put SPL_EVENT.bad_rcpt true

/-- The sequence numbers that a receipt's missing ranges list, of the bolts now closed and not acknowledged (R308). -/
def listed (rc : List Byte) (n s : Nat) : Bool :=
  (List.range n).any fun k => (s + 2 ^ 48 - beAt rc (16 + 8 * k) 6) % 2 ^ 48 < beAt rc (22 + 8 * k) 2

/-- A receipt that passed the datagram's own check, from source address `ip` (R307, R308). -/
def Device.receipt (d : Device) (ip : Nat) (rc : List Byte) : Device :=
  let n := beAt rc 3 1
  let q := beAt rc 4 2 % 8192
  let x := d.queue q
  let ack := beAt rc 6 6
  if beAt rc 0 2 ≠ 0x5243 ∨ crc32c (rc.take (16 + 8 * n)) ≠ beAt rc (16 + 8 * n) 4 ∨ beAt rc 2 1 ≠ 1 ∨ 8 < n ∨
      !d.qOn q ∨ d.qIp q ≠ ip ∨ d.qW q = 0 ∨ !seqBefore ack x.next then d.badReceipt
  else
    let d := d.inc SPL_CNT_RCPT.count
    let now := d.tm.now
    let rto := d.qRto q
    let d := if ack = x.base ∨ seqBefore x.base ack then
        let d := if x.stalled then d.put SPL_EVENT.resumed true else d
        (d.setQueue q ((x.advance ((ack + 1) % 2 ^ 48) rto).restart (d.qW q) now)).autoRelease q
      else d
    let x := d.queue q
    let again := x.bolts.filter fun b => listed rc n b.seq && (match b.sent with
      | some t => decide (rto ≤ now - t)
      | none => false)
    let seqs := (x.bolts.map Bolt.seq).filter fun s => x.retx.contains s || again.any fun b => b.seq == s
    (d.setQueue q { x with retx := seqs }).splStat

/-- The receipts of a datagram, parsed one after another, and whether parsing consumed it (R307). -/
def parseReceipts : Nat → List Byte → List (List Byte) × Bool
  | 0, _ => ([], false)
  | fuel + 1, bs =>
    if bs.isEmpty then ([], true)
    else
      let n := beAt bs 3 1
      if bs.length < 20 ∨ 8 < n ∨ bs.length < 20 + 8 * n then ([], false)
      else
        let r := parseReceipts fuel (bs.drop (20 + 8 * n))
        (bs.take (20 + 8 * n) :: r.1, r.2)

/-- A datagram of receipts from `ip` (R307). -/
def Device.receipts (d : Device) (ip : Nat) (bs : List Byte) : Device :=
  let (rs, whole) := parseReceipts (bs.length + 1) bs
  if whole ∧ 1 ≤ rs.length ∧ rs.length ≤ 16 then rs.foldl (fun d rc => d.receipt ip rc) d
  else (List.range (max rs.length 1)).foldl (fun d _ => d.badReceipt) d

/-! ### The queue table of the ledger (10 R285, R288) -/

/-- What a queue's entry says: the next sequence number, the highest contiguously acknowledged, and how far records have been
read out into the queue. -/
def Queue.val (x : Queue) : List Nat := [x.next, (x.base + 2 ^ 48 - 1) % 2 ^ 48, x.wr]

/-- Queue `q`'s entry says `val` in both copies. -/
def Device.inBoth (d : Device) (q : Nat) (p : List Nat → Bool) : Bool :=
  [0, 1].all fun copy => (d.jrn.entry copy (4 * 65536 + q)).ok && p (d.jrn.entry copy (4 * 65536 + q)).val

/-- The entry of queue `q` is rewritten when its state has changed, at most once per 256 picks (10 R288): DESIGN CHOICE (log 78),
the time of 256 picks of the current period. -/
def Device.syncQueue (d : Device) (q : Nat) : Device :=
  let v := (d.queue q).val
  let e := d.jrn.entry 0 (4 * 65536 + q)
  if !d.qOn q ∨ d.inBoth q (fun x => x == v) ∨ (e.seq ≠ 0 ∧ d.tm.now < e.at_ + 256 * d.period) then d
  else d.writeTable (4 * 65536 + q) v

/-- The entries of every queue are brought up to date as far as they may be. -/
def Device.syncQueues (d : Device) : Device := d.queues.foldl (fun d e => d.syncQueue e.1) d

/-! ### Sending -/

/-- What a queue offers a port: a bolt with data or a heartbeat, and whether it is a retransmission. -/
structure Offer where
  bolt : Bolt
  heartbeat : Bool
  retransmit : Bool
  deriving DecidableEq, Repr

/-- The queue's oldest bolt that waits for retransmission (R314). -/
def Queue.retxOffer (x : Queue) : Option Offer :=
  (x.bolts.find? fun b => x.retx.contains b.seq).map fun b => ⟨b, false, true⟩

/-- The queue's next new bolt while its window is open, else a heartbeat that is due (R303, R312). -/
def Device.newOffer (d : Device) (q : Nat) (x : Queue) : Option Offer :=
  match x.bolts.find? fun b => b.sent.isNone with
  | some b =>
    let w := d.qW q
    if x.moved ∨ (w ≠ 0 ∧ 2 ^ w ≤ (b.seq + 2 ^ 48 - x.base) % 2 ^ 48) then none else some ⟨b, false, false⟩
  | none =>
    if x.hbDue then
      some ⟨{ seq := x.next, start := x.openAt, len := 0, first := 0xFFFF, items := 0, lost := satU 16 x.lostNow,
              sent := none, tag := 0 }, true, false⟩
    else none

/-- The frame's size with its check sequence (R295, R301). -/
def Device.frameSize (d : Device) (q : Nat) (o : Offer) : Nat := 78 + o.bolt.len + (if d.qTagged q then 4 else 0)

/-- The bucket's depth in 1/1280 byte (R314): one unit of rate, 10 Mb/s, brings 1/1280 byte a cycle. -/
def Device.bucketDepth (d : Device) (q : Nat) : Nat :=
  let b := d.get (SPL_RC_RATE.burst (d.qClass q))
  1280 * max (if b = 0 then 9216 else 4096 * b) (d.maxFrame q)

/-- The bucket's content at `t`. -/
def Device.bucketAt (d : Device) (q t : Nat) (x : Queue) : Nat :=
  min (d.bucketDepth q) (x.tokens + (t - x.tokensAt) * d.get (SPL_RC_RATE.rate (d.qClass q)))

/-- The queue's bucket holds the frame, and a retransmission fits the port's share of R315. -/
def Device.eligible (d : Device) (c q t : Nat) (x : Queue) (o : Offer) : Bool :=
  (d.get (SPL_RC_RATE.rate (d.qClass q)) == 0 || decide (1280 * d.frameSize q o ≤ d.bucketAt q t x)) &&
  (!o.retransmit || decide (((d.clothPort c).retxLog.filter fun e => t < e.1 + 1600000).foldl (fun a e => a + e.2) 0 +
      wireTime (d.frameSize q o) ≤ 80000))

/-- The state of queue `q` that an offer depends on is in both copies of the ledger (10 R285): its number, or that it is the next. -/
def Device.covered (d : Device) (q : Nat) (o : Offer) : Bool :=
  d.inBoth q fun v => !seqBefore (v.headD 0) (if o.heartbeat then o.bolt.seq else (o.bolt.seq + 1) % 2 ^ 48)

/-- ack_req (R305). -/
def Device.ackReq (d : Device) (q : Nat) (x : Queue) (o : Offer) : Bool :=
  let n := d.get (SPL_RC_TIME.ack_every (d.qClass q))
  let every := if n = 0 then 64 else n
  let w := d.qW q
  if o.heartbeat then x.next != x.base
  else o.retransmit || o.bolt.seq % every == every - 1 ||
    (w != 0 && (o.bolt.seq + 2 ^ 48 - x.base) % 2 ^ 48 == 2 ^ w - 1)

/-- A bolt's bytes (R301). -/
def boltBytes (heartbeat retx rehomed ack : Bool) (q seq first items lost tag incarn : Nat) (data : List Byte) : List Byte :=
  let flags := (if heartbeat then 1 else 0) + (if retx then 2 else 0) + (if lost ≠ 0 then 4 else 0) +
    (if rehomed then 8 else 0) + (if ack then 16 else 0)
  let hdr := be 2 0x424C ++ be 1 1 ++ be 1 flags ++ be 2 q ++ be 6 seq ++ be 2 data.length ++ be 2 first ++ be 2 items ++
    be 2 lost ++ be 4 tag ++ be 4 incarn
  hdr ++ be 4 (crc32c (hdr ++ data)) ++ data

/-- The frame head of queue `q` on port `c` (R295). -/
def Device.boltHead (d : Device) (c q : Nat) : UdpHead :=
  let ttl := bits (d.qDest q 4) 8 8
  { dmac := d.qDest q 0 * 65536 + bits (d.qDest q 1) 16 16,
    smac := d.pair (CLO_MAC_LO.mac_lo c) (CLO_MAC_HI.mac_hi c),
    tag := if d.qTagged q then some (bits (d.qDest q 3) 16 12 + 4096 * (2 * bits (d.qDest q 3) 28 3)) else none,
    dscp := bits (d.qDest q 4) 0 6, ttl := if ttl = 0 then 64 else ttl, sip := d.get (CLO_IP.ip c), dip := d.qIp q,
    sport := d.get (CLO_UDP.rcpt_port c), dport := bits (d.qDest q 2) 0 16 }

/-- The items that a bolt carries any byte of. -/
def Bolt.carries (b : Bolt) : Nat := b.items + (if b.first = 0 then 0 else 1)

/-- Port `c` sends an offer of queue `q` at `t`. -/
def Device.sendOffer (d : Device) (c q t : Nat) (o : Offer) : Device :=
  let x := d.queue q
  let b := o.bolt
  let bad := if o.heartbeat then none else d.ringPoison q b.start b.len
  let line := bad.getD ((d.ringStart q + b.start % d.ringSize q) / 64 * 64)
  let d := if o.heartbeat then d else d.ringDelivered q b.start b.len
  let (lossy, d) := if o.heartbeat then (false, d) else d.check .spl 2 bad.isSome (line % 2 ^ 32)
  let lost := if lossy then satU 16 (b.lost + b.carries) else b.lost
  let data := d.ringRead q b.start b.len
  let tag := if o.retransmit then b.tag else d.get SPL_DEV_TAG.value
  let frame := udpFrame (d.boltHead c q) (boltBytes o.heartbeat o.retransmit (d.qHome q != c) (d.ackReq q x o) q b.seq
    b.first b.items lost tag (d.get SPL_INCARN.value) data)
  let size := d.frameSize q o
  let d := d.setPair (CLO_TX_FRAMES_LO.count_lo c) (CLO_TX_FRAMES_HI.count_hi c)
    (d.pair (CLO_TX_FRAMES_LO.count_lo c) (CLO_TX_FRAMES_HI.count_hi c) + 1)
  let d := d.setPair (CLO_TX_BYTES_LO.count_lo c) (CLO_TX_BYTES_HI.count_hi c)
    (d.pair (CLO_TX_BYTES_LO.count_lo c) (CLO_TX_BYTES_HI.count_hi c) + size)
  let d := if o.retransmit then d.inc (CLO_RETX.count c) else d
  let p := d.clothPort c
  let log := p.retxLog.filter fun e => t < e.1 + 1600000
  let d := d.setCloth c { p with lastFrame := withFcs frame,
                                 retxLog := if o.retransmit then log ++ [(t + wireTime size, wireTime size)] else log }
  let x := { x with lastSend := t, hbDue := false, tokens := d.bucketAt q t x - 1280 * size, tokensAt := t }
  if o.heartbeat then d.setQueue q x
  else
    let bolts := x.bolts.map fun y =>
      if y.seq = b.seq then { y with sent := some t, tag := tag, lost := if lossy ∧ bad.isNone then lost else y.lost } else y
    let retx := if o.retransmit then x.retx.filter fun s => s != b.seq else x.retx
    let x := { x with bolts := bolts, retx := retx, moved := x.moved && !retx.isEmpty,
                      retxCount := if o.retransmit then satU 32 (x.retxCount + 1) else x.retxCount }
    if d.qW q = 0 then (d.setQueue q (x.advance ((b.seq + 1) % 2 ^ 48) (d.qRto q))).autoRelease q
    else d.setQueue q (x.restart (d.qW q) t)

/-- The queues that port `c` serves, those after the last one served first (R314). -/
def Device.turnOrder (d : Device) (c last : Nat) : List Nat :=
  let qs := (d.queues.filter fun e => e.2.port == some c && d.qOn e.1).map Prod.fst
  (qs.filter fun q => last < q) ++ (qs.filter fun q => q ≤ last)

/-- The port's choice: retransmissions before new bolts, priority 0 first, queues of one priority in turn (R314). A bolt that its
queue's entry in the ledger does not cover yet waits (10 R285); a quiesce stops new bolts (R322). -/
def Device.chooseOffer (d : Device) (c t : Nat) : Option (Nat × Nat × Offer) :=
  (List.range 8).findSome? fun k =>
    (d.turnOrder c (Sparse.get (fun _ => 8192) (d.clothPort c).turns k)).findSome? fun q =>
      let x := d.queue q
      if d.get (SPL_RC_RATE.prio (d.qClass q)) ≠ k % 4 then none
      else match (if k < 4 then (if d.qW q = 0 then none else x.retxOffer)
          else if d.jrn.quiesced.isSome then none else d.newOffer q x) with
        | none => none
        | some o => if d.eligible c q t x o && d.covered q o then some (k, q, o) else none

/-! ### The weave's effect on queues (R321) and a queue reset -/

/-- A queue is reset: unsent items and outstanding bolts are discarded and counted, base becomes next (R321) and with it the timeout
`rto` (R310). -/
def Queue.reset (x : Queue) (rto : Nat) : Queue :=
  let n := x.openItems + (if x.openAt < x.wr ∧ x.openFirst ≠ some 0 ∧ x.bolts.isEmpty then 1 else 0) +
    x.bolts.foldl (fun a b => a + b.items) 0 + (match x.bolts with
      | [] => 0
      | b :: _ => if b.first = 0 then 0 else 1)
  { x with base := x.next, free := x.wr, openAt := x.wr, openSince := none, openFirst := none, openItems := 0,
           starts := [], timeout := rto, lostNow := x.lostNow + n, lost := satU 32 (x.lost + n), bolts := [], retx := [], moved := false, expiries := 0,
           timer := none, stalled := false, hbDue := false }

/-- Queue `q` is reset: the events and a capture's release follow (R274, R323, R325). -/
def Device.resetQueue (d : Device) (q : Nat) : Device :=
  let x := d.queue q
  let y := x.reset (d.qRto q)
  let d := if x.stalled then d.put SPL_EVENT.resumed true else d
  let d := if y.lostNow ≠ x.lostNow then d.put SPL_EVENT.overrun true else d
  (d.setQueue q y).autoRelease q

/-- The bolts of at most `cap` bytes that the stream bytes from `a` to `b` make, numbered from `seq`; the first carries `lost`. -/
def Queue.cutBolts (x : Queue) (cap b : Nat) : Nat → Nat → Nat → Nat → List Bolt
  | 0, _, _, _ => []
  | fuel + 1, a, seq, lost =>
    if b ≤ a then []
    else
      let n := min cap (b - a)
      let s := x.starts.filter fun i => a ≤ i ∧ i < a + n
      { seq := seq, start := a, len := n, first := s.head?.elim 0xFFFF (fun i => i - a), items := s.length, lost := lost,
        sent := none, tag := 0 } :: Queue.cutBolts x cap b fuel (a + n) ((seq + 1) % 2 ^ 48) 0

/-- A kept queue under the capacity `cap` of its new destination (R296, R300). DESIGN CHOICE (log 90): data that has not been sent
splits at the new capacity, a closed bolt's too, whose pieces and the bolts after them are numbered anew; a bolt that has been sent
keeps its data (R311). `ends` says that flush is 0, so that what is open closes. -/
def Queue.refit (x : Queue) (cap : Nat) (ends : Bool) : Queue :=
  let sent := x.bolts.filter fun b => b.sent.isSome
  let waiting := x.bolts.filter fun b => b.sent.isNone
  let first := match waiting with
    | [] => x.next
    | b :: _ => b.seq
  let size := x.wr - x.openAt
  let stop := if ends then x.wr else x.openAt + size / cap * cap
  let spans := waiting.map (fun b => (b.start, b.len, b.lost)) ++
    (if x.openAt < stop then [(x.openAt, stop - x.openAt, satU 16 x.lostNow)] else [])
  let new := spans.foldl (fun (a : List Bolt) s =>
    a ++ x.cutBolts cap (s.1 + s.2.1) (s.2.1 + 1) s.1 ((first + a.length) % 2 ^ 48) s.2.2) []
  let left := x.starts.filter fun i => stop ≤ i
  { x with bolts := sent ++ new, next := (first + new.length) % 2 ^ 48, openAt := stop,
           openSince := if stop < x.wr then x.openSince else none,
           openFirst := left.head?.map fun i => i - stop, openItems := left.length,
           lostNow := if x.openAt < stop then 0 else x.lostNow }

/-- A kept queue after a weave: its bolts fit the new destination and class (R296, R300). With w = 0 what has been sent is freed, and
no timer runs (R304). -/
def Device.refitQueue (d : Device) (q : Nat) : Device :=
  let x := (d.queue q).refit (d.capacity q) (decide (d.get (SPL_RC_TIME.flush (d.qClass q)) = 0))
  if d.qW q = 0 then
    let d := if x.stalled then d.put SPL_EVENT.resumed true else d
    let b := match x.bolts.find? fun b => b.sent.isNone with
      | some b => b.seq
      | none => x.next
    (d.setQueue q ((x.advance b (d.qRto q)).restart 0 d.tm.now)).autoRelease q
  else d.setQueue q x

/-- An enabled queue at the moment a draft that enables it takes effect: a full bucket, timeout rto. -/
def Device.startQueue (d : Device) (q : Nat) : Device :=
  d.setQueue q { d.queue q with timeout := d.qRto q, tokens := d.bucketDepth q, tokensAt := d.tm.now,
                                lastSend := d.tm.now }

/-- The queues' ports after a weave (R321): home, backup, lowest in service, else unserved; a queue that goes on with the home it
had stays where it is. `kept` gives the home that a queue had when it was enabled before. -/
def Device.rehomeAll (d : Device) (kept : Nat → Option Nat) : Device :=
  let step (p : Bool × Device) (q : Nat) : Bool × Device :=
    let d := p.2
    let x := d.queue q
    if !d.qOn q then (p.1, if x.port.isSome then d.setQueue q { x with port := none } else d)
    else if x.port.isSome ∧ kept q = some (d.qHome q) then p
    else match d.choosePort [d.qHome q, d.qBackup q] with
      | none => (p.1 || x.port.isSome || (kept q).isNone, d.setQueue q { x with port := none, timer := none, hbDue := false })
      | some t => match x.port with
        | none => (p.1, if x.bolts.isEmpty then d.setQueue q { x with port := some t, lastPort := t } else d.reserve q t)
        | some _ => (p.1, d.setQueue q { x with port := some t, lastPort := t })
  let (gone, d) := (List.range 8192).foldl step (false, d)
  (if gone then d.put SPL_EVENT.unserved true else d).splStat

end Sys2Proof.Machine
end

