-- ==== Sys2Proof/Machine/LoomMath.lean ====
section
/-! DEFINITION. Looms: pass numbers and baselines (05 R116 to R119), cell arithmetic (R120 to R122), the add of a latch into
a bobbin word with its spill (06 R156 to R160), and the auto-power unit (R125, R126). -/

namespace Sys2Proof.Machine

/-! ### Passes -/

/-- The number of the off-diagonal pass of blocks `a < b` (R118). -/
def offDiag (a b : Nat) : Nat := 32 * a - a * (a + 1) / 2 + (b - a - 1)

/-- A pass's blocks, and whether it is diagonal (R118). -/
def passBlocks (k : Nat) : Nat × Nat × Bool :=
  if 496 ≤ k then (2 * (k - 496), 2 * (k - 496) + 1, true)
  else
    let a := ((List.range 31).filter fun a => offDiag a (a + 1) ≤ k).length - 1
    (a, a + 1 + (k - offDiag a (a + 1)), false)

/-- The pass entry of pass `k` (R135). -/
def passEntry (k : Nat) : Nat :=
  let (a, b, diag) := passBlocks k
  a + b * 2 ^ 8 + (if diag then 2 ^ 15 else 0) + k * 2 ^ 16 + 2 ^ 31

/-- The baseline that cell `(x, y)` of pass `k` forms: the input whose sample is not conjugated, then the other (R119).
None for an idle cell. -/
def cellInputs (k x y : Nat) : Option (Nat × Nat) :=
  let (a, b, diag) := passBlocks k
  if !diag then some (128 * a + x, 128 * b + y)
  else if x < y then some (128 * a + x, 128 * a + y)
  else if y < x then some (128 * b + y, 128 * b + x)
  else none

/-! ### Samples -/

/-- A creel slot that holds nothing: every input blanked. -/
def CreelSlot.cold : CreelSlot := { pick := 0, accepted := 0, blank := 2 ^ 4096 - 1, bytes := [], damaged := [] }

/-- Creel slot `n`. -/
def Device.creelSlot (d : Device) (n : Nat) : CreelSlot := Sparse.get (fun _ => CreelSlot.cold) d.creel n

/-- Sets creel slot `n`. -/
def Device.setCreel (d : Device) (n : Nat) (c : CreelSlot) : Device :=
  { d with creel := Sparse.put (fun _ => CreelSlot.cold) d.creel n c }

/-- The slot of pick `x` for its computation: a slot that holds another pick counts as wholly blanked (R99). -/
def Device.pickSlot (d : Device) (x : Nat) : CreelSlot :=
  let c := d.creelSlot (x % 2)
  if c.pick = x then c else { CreelSlot.cold with pick := x }

/-- A sample byte's value (04 R93): real part in the upper half. -/
def sampleOf (b : Byte) : Cpx := { re := sx 4 (b.toNat / 16), im := sx 4 b.toNat }

/-- Input `i` had a word of its samples lost to an uncorrectable error in slot `c` (17 R481): word t × 512 + ⌊i / 8⌋. -/
def CreelSlot.lostInput (c : CreelSlot) (i : Nat) : Bool := c.damaged.any fun w => w % 512 == i / 8

/-- Input `i`'s non-zero samples in time order, as the creel delivers them: none when blanked (R130), zero for a lost
word (17 R481). -/
def CreelSlot.column (c : CreelSlot) (i : Nat) : List (Nat × Cpx) :=
  if bit c.blank i then []
  else c.bytes.filterMap fun e =>
    if e.1 % 4096 = i ∧ !c.damaged.contains (e.1 / 4096 * 512 + i / 8) then some (e.1 / 4096, sampleOf e.2) else none

/-- Σ u · conj(v) over the time samples that both columns list (R117, R120). -/
def dotConj (u v : List (Nat × Cpx)) : Cpx :=
  u.foldl (fun a p =>
    match v.find? fun q => q.1 == p.1 with
    | none => a
    | some q => { re := a.re + p.2.re * q.2.re + p.2.im * q.2.im, im := a.im + p.2.im * q.2.re - p.2.re * q.2.im })
    ⟨0, 0⟩

/-- An input's per-pick sum Σ (ur² + ui²) (R125). -/
def powerOf (u : List (Nat × Cpx)) : Nat :=
  u.foldl (fun a p => a + (p.2.re * p.2.re + p.2.im * p.2.im).toNat) 0

/-- The dump latches that a pass over slot `c` leaves, keyed by word 128 x + y: sums and the both-unblanked counter
(R121, R122, R132). Idle cells and cells left at zero are not listed. -/
def passLatches (c : CreelSlot) (k : Nat) : Sparse Latch :=
  let (a, b, _) := passBlocks k
  let ca := (List.range 128).map fun i => (c.column (128 * a + i))
  let cb := (List.range 128).map fun i => (c.column (128 * b + i))
  let col (i : Nat) : List (Nat × Cpx) := if i / 128 = a then ca.getD (i % 128) [] else cb.getD (i % 128) []
  (List.range 16384).filterMap fun w =>
    match cellInputs k (w / 128) (w % 128) with
    | none => none
    | some (i, j) =>
      if bit c.blank i ∨ bit c.blank j then none
      else
        let p := dotConj (col i) (col j)
        some (w, { re := p.re, im := p.im, cnt := 256 })

/-! ### The bobbin add -/

/-- The latch that holds nothing. -/
def Latch.zero : Latch := { re := 0, im := 0, cnt := 0 }

/-- What one add does (R156): the word it leaves, the value it spills if any, and whether the word was refused or became
frayed. `taken` says what the admission of R159 answers. -/
structure AddResult where
  word : BobWord
  spill : Option (Int × Int)
  deferred : Bool
  frayed : Bool
  deriving DecidableEq, Repr

/-- The add of latch `l` into word `w` (R156). `lost` says that an operand of the pick was lost (17 R481): the word frays. -/
def addLatch (w : BobWord) (l : Latch) (taken lost : Bool) : AddResult :=
  let r := w.re + l.re
  let i := w.im + l.im
  let n := (w.count + l.cnt / 256) % 2 ^ 15
  let lim : Int := 2 ^ 23 - 1
  let guard : Int := 2 ^ 22
  if w.fray ∨ lost then
    ⟨{ re := satSym 24 r, im := satSym 24 i, fray := true, count := n }, none, false, !w.fray⟩
  else if r.natAbs < guard ∧ i.natAbs < guard then ⟨{ re := r, im := i, fray := false, count := n }, none, false, false⟩
  else if taken then ⟨{ re := 0, im := 0, fray := false, count := n }, some (r, i), false, false⟩
  else if r.natAbs ≤ lim ∧ i.natAbs ≤ lim then ⟨{ re := r, im := i, fray := false, count := n }, none, true, false⟩
  else ⟨{ re := satSym 24 r, im := satSym 24 i, fray := true, count := n }, none, true, true⟩

/-- What a pass's dump accumulates: the words left in the region (latest first), the spills (latest first), the spills
admitted in the pick, the queue's occupancy, and how many words were refused or frayed. -/
structure DumpAcc where
  words : List (Nat × BobWord)
  spills : List Spill
  admitted : Nat
  queued : Nat
  deferred : Nat
  frayed : Nat
  deriving DecidableEq, Repr

/-- The admission of a spill (R159): fewer than 1,024 spills in the current pick, and a free entry. -/
def DumpAcc.admits (a : DumpAcc) : Bool := decide (a.admitted < 1024) && decide (a.queued < 1024)

/-- Adds one latch into word `w` of region `reg` of bank `bank`, spilling for pass `pass` of the shed `sh`. -/
def DumpAcc.step (a : DumpAcc) (reg : Nat) (bank : Bool) (pass sh w : Nat) (old : BobWord) (l : Latch) (lost : Bool) :
    DumpAcc :=
  let x := addLatch old l a.admits lost
  let a := { a with
    words := if x.word = BobWord.zero then a.words else (16384 * reg + w, x.word) :: a.words,
    deferred := a.deferred + (if x.deferred then 1 else 0), frayed := a.frayed + (if x.frayed then 1 else 0) }
  match x.spill with
  | none => a
  | some (re, im) =>
    { a with spills := { region := reg, word := w, re := re, im := im, bank := bank, pass := pass, shed := sh } :: a.spills,
             admitted := a.admitted + 1, queued := a.queued + 1 }

/-- Two rising lists of words, joined: word, what the bank holds, what the latch holds. Every other word holds zero and
meets a zero latch, which leaves it zero. -/
def joinWords : Nat → Sparse BobWord → Sparse Latch → List (Nat × BobWord × Latch)
  | 0, _, _ => []
  | _, [], ls => ls.map fun e => (e.1, BobWord.zero, e.2)
  | _, bs, [] => bs.map fun e => (e.1, e.2, Latch.zero)
  | n + 1, (i, b) :: bs, (j, l) :: ls =>
    if i < j then (i, b, Latch.zero) :: joinWords n bs ((j, l) :: ls)
    else if j < i then (j, BobWord.zero, l) :: joinWords n ((i, b) :: bs) ls
    else (i, b, l) :: joinWords n bs ls

/-- Loom `k` computes pass `pass` of the pick in slot `c` and dumps it into `owner`'s region `reg` for the shed `sh`: rows
ascending, then columns (R132, R133, R156, R159); counts of the spill path go to the host `k`, those of the words to the
owner (R181). -/
def Device.runPass (d : Device) (c : CreelSlot) (k owner reg : Nat) (bank : Bool) (pass sh : Nat) : Device :=
  let ls := passLatches c pass
  let d := d.setLoom k { d.loom k with latch := ls }
  let m := (d.loom owner).bank bank
  let held := (m.filter fun e => e.1 / 16384 == reg).map fun e => (e.1 % 16384, e.2)
  let lost (w : Nat) : Bool := match cellInputs pass (w / 128) (w % 128) with
    | none => false
    | some (i, j) => (c.lostInput i || c.lostInput j) && !(bit c.blank i || bit c.blank j)
  let a0 : DumpAcc := { words := [], spills := [], admitted := d.get (LOM_SPILLQ.admitted_now k),
                        queued := (d.loom k).spills.length, deferred := 0, frayed := 0 }
  let a := (joinWords 32768 held ls).foldl (fun a e => a.step reg bank pass sh e.1 e.2.1 e.2.2 (lost e.1)) a0
  let m := Sparse.keep (fun x => decide (x / 16384 < reg)) m ++ (a.words.reverse ++
    Sparse.keep (fun x => decide (reg < x / 16384)) m)
  let d := d.setLoom owner ((d.loom owner).setBank bank m)
  let d := d.setLoom k { d.loom k with spills := (d.loom k).spills ++ a.spills.reverse }
  let d := (d.add (LOM_SPILL_DEFER.deferrals k) a.deferred).add (LOM_FRAY_TOTAL.frays owner) a.frayed
  let d := (d.add (LOM_SPILL_CNT.spills k) a.spills.length).set (LOM_SPILLQ.admitted_now k) a.admitted
  let d := d.set (LOM_SPILLQ.occupancy k) a.queued
  (d.peak (LOM_SPILL_PEAK.pick_peak k) a.admitted).peak (LOM_SPILL_PEAK.queue_peak k) a.queued

/-! ### The auto-power unit (R125 to R127) -/

/-- The APU takes pick `x` from slot `c`: per-pick sums, shed sums and counts, APU_PEAK and APU_BLANKED. -/
def Device.apuPick (d : Device) (c : CreelSlot) : Device :=
  let zero (_ : Nat) : Nat := 0
  let sums : Sparse Nat := (List.range 4096).filterMap fun i =>
    let p := powerOf (c.column i)
    if p = 0 then none else some (i, p)
  let open_ := (List.range 4096).filter fun i => !bit c.blank i
  let lost := open_.filter fun i => c.lostInput i
  let a := d.apu
  let (bad, d) := d.check .apu 2 false 0
  let peak := sums.foldl (fun (b : Nat × Nat) e => if b.1 < e.2 then (e.2, e.1) else b) (0, 0)
  let a := { a with
    pickSums := sums,
    sums := sums.foldl (fun m e => Sparse.put zero m e.1 ((Sparse.get zero m e.1 + e.2) % 2 ^ 40)) a.sums,
    counts := open_.foldl (fun m i => Sparse.put zero m i ((Sparse.get zero m i + 1) % 2 ^ 16)) a.counts,
    fault := a.fault || bad || !lost.isEmpty,
    frayed := (a.frayed ++ (if bad then List.range 4096 else lost)).eraseDups }
  let d := (d.set APU_PEAK.value peak.1).set APU_PEAK.input peak.2
  let d := d.set APU_BLANKED.count (4096 - open_.length)
  { d with apu := a }

/-- The APU closes the sums of the shed that begins at pick `start` (R126, R153). -/
def Device.apuClose (d : Device) (start log2 : Nat) : Device :=
  let a := d.apu
  let n := start % 2 ^ 48 / 2 ^ log2
  let d := (d.set APU_SHED_LO.shed_lo n).set APU_SHED_HI.shed_hi (n / 2 ^ 32)
  let d := d.set APU_SHED_HI.epoch (start / 2 ^ 48)
  { d with apu := { a with sums := [], counts := [], fault := false, frayed := [], closedSums := a.sums,
                           closedCounts := a.counts, closedFault := a.fault, closedFrayed := a.frayed } }

end Sys2Proof.Machine
end

