-- ==== Sys2Proof/Machine/DraftCheck.lean ====
section
/-! DEFINITION. The checks of a draft (12 R329 to R346, R548, R549): every stage of R345 in order over the staging slot, the
first failure with its code, section type and draft byte offset. -/

namespace Sys2Proof.Machine

/-- A check failure: code, section type, byte offset of the failing field (0xFFFF_FFFF: none applies). -/
structure CheckErr where
  code : Nat
  sect : Nat
  off : Nat
  deriving DecidableEq, Repr

/-- The offset reported when no field fails. -/
def noOfs : Nat := 0xFFFFFFFF

/-- The first condition of a list that does not hold: each comes with the offset of its field from `base`. -/
def firstBad (code sect base : Nat) (xs : List (Nat × Bool)) : Option CheckErr :=
  xs.findSome? fun x => if x.2 then none else some { code := code, sect := sect, off := base + x.1 }

/-- The first failure of stages in order. -/
def firstErr (xs : List (Option CheckErr)) : Option CheckErr := xs.findSome? id

/-- `n` bytes at `off` are 0. -/
def zeros (m : Sparse Byte) (off n : Nat) : Bool := rdN m off n == 0

/-- The two fixed bits of a queue reference are 0. -/
def refOk (r : Nat) : Bool := bits r 13 2 == 0

/-! ### Codes 1 to 7 -/

/-- INCOMPLETE. -/
def Drafts.incomplete (x : Drafts) : Option CheckErr :=
  let total := rdN x.staging 4 4
  if covers x.written 4 8 && covers x.written 0 total then none else some { code := 1, sect := 0, off := noOfs }

/-- HEADER (R329). -/
def checkHeader (m : Sparse Byte) : Option CheckErr :=
  let total := rdN m 4 4
  firstBad 2 0 0
    [(0, rdN m 0 2 == 0x4446), (2, rdN m 2 1 == 1), (60, crc32c (Sparse.getAll memDflt m 0 60) == rdN m 60 4),
     (4, total % 8 == 0 && decide (4096 ≤ total) && decide (total ≤ 33554432)),
     (16, decide (1 ≤ rdN m 16 2) && decide (rdN m 16 2 ≤ 16)), (3, rdN m 3 1 / 4 == 0), (19, zeros m 19 1), (48, zeros m 48 12)]

/-- The fused identity (17 R490): lot, wafer, die column and row, part revision, two zero bytes, icrc. What the fuses hold there is
free in the form that R490 gives each field, the icrc unconstrained (log 7). -/
def fusedIdentity : List Byte :=
  let x (k : Nat) : Nat := (Config.identity k).toNat
  let letter (c : Nat) : Byte := BitVec.ofNat 8 (if c < 10 then 0x30 + c else 0x37 + c)
  (List.range 6).map (fun k => letter (x k % 36)) ++
    [BitVec.ofNat 8 (1 + x 6 % 25), Config.identity 7, Config.identity 8, 0x41, 0, 0] ++
    (List.range 4).map fun k => Config.identity (12 + k)

/-- TARGET. -/
def checkTarget (m : Sparse Byte) : Option CheckErr :=
  firstBad 3 0 0
    [(18, rdN m 18 1 == 0x41), (20, zeros m 20 16 || Sparse.getAll memDflt m 20 16 == fusedIdentity)]

/-- SIGNATURE (R331), with the keys of the four slots. -/
def checkSignature (keys : Sparse (List Byte)) (m : Sparse Byte) : Option CheckErr :=
  let total := rdN m 4 4
  let key := Sparse.get (fun _ => ([] : List Byte)) keys (rdN m 3 1 % 4)
  let ok := edVerify key (Sparse.getAll memDflt m 0 (total - 64)) (Sparse.getAll memDflt m (total - 64) 64)
  firstBad 4 0 (total - 64) [(0, ok)]

/-- DIRECTORY (R330, R332): entries in order, from the type `prev` and the byte `at_` that the last section ended at. -/
def checkEntries (m : Sparse Byte) (lim : Nat) : Nat → Nat → List DirEntry → Option CheckErr
  | _, at_, [] => if zeros m at_ (lim - at_) then none else some { code := 5, sect := 0, off := at_ }
  | prev, at_, e :: es =>
    if e.ty ≤ prev ∨ 10 < e.ty ∨ e.gap ≠ 0 then some { code := 5, sect := e.ty, off := e.at_ }
    else if e.len = 0 then checkEntries m lim e.ty at_ es
    else if e.off % 8 ≠ 0 ∨ e.off < at_ ∨ lim < e.off + e.len then some { code := 5, sect := e.ty, off := e.at_ + 4 }
    else if !zeros m at_ (e.off - at_) then some { code := 5, sect := e.ty, off := at_ }
    else checkEntries m lim e.ty (e.off + e.len) es

/-- SECTION_CRC. -/
def checkCrcs (m : Sparse Byte) : Option CheckErr :=
  (directory m).findSome? fun e =>
    if e.len = 0 ∨ crc32c (Sparse.getAll memDflt m e.off e.len) = e.crc then none
    else some { code := 6, sect := e.ty, off := e.at_ + 12 }

/-- MISSING (R332). -/
def checkMissing (m : Sparse Byte) : Option CheckErr :=
  [1, 2, 4, 5, 9, 10].findSome? fun t =>
    if (section_ m t).isSome then none else some { code := 7, sect := t, off := noOfs }

/-! ### Code 8: fields -/

/-- TIMING (R334). -/
def timingFields (m : Sparse Byte) (a : Nat) : List (Nat × Bool) :=
  let s := rdN m (a + 2) 1
  [(0, decide (2240 ≤ rdN m a 2) && decide (rdN m a 2 ≤ 4096)), (2, decide (4 ≤ s) && decide (s ≤ 15)),
   (3, decide (rdN m (a + 3) 1 ≤ 1)), (8, zeros m (a + 8) 8)]

/-- LOOMS (R335, 05 R135): the reserved bits of the pass entries, the physical looms. -/
def loomFields (m : Sparse Byte) (a : Nat) : List (Nat × Bool) :=
  ((List.range 512).map fun n =>
    let x := rdN m (a + 4 * n) 4
    (4 * n, bits x 5 3 == 0 && bits x 13 2 == 0 && bits x 25 6 == 0)) ++
  (List.range 64).map fun l => (2048 + l, decide (rdN m (a + 2048 + l) 1 ≤ 67))

/-- CHANNELS (R337). -/
def channelFields (m : Sparse Byte) (a : Nat) : List (Nat × Bool) :=
  let n := rdN m a 2
  let chan (e : Nat) : Nat := rdN m (a + 8 + 32 * e) 2
  [(0, decide (1 ≤ n) && decide (n ≤ 4096)), (2, zeros m (a + 2) 6)] ++ (List.range n).flatMap fun e =>
    let o := 8 + 32 * e
    [(o, decide (chan e ≤ 4095) && (List.range e).all fun i => chan i != chan e), (o + 7, zeros m (a + o + 7) 1),
     (o + 22, zeros m (a + o + 22) 10)]

/-- MEMORY (R339). -/
def memoryFields (m : Sparse Byte) (a : Nat) : List (Nat × Bool) :=
  let f (off n : Nat) : Nat := rdN m (a + off) n
  [(6, decide (16 ≤ f 6 2) && decide (f 6 2 ≤ 3072)), (8, decide (f 8 2 ≤ f 6 2)), (64, f 64 1 == 0), (68, f 68 1 == 0),
   (72, decide (f 72 1 ≤ 1)), (73, f 73 1 == 0), (74, decide (f 74 2 ≤ 512)), (76, f 76 4 == 0), (104, f 104 24 == 0)]

/-- BEAMS (R340, R191). -/
def beamFields (m : Sparse Byte) (a : Nat) : List (Nat × Bool) :=
  [(0, rdN m a 2 == 0x4850), (10, zeros m (a + 10) 54)] ++
  ((List.range 512).map fun b =>
    let x := rdN m (a + 64 + 4 * b) 4
    (64 + 4 * b, bits x 3 5 == 0 && bits x 13 19 == 0 && bits x 1 2 != 3 && decide (bits x 8 5 ≤ 16))) ++
  (List.range 512).map fun b => (16781312 + 2 * b, refOk (rdN m (a + 16781312 + 2 * b) 2))

/-- A detector's lengths meet R223: D divides L and the quotient is at most 16. -/
def detectorOk (lenCode decCode : Nat) : Bool :=
  let l := if lenCode = 0 then 65536 else lenCode
  let k := if decCode = 0 then 65536 else decCode
  l % k == 0 && decide (l / k ≤ 16)

/-- CHAINS (R341). -/
def chainFields (m : Sparse Byte) (a : Nat) : List (Nat × Bool) :=
  ((List.range 128).flatMap fun z =>
    let o := 16 * z
    let f (off n : Nat) : Nat := rdN m (a + o + off) n
    [(o, bits (f 0 2) 9 6 == 0), (o + 2, decide (f 2 1 ≤ 6)), (o + 3, decide (f 3 1 ≤ 2)), (o + 4, decide (f 4 1 ≤ 1)),
     (o + 5, decide (f 5 1 ≤ 28)), (o + 6, refOk (f 6 2)),
     (o + 8, decide (2 ^ 30 < f 8 4) && decide (f 8 4 ≤ 2 ^ 31)), (o + 12, f 12 4 == 0)]) ++
  (List.range 512).flatMap fun k =>
    let o := 2048 + 16 * k
    let f (off n : Nat) : Nat := rdN m (a + o + off) n
    [(o, !bit (f 5 1) 0 || detectorOk (f 0 2) (f 2 2)), (o + 4, decide (f 4 1 ≤ 63)), (o + 5, decide (f 5 1 ≤ 1)),
     (o + 6, refOk (f 6 2)), (o + 8, f 8 8 == 0)]

/-- The bytes of `n` data-image runs that begin at `a`, within `fuel` bytes: each is 4 bytes and its words (R342). -/
def runBytes (m : Sparse Byte) : Nat → Nat → Nat → Nat
  | _, _, 0 => 0
  | a, fuel, n + 1 =>
    let c := rdN m (a + 2) 2
    let k := 4 + 4 * (if c = 0 then 65536 else c)
    if fuel < k then k else k + runBytes m (a + k) (fuel - k) n

/-- An engine block of TREADLE (R342) at `o` of the section at `a`, whose bytes end at `len`. -/
def treadleBlock (m : Sparse Byte) (a o len : Nat) : List (Nat × Bool) :=
  let f (off n : Nat) : Nat := rdN m (a + o + off) n
  let n := f 0 2
  if n = 0 then [(o + 4, f 4 2 == 0), (o + 6, f 6 2 == 0), (o + 8, f 8 4 == 192)]
  else
    let runs := runBytes m (a + o + 192 + 8 * n) (len - (o + 192 + 8 * n)) (f 4 2)
    [(o, decide (n ≤ 16384)), (o + 2, decide (f 2 1 ≤ 3)), (o + 3, f 3 1 == 0),
     (o + 8, f 8 4 == 192 + 8 * n + runs + 4 * f 6 2 && decide (o + f 8 4 ≤ len)),
     (o + 12, decide (2 * f 12 2 ≤ secN m 1 0 2)), (o + 14, f 14 2 == 0)] ++
    ((List.range 4).map fun k => (o + 16 + 2 * k, refOk (f (16 + 2 * k) 2))) ++ [(o + 24, f 24 40 == 0)]

/-- TREADLE: its engine blocks one after another from `o`, `k` of them, which fill the section. -/
def checkTreadle (m : Sparse Byte) (e : DirEntry) : Nat → Nat → Option CheckErr
  | o, 0 => firstBad 8 8 (e.at_ + 8) [(0, o == e.len)]
  | o, k + 1 =>
    if e.len < o + 192 then some { code := 8, sect := 8, off := e.at_ + 8 }
    else firstErr [firstBad 8 8 e.off (treadleBlock m e.off o e.len), checkTreadle m e (o + rdN m (e.off + o + 8) 4) k]

/-- QUEUES (R343, R325). -/
def queueFields (m : Sparse Byte) (a : Nat) : List (Nat × Bool) :=
  let f (off n : Nat) : Nat := rdN m (a + off) n
  [(2, refOk (f 2 2)), (4, f 4 4 == 0)] ++
  ((List.range 16).map fun n => (8 + 8 * n, bits (f (8 + 8 * n) 4) 26 6 == 0)) ++
  ((List.range 8192).flatMap fun q =>
    let x := f (136 + 8 * q) 4
    let y := f (140 + 8 * q) 4
    let w := bits x 16 5
    [(136 + 8 * q, bits x 22 10 == 0 && (w == 0 || (decide (4 ≤ w) && decide (w ≤ 16)))),
     (140 + 8 * q, y / 65536 == 0 && (!bit x 21 || y != 0))]) ++
  ((List.range 513).map fun k => (65672 + 2 * k, refOk (f (65672 + 2 * k) 2))) ++ [(66698, f 66698 6 == 0)] ++
  (List.range 32).map fun c => (66716 + 16 * c, f (66716 + 16 * c) 4 == 0)

/-- DESTINATIONS (R344, R317): an entry of zeros is unused. -/
def destFields (m : Sparse Byte) (a len : Nat) : List (Nat × Bool) :=
  (List.range (len / 32)).flatMap fun e =>
    let o := 32 * e
    let f (off n : Nat) : Nat := rdN m (a + o + off) n
    if f 0 32 = 0 then []
    else
      [(o + 10, f 10 2 != 0), (o + 14, f 14 2 == 0 || (decide (1024 ≤ f 14 2) && decide (f 14 2 ≤ 9216))),
       (o + 16, decide (f 16 1 < 32)), (o + 17, decide (f 17 1 < 32) && f 17 1 != f 16 1), (o + 19, decide (f 19 1 < 64)),
       (o + 23, f 23 9 == 0)]

/-- The length of a section agrees with its fields; `none` for TREADLE, whose blocks say it. -/
def lengthOk (m : Sparse Byte) (e : DirEntry) : Bool :=
  match e.ty with
  | 1 => e.len == 16
  | 2 => e.len == 3136
  | 3 => e.len == 16896
  | 4 => e.len == 8 + 32 * rdN m e.off 2
  | 5 => e.len == 128
  | 6 => e.len == 16782336
  | 7 => e.len == 10240
  | 9 => e.len == 67216
  | 10 => e.len % 32 == 0 && decide (32 ≤ e.len) && decide (e.len ≤ 131072)
  | _ => true

/-- FIELD for one section: its length, reported at the directory's length field, then its fields in rising offset. -/
def checkSection (m : Sparse Byte) (e : DirEntry) : Option CheckErr :=
  if e.len = 0 then none
  else
    let count := rdN m e.off 2
    if e.ty = 4 ∧ 8 ≤ e.len ∧ (count = 0 ∨ 4096 < count) then some { code := 8, sect := 4, off := e.off }
    else if !lengthOk m e then some { code := 8, sect := e.ty, off := e.at_ + 8 }
    else match e.ty with
      | 1 => firstBad 8 1 e.off (timingFields m e.off)
      | 2 => firstBad 8 2 e.off (loomFields m e.off)
      | 4 => firstBad 8 4 e.off (channelFields m e.off)
      | 5 => firstBad 8 5 e.off (memoryFields m e.off)
      | 6 => firstBad 8 6 e.off (beamFields m e.off)
      | 7 => firstBad 8 7 e.off (chainFields m e.off)
      | 8 => checkTreadle m e 0 4
      | 9 => firstBad 8 9 e.off (queueFields m e.off)
      | 10 => firstBad 8 10 e.off (destFields m e.off e.len)
      | _ => none

/-- FIELD: the sections in ascending type. -/
def checkFields (m : Sparse Byte) : Option CheckErr := (directory m).findSome? (checkSection m)

/-! ### Codes 9 to 12 -/

/-- The offset of a section in the draft. -/
def secOff (m : Sparse Byte) (ty : Nat) : Nat :=
  match section_ m ty with
  | none => 0
  | some e => e.off

/-- PASS_TABLE (R137, R335). -/
def checkPasses (m : Sparse Byte) : Option CheckErr :=
  let ent (n : Nat) : Nat := secN m 2 (4 * n) 4
  let phys (l : Nat) : Nat := secN m 2 (2048 + l) 1
  let pos (n : Nat) : Nat := declaredPass m n
  firstBad 9 2 (secOff m 2) <|
    ((List.range 512).map fun n =>
      let k := bits (ent n) 16 9
      (4 * n, ent n == passEntry k && (List.range n).all fun i => bits (ent i) 16 9 != k)) ++
    ((List.range 64).map fun l =>
      (2048 + l, (List.range l).all fun i => phys i != phys l)) ++
    (List.range 512).map fun n =>
      (2112 + 2 * n, decide (pos n < 512) && (List.range n).all fun i => pos i != pos n)

/-- Word A of queue `q` in QUEUES. -/
def draftQueue (m : Sparse Byte) (q : Nat) : Nat := secN m 9 (136 + 8 * q) 4

/-- A destination entry that is used: some byte of its 32 is not 0 (R344). -/
def destUsed (m : Sparse Byte) (e : Nat) : Bool := (secBytes m 10 (32 * e) 32).any fun b => b != 0

/-- The queue references of a draft with their sections and offsets there, by section type: voltage beams, chains and
detectors, engines with a program, the capture readout, the records. -/
def draftRefs (m : Sparse Byte) : List (Nat × Nat × Nat) :=
  let trd := (List.range 4).foldl (fun (p : Nat × List (Nat × Nat × Nat)) _ =>
    let o := p.1
    let n := secN m 8 o 2
    let xs := if n = 0 then [] else (List.range 4).map fun k => (8, o + 16 + 2 * k, secN m 8 (o + 16 + 2 * k) 2)
    (o + secN m 8 (o + 8) 4, p.2 ++ xs)) (0, [])
  ((List.range 512).map fun b => (6, 16781312 + 2 * b, beamRef m b)) ++
  ((List.range 640).map fun z =>
    (7, (if z < 128 then 16 * z + 6 else 2048 + 16 * (z - 128) + 6), unitRef m z)) ++
  trd.2 ++ [(9, 2, captureRef m)] ++ (List.range 513).map fun k => (9, 65672 + 2 * k, recordRef m k)

/-- The draft configures unit `z` (0 to 127 a chain, else a detector). -/
def draftUnit (m : Sparse Byte) (z : Nat) : Bool :=
  if z < 128 then bit (secN m 7 (16 * z) 2) 15 else bit (secN m 7 (2048 + 16 * (z - 128) + 5) 1) 0

/-- Descriptor of beam `b` in the default pattern. -/
def draftDesc (m : Sparse Byte) (b : Nat) : Nat := secN m 6 (64 + 4 * b) 4

/-- Home and backup ports and class rate, in units of 10 Mb/s, of the enabled queues (R548). -/
def draftLoads (m : Sparse Byte) : List (Nat × Nat × Nat) :=
  (List.range 8192).filterMap fun q =>
    let x := draftQueue m q
    if !bit x 21 then none
    else
      let e := bits x 0 12
      some (secN m 10 (32 * e + 16) 1 % 32, secN m 10 (32 * e + 17) 1 % 32, bits (secN m 9 (8 + 8 * bits x 12 4) 4) 0 16)

/-- The port loads of R316 in class rates: 11.875 GB/s homed on a port, 12.36 GB/s with another port's backup load. -/
def loadsOk (xs : List (Nat × Nat × Nat)) : Bool :=
  let sum (p : Nat × Nat × Nat → Bool) : Nat := ((xs.filter p).map fun x => x.2.2).foldl (· + ·) 0
  (List.range 32).all fun c =>
    let own := sum fun x => x.1 == c
    decide (own ≤ 9500) && (List.range 32).all fun k =>
      k == c || decide (own + sum (fun x => x.1 == k && x.2.1 == c) ≤ 9888)

/-- CROSS (R340, R341, R344, R548). -/
def checkCross (m : Sparse Byte) : Option CheckErr :=
  let at_ (ty off : Nat) (ok : Bool) : Option CheckErr :=
    if ok then none else some { code := 10, sect := ty, off := secOff m ty + off }
  firstErr
    [(draftRefs m).findSome? fun x => at_ x.1 x.2.1 (match queueRef x.2.2 with
       | none => true
       | some q => bit (draftQueue m q) 21),
     (List.range 8192).findSome? fun q =>
       at_ 9 (136 + 8 * q) (!bit (draftQueue m q) 21 || destUsed m (bits (draftQueue m q) 0 12)),
     (List.range 512).findSome? fun b =>
       at_ 6 (16781312 + 2 * b) (!(bit (draftDesc m b) 0 && bits (draftDesc m b) 1 2 == 0) || bit (beamRef m b) 15),
     (List.range 640).findSome? fun z =>
       at_ 7 (if z < 128 then 16 * z + 6 else 2048 + 16 * (z - 128) + 6) (!draftUnit m z || bit (unitRef m z) 15),
     at_ 9 8 (loadsOk (draftLoads m)),
     (List.range 128).findSome? fun z =>
       at_ 7 (16 * z) (!draftUnit m z || (List.range z).all fun y =>
         !draftUnit m y || bits (secN m 7 (16 * y) 2) 0 9 != bits (secN m 7 (16 * z) 2) 0 9),
     at_ 6 64 (decide (((List.range 512).filter fun b => bit (draftDesc m b) 0).length ≤ memF m 74 2))]

/-- A region of a draft: its start, its size, and where its address field lies (section type, offset there). -/
structure Region where
  start : Nat
  size : Nat
  sect : Nat
  field : Nat
  deriving DecidableEq, Repr

/-- The size of the 16 spill-log areas at shed exponent `s` (10 R275). -/
def slogSize (s : Nat) : Nat := 16 * (64 + 16 * (1024 * 2 ^ s + 69632))

/-- The bytes of a gain set: 16,384 for each channel up to the largest number (R346). -/
def gainSize (m : Sparse Byte) : Nat := 16384 * ((List.range (nEnt m)).foldl (fun a e => max a (entChannel m e)) 0 + 1)

/-- The rings of the enabled queues. -/
def ringsSize (m : Sparse Byte) : Nat :=
  (List.range 8192).foldl (fun a q =>
    if bit (draftQueue m q) 21 then a + 2 ^ 20 * (secN m 9 (140 + 8 * q) 4 % 65536) else a) 0

/-- The size of a matrix buffer (06 R164). -/
def matrixSize : Nat := 100696064

/-- The matrix buffers of the entries with N ≥ 1. -/
def matrixRegions (m : Sparse Byte) : List Region :=
  (List.range (nEnt m)).flatMap fun e =>
    if entN m e = 0 then []
    else [{ start := entBuf m e 0, size := matrixSize, sect := 4, field := 8 + 32 * e + 10 },
          { start := entBuf m e 1, size := matrixSize, sect := 4, field := 8 + 32 * e + 16 }]

/-- The regions of a draft in the order of R346. -/
def regions (m : Sparse Byte) : List Region :=
  let r (field size : Nat) : Region := { start := memF m field 6, size := size, sect := 5, field := field }
  [r 0 (memF m 6 2 * 2 ^ 30), r 10 (589824 * memF m 6 2), r 16 (slogSize (secN m 1 2 1)), r 22 (4 * 2 ^ 20),
   r 28 (360448 * nEnt m), r 34 (gainSize m), r 40 (gainSize m), r 46 bankSize, r 52 bankSize, r 58 (ringsSize m)] ++
  matrixRegions m

/-- Two regions meet. -/
def Region.meets (a b : Region) : Bool :=
  decide (0 < a.size) && decide (0 < b.size) && decide (a.start < b.start + b.size) && decide (b.start < a.start + a.size)

/-- REGION (R346, R549): the first region outside populated memory or overlapping one before it. `before` are those checked.
The ledger and draft windows lie above populated memory (13 R364). -/
def checkRegions (m : Sparse Byte) (top : Nat) : List Region → List Region → Option CheckErr
  | _, [] => none
  | before, r :: rs =>
    if (0 < r.size ∧ top < r.start + r.size) ∨ before.any (Region.meets r) then
      some { code := 11, sect := r.sect, off := secOff m r.sect + r.field }
    else checkRegions m top (r :: before) rs

/-- BUDGET (R339, 01 R16). -/
def checkBudget (m : Sparse Byte) : Option CheckErr :=
  let f (off : Nat) : Nat := memF m off 4
  firstBad 12 5 (secOff m 5)
    [(92, f 92 == 64000), (96, decide (f 96 ≤ 30000)), (88, decide (f 88 ≤ 380000)),
     (80, decide (f 80 + f 84 + f 88 + f 92 + f 96 ≤ 1350000))]

/-- The whole check of R345: the first failure. -/
def Device.draftError (d : Device) : Option CheckErr :=
  let m := d.drafts.staging
  firstErr
    [d.drafts.incomplete, checkHeader m, checkTarget m, checkSignature d.rsq.cfg.draftKeys m,
     checkEntries m (rdN m 4 4 - 64) 0 (64 + 16 * rdN m 16 2) (directory m), checkCrcs m, checkMissing m, checkFields m,
     checkPasses m, checkCross m, checkRegions m d.generalSize [] (regions m), checkBudget m]

end Sys2Proof.Machine
end

