-- ==== Sys2Proof/Machine/Controller.lean ====
section
/-! DEFINITION. A channel's controller (13 R365 to R367, R371 to R373, R377 to R382): where a line lies in a channel, what the
error code finds, row disturbance, and the requests queued at the controller. -/

namespace Sys2Proof.Machine

/-! ### Channels -/

/-- A command to the channel is a check of ca_parity (17 R479, R483): the command is retried. -/
def Device.caCheck (d : Device) (ch a : Nat) : Device := (d.check (drmBlk ch) 2 false a).2

/-- The offset of `a` in its channel (R365, R366): the general window from 0 on, and in the system area the window part followed
by the firmware area. -/
def Device.channelOffset (d : Device) (a : Nat) : Nat :=
  let sys := d.get (DRM_CFG.cap_gb 0) * 2 ^ 30 - 2 ^ 27
  let striped (b : Nat) : Nat := sys + (a - b) / 4096 * 512 + (a - b) % 512
  if 0x0C0000000000 ≤ a then
    let o := a - 0x0C0000000000
    sys + 2 ^ 26 + o / 18432 * 768 + o % 768
  else if 0x040040000000 ≤ a then striped 0x040040000000
  else if 0x040020000000 ≤ a then striped 0x040020000000
  else if 0x040000000000 ≤ a then striped 0x040000000000
  else a / 18432 * 768 + a % 768

/-- The bank, keyed 2 × bank + rank, and the row of the access unit at `a`. -/
def Device.placeOf (d : Device) (a : Nat) : Nat × Nat :=
  let p := Config.dramPlace (d.channelOffset (d.phys a))
  (2 * p.2.1 + p.1 % 2, p.2.2)

/-! ### The error code (R371, R372) -/

/-- What the outer code makes of a line: nothing to do, the device that it corrects, or an uncorrectable error. -/
inductive LineSeen where
  | clean | corrected (device : Nat) | bad
  deriving DecidableEq, Repr

/-- The code corrects an error of one device and detects one of two; one of more is detected when it shows (R371). -/
def lineSeen (e : LineEcc) : LineSeen :=
  match e.devices.eraseDups with
  | [] => .clean
  | [x] => .corrected x.val
  | [_, _] => .bad
  | _ => if e.shows then .bad else .clean

/-- A line corrected by the outer code is counted, and its device noted (R372). -/
def Device.lineCorrected (d : Device) (ch dev rank : Nat) : Device :=
  let same := d.flag (DRM_DEV.valid ch) ∧ d.get (DRM_DEV.device ch) = dev ∧ d.get (DRM_DEV.rank ch) = rank
  let n := if same then satU 16 (d.get (DRM_DEV.same_dev ch) + 1) else 1
  let d := ((d.inc (DRM_ECC_CNT.corrected ch)).set (DRM_DEV.device ch) dev).set (DRM_DEV.rank ch) rank
  (d.put (DRM_DEV.valid ch) true).set (DRM_DEV.same_dev ch) n

/-- What the code finds of the line at `a` of channel `ch` is recorded; a line already poisoned is uncorrectable. -/
def Device.lineFound (d : Device) (ch a : Nat) (e : LineEcc) : Device :=
  let (bad, d) := d.check (drmBlk ch) 1 (lineSeen e == .bad || d.poisoned a 1) (a / 64 * 64 % 2 ^ 32)
  if bad then d.linePoisoned ch a
  else match lineSeen e with
    | .corrected dev => d.lineCorrected ch dev e.rank.val
    | _ => d

/-! ### Row disturbance (R377, R378) -/

/-- The rows of the banks that `p` holds for are precharged. -/
def Device.closeRows (d : Device) (ch : Nat) (p : Nat → Bool) : Device :=
  let x := d.dram ch
  d.setDram ch { x with rows := x.rows.filter fun e => !p e.1 }

/-- DRFM commands serve the marks of every row that is precharged: they are the next commands to their banks (R377). -/
def Device.serveMarks (d : Device) (ch : Nat) : Device :=
  let x := d.dram ch
  let due (b r : Nat) : Bool := Sparse.get (fun _ => none) x.rows b != some r
  let n := x.marks.foldl (fun n e => n + (e.2.filter fun r => due e.1 r).length) 0
  let marks : Sparse (List Nat) := x.marks.map fun e => (e.1, e.2.filter fun r => !due e.1 r)
  if n = 0 then d else (d.setDram ch { x with marks := marks }).add (DRM_DRFM_CNT.count ch) n

/-- The draw of R377 samples an activate with probability 2^-k, where DRM_RH.k counts as 8 to 16 (log 79). -/
def Device.samples (d : Device) (ch : Nat) (x : W32) : Bool := x.toNat % 2 ^ (max 8 (min 16 (d.liveOf (DRM_RH.k ch)))) == 0

/-- Row `r` of bank `b` is activated unless it is open: the row open before is precharged and its mark served, a sampled activate
marks its row, and the module's threshold of activates brings an RFM command (R377, R378). -/
def Device.openRow (d : Device) (ch b r : Nat) : Device :=
  if Sparse.get (fun _ => none) (d.dram ch).rows b = some r then d
  else
    let d := (d.closeRows ch fun k => k == b).serveMarks ch
    let x := d.dram ch
    let v := Config.dramDraw ch x.draw
    let ms := Sparse.get (fun _ => []) x.marks b
    let n := Sparse.get (fun _ => 0) x.acts b + 1
    let full : Bool := match x.rfm with
      | none => false
      | some k => decide (k ≤ n)
    let d := d.setDram ch
      { x with rows := Sparse.put (fun _ => none) x.rows b (some r), draw := v,
               marks := if d.samples ch v then Sparse.put (fun _ => []) x.marks b (ms ++ [r]) else x.marks,
               acts := Sparse.put (fun _ => 0) x.acts b (if full then 0 else n) }
    if full then d.inc (DRM_DRFM_CNT.count ch) else d

/-! ### Requests (R379 to R382) -/

/-- The port that takes a user's traffic, and its priority (R381). -/
def userPort : MemUser → Nat
  | .journal => 0
  | .chainState => 1
  | .ledger => 1
  | .shedDump => 2
  | .spillDrain => 2
  | .parking => 2
  | .negate => 2
  | .table => 3
  | .bankWrite => 3
  | .engineLoad => 3
  | .replay => 4
  | .spillLog => 4
  | .readout => 5
  | .ring => 5
  | .capture => 6
  | .matrix _ => 7

/-- The bulk address and the length of a request. -/
def memSpan : MemReq → Nat × Nat
  | .read a n => (a, n)
  | .write a bs => (a, bs.length)
  | .add a _ _ _ _ => (a, 12)

/-- A request that changes memory. -/
def reqWrites : MemReq → Bool
  | .read _ _ => false
  | .write _ _ => true
  | .add _ _ _ _ _ => true

/-- The lines that a request reads: both of every unit, but for a line that a write covers whole (R371, R372). -/
def memReadLines (q : MemReq) : List Nat :=
  let ls := (unitsOf (memSpan q).1 (memSpan q).2).flatMap fun u => [u, u + 64]
  match q with
  | .write a bs => ls.filter fun l => !(decide (a ≤ l) && decide (l + 64 ≤ a + bs.length))
  | _ => ls

/-- A port's longest wait, in matrix cycles, and its requests that waited more than 1 µs (800 cycles). -/
def Device.portWait (d : Device) (ch port wait : Nat) : Device :=
  let d := d.peak (DRM_PWAIT.peak ch port) wait
  if 800 < wait then d.inc (DRM_PWAIT.held ch port) else d

/-- Matrix master `m` decodes the windows of 16 R451: the pairs, the debug port, and the shuttle engine while it runs a channel whose
heddle bit is set. -/
def Device.decodesHeddle (d : Device) (m : Nat) : Bool :=
  if m = 2 then d.flag SHT_STAT.busy && d.flag (SHT_CH_CTL.heddle (d.get SHT_STAT.running)) else m < 2 || m == 4

/-- The request's own effect: a write stores its bytes, an atomic add adds its element (06 R167). A matrix master writes through
the windows with their rules (R364, 07 R204); the blocks write the general window. The bytes of a ledger write are those
that the event or the entry has put there (log 79). -/
def Device.serve (d : Device) (u : MemUser) : MemReq → Device
  | .read a n => d.enters u a n false (match u with
    | .matrix _ => true
    | _ => false)
  | .write a bs =>
    match u with
    | .matrix m => (d.winWrite m.val (d.decodesHeddle m.val) a bs).2
    | .ledger => d.enters u a bs.length true false
    | _ => if a + bs.length ≤ d.generalSize then d.storeFor u a bs else d
  | .add a re im fray n =>
    let base := ((matrixRegions d.draft).find? fun r => decide (r.start ≤ a) && decide (a < r.start + r.size)).map Region.start
    (d.addStored (base.getD (a / 768 * 768)) a re im fray n).enters u a 12 true false

/-- The matrix requests of master `m` that have been granted and not answered: an access that several controllers hold counts
once. -/
def Device.outstanding (d : Device) (m : Nat) : Nat :=
  let qs := d.drm.map fun e => e.2.queue.filter fun x => x.user == .matrix (Fin.ofNat 5 m) && x.owed
  qs.flatten.eraseDups.foldl (fun n x => n + (qs.map fun q => q.count x).foldl max 0) 0

/-- A request is accepted (R380): the code sees the lines that it reads and it has its effect, which every later access sees; it is
served at a command slot. An add whose bytes lie on two channels is one operation (R367). -/
def Device.grant (d : Device) (x : MemAsk) : Device :=
  let ls := memReadLines x.req
  let d := ls.zipIdx.foldl (fun d e => d.lineFound (lineChannel e.1) e.1 (x.ecc.getD e.2 ⟨[], 0, false⟩)) d
  d.serve x.user x.req

/-- A request comes. Where a matrix master sends it, the master must be able to issue it (16 R449, R450), a 17th outstanding one waits
at its interface (16 R454), and an address that no window holds goes to the default target (16 R453). -/
def Device.accept (d : Device) (x : MemAsk) : Device :=
  let (a, n) := memSpan x.req
  match x.user with
  | .matrix m =>
    if m.val ≠ 2 ∧ !d.issues m.val then d
    else if 16 ≤ d.outstanding m.val ∨ d.hdl.atPort.any (fun y => y.user == x.user) then
      { d with hdl := { d.hdl with atPort := d.hdl.atPort ++ [x] } }
    else
      let d := d.peak (mtxPeak m.val) (d.outstanding m.val + 1)
      match d.decodes (d.decodesHeddle m.val) a n with
      | none => d.missed m.val (d.decodesHeddle m.val) a (reqWrites x.req)
      | some _ => if d.inMemory a ∧ d.chanRuns (lineChannel a) then d.grant x else d
  | _ => if (d.decodes false a n).isSome ∧ d.inMemory a ∧ d.chanRuns (lineChannel a) then d.grant x else d

/-- The requests that wait at the interfaces come again. -/
def Device.acceptWaiting (d : Device) : Device :=
  d.hdl.atPort.foldl Device.accept { d with hdl := { d.hdl with atPort := [] } }

/-- The access units of a slot that channel `ch` holds. -/
def MemSlot.units (x : MemSlot) (ch : Nat) : List Nat := (unitsOf x.addr x.len).filter fun u => lineChannel u == ch

/-- Two accesses meet in an access unit of channel `ch`. -/
def slotsMeet (ch : Nat) (x y : MemSlot) : Bool := (x.units ch).any fun u => (y.units ch).contains u

/-- An access is served at a slot of channel `ch` at `t`: its rows are opened there. -/
def Device.serveSlot (d : Device) (ch : Nat) (x : MemSlot) (t : Nat) : Device :=
  let d := (x.units ch).foldl (fun d u => let p := d.placeOf u; d.openRow ch p.1 p.2) d
  (d.portWait ch (userPort x.user) ((t - x.since) / 2)).caCheck ch (x.addr % 2 ^ 32)

/-- The access's rows are open in their banks. -/
def Device.rowHit (d : Device) (ch : Nat) (x : MemSlot) : Bool :=
  (x.units ch).all fun u => let p := d.placeOf u; Sparse.get (fun _ => none) (d.dram ch).rows p.1 == some p.2

/-- Its banks are able to take the access: none is busy, and one with 4 marks takes no activate (R377). -/
def Device.able (d : Device) (ch : Nat) (busy : List Nat) (x : MemSlot) : Bool :=
  (x.units ch).all fun u =>
    let p := d.placeOf u
    !busy.contains p.1 && (Sparse.get (fun _ => none) (d.dram ch).rows p.1 == some p.2 ||
      decide ((Sparse.get (fun _ => []) (d.dram ch).marks p.1).length < 4))

/-- The accesses of a queue that are ready, oldest first: none that meets an older one which changes memory (R379), none of a matrix
master before an older one of its own (16 R455), none whose bank cannot take it. -/
def Device.readySlots (d : Device) (ch : Nat) (busy : List Nat) : List MemSlot → List MemSlot → List MemSlot
  | _, [] => []
  | older, x :: xs =>
    let rest := d.readySlots ch busy (x :: older) xs
    let waits (y : MemSlot) : Bool := (y.writes && slotsMeet ch y x) || (userPort x.user == 7 && y.user == x.user)
    let ahead : Bool := userPort x.user == 7 && d.drm.any fun e => e.2.queue.any fun y => y.user == x.user && y.since < x.since
    if d.able ch busy x ∧ !older.any waits ∧ !ahead then x :: rest else rest

/-- The access that the controller serves (R382): of the highest-priority port with a ready one the oldest or, where the
controller takes this freedom, a younger one of the port that hits an open row when the oldest does not. -/
def Device.nextSlot (d : Device) (ch : Nat) (busy : List Nat) (younger : Bool) : Option MemSlot :=
  let rs := d.readySlots ch busy [] (d.dram ch).queue
  let best := rs.foldl (fun p x => min p (userPort x.user)) 8
  match rs.filter fun x => (userPort x.user) == best with
  | [] => none
  | x :: xs =>
    match xs.find? fun y => younger && d.rowHit ch y && !d.rowHit ch x with
    | none => some x
    | some y => some y

/-- A command slot of channel `ch` at `t`: DRFM commands that are due go first, then the access chosen (R382). -/
def Device.commandSlot (d : Device) (ch : Nat) (busy : List Nat) (younger : Bool) (t : Nat) : Device :=
  let d := d.serveMarks ch
  match d.nextSlot ch busy younger with
  | none => d
  | some x => (d.setDram ch { d.dram ch with queue := (d.dram ch).queue.erase x }).serveSlot ch x t

/-- Every access that channel `ch` has accepted is served, in order. -/
def Device.drainChannel (d : Device) (ch : Nat) : Device :=
  (d.dram ch).queue.foldl (fun d x => d.serveSlot ch x d.tm.now) (d.setDram ch { d.dram ch with queue := [] })

/-- Every accepted access reaches the DRAM before the channel enters self-refresh (R380), and every row is precharged. -/
def Device.settleMemory (d : Device) : Device :=
  (List.range 24).foldl (fun d ch => ((d.drainChannel ch).closeRows ch fun _ => true).serveMarks ch) d

/-! ### The matrix's masters (16 R450 to R455) -/

/-- What master `m` has waiting in the queues and at its interface is served, so that its next request follows it (16 R455). -/
def Device.finishMaster (d : Device) (m : Nat) : Device :=
  let mine (x : MemUser) : Bool := x == .matrix (Fin.ofNat 5 m)
  let drain (d : Device) : Device := (List.range 24).foldl (fun d ch =>
    if (d.dram ch).queue.any fun x => mine x.user && x.owed then d.drainChannel ch else d) d
  let waiting := d.hdl.atPort.filter fun x => mine x.user
  let d := drain { d with hdl := { d.hdl with atPort := d.hdl.atPort.filter fun x => !mine x.user } }
  waiting.foldl (fun d x => drain (d.accept x)) d

/-- Master `m` is reset: responses to it are discarded, and its requests that have not been granted are withdrawn (16 R454). -/
def Device.disown (d : Device) (m : Nat) : Device :=
  let mine (x : MemUser) : Bool := x == .matrix (Fin.ofNat 5 m)
  let drm := d.drm.map fun e => (e.1, { e.2 with queue := e.2.queue.map fun x => { x with owed := x.owed && !mine x.user } })
  { d with drm := drm, hdl := { d.hdl with atPort := d.hdl.atPort.filter fun x => !mine x.user } }

/-- Master `m` issues `n` requests, one after another and after those it has issued before, all of them answered before its next
command. How many of them were outstanding together, 16 at most (16 R454), is a free value (log 60). -/
def Device.request (d : Device) (m n : Nat) : Device :=
  let d := d.finishMaster m
  let together := if n ≤ 1 then n else 1 + Config.free d.freeN % min 16 n
  let d := if n ≤ 1 then d else d.nextFree
  d.set (mtxPeak m) (max (d.get (mtxPeak m)) together)

/-- The effect `f` of a register write by master `m`: one request of the matrix. -/
def State.actReg (m : Nat) (f : Device → Device) (s : State) : Host.Outcome State Fault Refusal :=
  s.act fun d => if d.issues m then f (d.request m 1) else d

/-- A write of attached memory or of an on-chip window by a matrix master (16 R451, 07 R204). -/
def execMatrixMemoryWrite (m : Master) (addr : BitVec 48) (data : List Byte) (s : State) :
    Host.Outcome State Fault Refusal :=
  s.act fun d =>
    if m.val ≠ 2 ∧ !d.issues m.val then d
    else ((d.request m.val (bursts addr.toNat data.length)).winWrite m.val (d.decodesHeddle m.val) addr.toNat data).2

end Sys2Proof.Machine
end

