-- ==== Sys2Proof/Machine/Trig.lean ====
section
/-! DEFINITION. The table entries of 07 R193: round(16,384 cos(2πk/65,536)) and the sine, halves away from zero, from the
Taylor series in fixed point. -/

namespace Sys2Proof.Machine

/-- 2π in units of 2^-96. -/
def twoPi96 : Int := 497805226624462170461043889244

/-- The sum of `n` more terms of a Taylor series in units of 2^-96: the term `t`, over `(j + 1)(j + 2)`, signs alternating. -/
def taylor (x : Int) : Nat → Nat → Int → Int
  | 0, _, _ => 0
  | n + 1, j, t => t + taylor x n (j + 2) (-(t * x / 2 ^ 96 * x / 2 ^ 96) / ((j + 1) * (j + 2) : Nat))

/-- cos(2πr/65,536) in units of 2^-96, for r up to 8,192. -/
def cos96 (r : Nat) : Int := taylor (twoPi96 * r / 65536) 14 0 (2 ^ 96)

/-- sin(2πr/65,536) in units of 2^-96, for r up to 8,192. -/
def sin96 (r : Nat) : Int :=
  let x := twoPi96 * r / 65536
  taylor x 14 1 x

/-- A non-negative value of 2^-96 units times 16,384, rounded. -/
def round96 (v : Int) : Int := (v * 16384 + 2 ^ 95) / 2 ^ 96

/-- round(16,384 cos(2πr/65,536)) in the first quadrant, r up to 16,384. -/
def cosQuad (r : Nat) : Int := if r ≤ 8192 then round96 (cos96 r) else round96 (sin96 (16384 - r))

/-- costab[k] (R193). -/
def costab (k : Nat) : Int :=
  let j := k % 65536
  if j ≤ 16384 then cosQuad j
  else if j ≤ 32768 then -cosQuad (32768 - j)
  else if j ≤ 49152 then -cosQuad (j - 32768)
  else cosQuad (65536 - j)

/-- sintab[k] (R193). -/
def sintab (k : Nat) : Int := costab (k + 49152)

end Sys2Proof.Machine
end

