-- ==== Sys2Proof/Machine/Harness.lean ====
section
/-! DEFINITION. Harness beamforming (07): pattern banks and their validity, the weight equation, generation, swap requests
and switches, beam sums and voltage-beam blocks, and the clears of HRN and BTN. -/

namespace Sys2Proof.Machine

/-- Pick `a` is `b` or after it, among extended pick numbers. -/
def ahead (a b : Nat) : Bool := decide ((a + 2 ^ 64 - b) % 2 ^ 64 < 2 ^ 63)

/-! ### Pattern banks (R191) -/

/-- The harness setter reads `[a, a + n)` of attached memory: the lines whose data is lost (17 R481), with HST source 3
checked for each that is poisoned; a line whose copy in the staging SRAM is lost has been raised (17 R479). -/
def Device.tableRead (d : Device) (a n : Nat) : List Nat × Device :=
  let ls := d.poisonIn a n
  let hurt := d.setter.hurt.filter fun l => decide (a < 64 * l + 64) && decide (64 * l < a + n)
  if ls.isEmpty then
    let (bad, d) := d.check .hst 3 false (a / 64 * 64 % 2 ^ 32)
    (if bad then (a / 64) :: hurt else hurt, d.readFor .table a n)
  else (ls ++ hurt, ls.foldl (fun d l => (d.check .hst 3 true (64 * l % 2 ^ 32)).2) (d.readFor .table a n))

/-- An uncorrectable word of the staging SRAM: the data that it held for the set under way is lost, of which line the spec leaves
open (17 R479, R542): a gain line or a delay line of an enabled beam of that set, a free choice (log 81). -/
def Device.stagingLost (d : Device) : Device :=
  match d.setter.job, d.setter.sets.find? fun w => !w.complete with
  | some _, some w =>
    let k := Config.free d.freeN % (256 + 512 * w.descs.length)
    let l := if k < 256 then w.gains / 64 + k
      else (w.base + 4096 + 32768 * ((w.descs.map Prod.fst).getD ((k - 256) / 512) 0)) / 64 + (k - 256) % 512
    { d.nextFree with setter := { d.setter with hurt := l :: d.setter.hurt } }
  | _, _ => d

/-- Descriptor of beam `b` of the bank at `base`; bytes of a poisoned line count as zero. -/
def Device.descAtBank (d : Device) (base b : Nat) : Nat :=
  ofBe (d.zeroPoison (base + 64 + 4 * b) (d.bytes (base + 64 + 4 * b) 4))

/-- A descriptor's class: 0 voltage, 1 zoom, 2 power. -/
def descClass (x : Nat) : Nat := bits x 1 2

/-- A descriptor's shift. -/
def descShift (x : Nat) : Nat := bits x 8 5

/-- The descriptors of the enabled beams of the bank at `base`. -/
def Device.bankDescs (d : Device) (base : Nat) : Sparse Nat :=
  (List.range 512).filterMap fun b =>
    let x := d.descAtBank base b
    if bit x 0 then some (b, x) else none

/-- The bank at `base` is valid (R191): magic, classes, shifts, and at most `limit` beams enabled. A poisoned line shows
no wrong field. -/
def Device.bankValid (d : Device) (base limit : Nat) : Bool :=
  (d.poisoned base 2 || ofBe (d.bytes base 2) == 0x4850) &&
  ((List.range 512).all fun b =>
    let x := d.descAtBank base b
    descClass x != 3 && decide (descShift x ≤ 16)) &&
  decide ((d.bankDescs base).length ≤ limit)

/-! ### The weight equation (R192) -/

/-- dp: picks from the bank's reference pick to the centre of the shed, as a signed 64-bit number (00 R10), clamped, and
whether the clamp acted. -/
def refDistance (shed log2 ref : Nat) : Int × Bool :=
  let dp : Int := sx 64 (low 64 (((shed + 2 ^ log2 / 2 : Nat) : Int) - ref))
  let m : Int := 2 ^ 31 - 1
  if m < dp then (m, true) else if dp < -m then (-m, true) else (dp, false)

/-- δτ: the rate's share of the delay, in units of 2^-44 s. -/
def delayDrift (rate dp : Int) (period : Nat) : Int := sar (rate * (dp * period) * 11529215046 + 2 ^ 79) 80

/-- The index of the tables for a delay `dl`: the phase in 2^-16 turn. -/
def phaseIndex (nu : Nat) (dl : Int) : Nat := (low 48 (-(nu * dl)) + 2 ^ 31) / 2 ^ 32 % 2 ^ 16

/-- A weight part rounded and clamped to ±127, and 1 when the clamp acted. -/
def weightPart (x : Int) : Int × Nat :=
  let y := sar (x + 2 ^ 21) 22
  if y < -127 then (-127, 1) else if 127 < y then (127, 1) else (y, 0)

/-- The weight of an input with gain `g` and table index `k`, and how many of its parts were clamped. -/
def weightFor (g : Cpx) (k : Nat) : Cpx × Nat :=
  let c := costab k
  let s := sintab k
  let r := weightPart (g.re * c - g.im * s)
  let i := weightPart (g.re * s + g.im * c)
  ({ re := r.1, im := i.1 }, r.2 + i.2)

/-- The gain of input `i` (R189) in the set whose entries of the channel begin at `gains`. -/
def Device.gainAt (d : Device) (gains i : Nat) : Cpx :=
  let x := ofBe (d.bytes (gains + 4 * i) 4)
  { re := sx 16 (x / 2 ^ 16), im := sx 16 x }

/-- The weights of beam `b` of the set `w`: those of input `i` whose gain line is lost are 0. They come with the number of
clamped parts. -/
def Device.beamWeights (d : Device) (w : WeightSet) (dp : Int) (lost : List Nat) (b : Nat) : Sparse Cpx × Nat :=
  let a := w.base + 4096 + 32768 * b
  let xs := (List.range 4096).filterMap fun i =>
    if lost.contains ((w.gains + 4 * i) / 64) then none
    else
      let t := ofBe (d.bytes (a + 8 * i) 8)
      let dl := sx 32 (t / 2 ^ 32) + delayDrift (sx 32 t) dp w.period
      some (4096 * b + i, weightFor (d.gainAt w.gains i) (phaseIndex w.nu dl))
  (xs.filterMap fun e => if e.2.1 = ⟨0, 0⟩ then none else some (e.1, e.2.1), xs.foldl (fun n e => n + e.2.2) 0)

/-- Completes the set `w` from attached memory (R192, R195), with the consequences of lost lines (17 R481). -/
def Device.fillSet (d : Device) (w : WeightSet) : WeightSet × Device :=
  let ref := ofBe (d.bytes (w.base + 2) 2) * 2 ^ 48 + ofBe (d.bytes (w.base + 4) 6)
  let (dp, clamped) := refDistance w.shed w.log2 ref
  let d := if clamped ∧ !w.descs.isEmpty then d.put HST_EVENT.dt_clamp true else d
  let (lost, d) := (d.enters .table w.base 4096 false false).tableRead w.gains 16384
  let wf := if lost.isEmpty then w.wfault else w.descs.map Prod.fst
  let step (p : (Sparse Cpx × List Nat) × Device) (e : Nat × Nat) : (Sparse Cpx × List Nat) × Device :=
    let (bad, d) := p.2.tableRead (w.base + 4096 + 32768 * e.1) 32768
    if !bad.isEmpty then ((p.1.1, e.1 :: p.1.2), d)
    else
      let (ws, n) := d.beamWeights w dp lost e.1
      let d := if n = 0 then d else (d.add HST_CNT_SAT.count n).put HST_EVENT.gain_sat true
      ((p.1.1 ++ ws, p.1.2), d)
  let ((ws, wf), d) := w.descs.foldl step (([], wf), d)
  ({ w with complete := true, wfault := wf.eraseDups, weights := ws }, d)

/-- A set whose generation starts (R196): the header and descriptors of its bank are read. DESIGN CHOICE (log 86): an active bank
that is not valid under the beam limit `limit`, as bank A can be after a warm restart, enables no beam; no set has more beams than the
limit (R197). -/
def Device.newSet (d : Device) (bank : Bool) (shed base limit gains nu log2 period : Nat) : WeightSet × Device :=
  let (hdr, d) := d.tableRead base 64
  let (lost, d) := d.tableRead (base + 64) 2048
  let descs := if !hdr.isEmpty ∨ !d.bankValid base limit then [] else
    (d.bankDescs base).filter fun e => !lost.contains ((base + 64 + 4 * e.1) / 64)
  ({ bank := bank, shed := shed, base := base, gains := gains, nu := nu, log2 := log2, period := period, complete := false,
     descs := descs, wfault := [], weights := [] }, d)

/-! ### Requests and switches (R199 to R203) -/

/-- The active bank. -/
def Device.activeBank (d : Device) : Bool := d.flag HST_STATE.active

/-- HST_STATE follows the setter. -/
def Device.hstShow (d : Device) : Device :=
  let x := d.setter
  let phase := match x.sw with
    | some w => if w.running then 3 else 2
    | none => if x.pend.isSome then 1 else 0
  let d := (d.set HST_STATE.phase phase).put HST_STATE.latched x.latched.isSome
  match x.latched with
  | some r => (d.put HST_STATE.latched_target r.target).set HST_STATE.latched_len r.len
  | none => (d.put HST_STATE.latched_target false).set HST_STATE.latched_len 0

/-- A switch is scheduled or starts: HST_SW_PN and HST_SW_LEN name it. -/
def Device.setSwitch (d : Device) (target : Bool) (start fEff : Nat) (running : Bool) : Device :=
  let d := d.setPair HST_SW_PN_LO.sw_lo HST_SW_PN_HI.word start
  let d := (d.set HST_SW_LEN.f_eff fEff).put HST_SW_LEN.sw_target target
  let d := if running then d.put HST_EVENT.started true else d
  { d with setter := { d.setter with sw := some { target := target, start := start, fEff := fEff, running := running } } }

/-- A swap request becomes live at this boundary and is classed by the swap state (R199). -/
def Device.swapRequest (d : Device) : Device :=
  let seq := d.liveOf HST_SWAP.req_seq
  if seq = d.setter.lastSeq then d
  else
    let d := { d with setter := { d.setter with lastSeq := seq } }
    let r : SwapReq := { target := d.liveOf HST_SWAP.target == 1, len := min (d.liveOf HST_SWAP.fade_len) 256 }
    let x := d.setter
    let same := r.target == d.activeBank
    let d := match x.sw, x.pend with
      | some _, _ =>
        let d := if x.latched.isSome then d.put HST_EVENT.replaced true else d
        { d.put HST_EVENT.latched true with setter := { x with latched := some r } }
      | none, some _ =>
        if same then { d.put HST_EVENT.noop true with setter := { x with pend := none } }
        else { d.put HST_EVENT.replaced true with setter := { x with pend := some r } }
      | none, none =>
        if same then d.put HST_EVENT.noop true else { d with setter := { x with pend := some r } }
    d.hstShow

/-- The switch machine at the boundary of pick `x`: a scheduled switch starts at s_0, a running one ends at
s_0 + F_e + 1, where a latched request is handled (R201, R202). -/
def Device.switchStep (d : Device) (x : Nat) : Device :=
  match d.setter.sw with
  | none => d
  | some w =>
    if !w.running ∧ x = w.start then (d.setSwitch w.target w.start w.fEff true).hstShow
    else if w.running ∧ x = (w.start + w.fEff + 1) % 2 ^ 64 then
      let l := d.setter.latched
      let d := (d.put HST_STATE.active w.target).put HST_EVENT.ended true
      let d := { d with setter := { d.setter with sw := none, latched := none } }
      let d := match l with
        | none => d
        | some r =>
          if r.target = w.target then d.put HST_EVENT.noop true
          else if !d.bankValid (d.bankBase r.target) (d.get HST_GEN.beam_limit) then d.put HST_EVENT.bank_invalid true
          else d.setSwitch r.target x (min r.len (d.shedLen - 1 - x % d.shedLen)) true
      d.hstShow
    else d

/-- The changes of period that are decided, in order: the boundary and the period from it on. A stretch (02 R37) that waits
for a boundary at or after that of an armed weave or unweave is discarded there (12 R354, R357). -/
def Device.periodChanges (d : Device) : List (Nat × Nat) :=
  let dropped (b : Nat) : Bool := match d.drafts.armed with
    | some a => ahead b a.w
    | none => false
  let stretch := match d.tm.stretch.bind StretchWait.at_ with
    | some b => if dropped b then [] else [(b, max d.period 2560)]
    | none => []
  let weave := match d.drafts.armed with
    | some a => if a.unweave then [] else [(a.w, secN d.drafts.staging 1 0 2)]
    | none => []
  stretch ++ weave

/-- The last change of period at or before pick `x`, a pick to come: its pick, its instant and the period from it on. -/
def Device.baseAt (d : Device) (x : Nat) : Nat × Nat × Nat :=
  d.periodChanges.foldl (fun b c =>
    if ahead x c.1 then (c.1, b.2.1 + (c.1 + 2 ^ 64 - b.1) % 2 ^ 64 * b.2.2, c.2) else b) (d.pn, d.tm.pickStart, d.period)

/-- The instant of the boundary of pick `x`, with the changes of period that are decided (02 R28). -/
def Device.boundaryTime (d : Device) (x : Nat) : Nat :=
  let b := d.baseAt x
  b.2.1 + (x + 2 ^ 64 - b.1) % 2 ^ 64 * b.2.2

/-- The period in force from pick `x` on, as far as it is decided (R192). -/
def Device.periodAt (d : Device) (x : Nat) : Nat := (d.baseAt x).2.2

/-- The gain entries of a channel in the set that `sel` names (R189, R190). -/
def Device.gainBase (d : Device) (sel chan : Nat) : Nat :=
  (if sel = 1 then d.pair HST_GAIN1_LO.base_lo HST_GAIN1_HI.base_hi
   else d.pair HST_GAIN0_LO.base_lo HST_GAIN0_HI.base_hi) + 16384 * chan

/-- The first new shed's set from the staged draft's bank A (12 R351). -/
def Device.stagedSet (d : Device) (w : Nat) : WeightSet × Device :=
  let m := d.drafts.staging
  let gain := memF m (if memF m 72 1 % 2 = 1 then 40 else 34) 6
  d.newSet false w (memF m 46 6) (memF m 74 2) (gain + 16384 * entChannel m 0) (entNu m 0) (secN m 1 2 1) (secN m 1 0 2)

/-- A set joins the setter's; one of the same bank and shed is replaced. -/
def Setter.addSet (x : Setter) (w : WeightSet) : Setter :=
  { x with sets := (x.sets.filter fun y => !(y.bank == w.bank && y.shed == w.shed)) ++ [w] }

/-- The generation start at pick `x`, the second pick of a shed, for the shed after it (R196, R200). DESIGN CHOICE (log 71): one
that prepares the first shed of an armed weave leaves a pending request waiting also when S is below 256, where 12 R351 has
that shed's weights made beforehand and says nothing of the request. -/
def Device.genStart (d : Device) (x : Nat) : Device :=
  let s := (x + d.shedLen - 1) % 2 ^ 64
  let armed := match d.drafts.armed with
    | some a => a.w == s && !a.unweave
    | none => false
  if armed then
    if d.shedLen < 256 then d
    else
      let (w, d) := d.stagedSet s
      let d := (d.put HST_STATE.two_sets false).set HST_GEN.gen_picks 0
      { d with setter := { d.setter.addSet w with job := some { shed := s, startPick := x } } }
  else
    let d := match d.setter.pend with
      | none => d
      | some r =>
        let d := { d with setter := { d.setter with pend := none } }
        if d.bankValid (d.bankBase r.target) (d.get HST_GEN.beam_limit) then
          d.setSwitch r.target s (min r.len (d.shedLen - 1)) false
        else d.put HST_EVENT.bank_invalid true
    let (late, d) := d.check .hst 2 false 0
    let two := d.setter.sw.isSome || d.setter.latched.isSome
    let act := d.activeBank
    let e := d.entOf s
    let gains := d.gainBase (d.liveOf HST_GAIN_SEL.gain_set) (entChannel d.draft e)
    let d := (if two then [act, !act] else [act]).foldl (fun d b =>
      let (w, d) := d.newSet b s (d.bankBase b) (d.get HST_GEN.beam_limit) gains (entNu d.draft e) (d.get PCK_CFG.shed_log2) (d.periodAt s)
      { d with setter := d.setter.addSet w }) d
    let d := (d.put HST_STATE.two_sets two).set HST_GEN.gen_picks 0
    { d with setter := { d.setter with job := some { shed := s, startPick := x },
                                       late := if late then s :: d.setter.late else d.setter.late } }.hstShow

/-- The setter at the shed boundary that begins at pick `b`: a set of the shed that is not complete is late (R198), and
what belonged to sheds before the last is dropped. -/
def Device.genDue (d : Device) (b : Nat) : Device :=
  let x := d.setter
  let late := x.sets.any fun w => w.shed == b && !w.complete
  let d := if late then (d.raiseReal .hst 2 0) else d
  let last := (b + 2 ^ 64 - d.shedLen) % 2 ^ 64
  { d with setter := { x with
      sets := x.sets.filter fun w => ahead w.shed b,
      late := (if late then b :: x.late else x.late).filter fun y => ahead y last,
      badGroups := x.badGroups.filter fun y => ahead y.1 last } }

/-- A stretch is decided for the boundary `b`: every set made for a shed from `b` on is made again with the new period
(02 R37). -/
def Device.regenerate (d : Device) (b : Nat) : Device :=
  d.setter.sets.foldl (fun d w =>
    if !ahead w.shed b ∨ w.period = d.periodAt w.shed then d
    else
      let w := { w with period := d.periodAt w.shed }
      let (w, d) := if w.complete then d.fillSet { w with wfault := [], weights := [] } else (w, d)
      { d with setter := d.setter.addSet w }) d

/-- The harness setter finishes the set being generated (R195). -/
def execWeightSetComplete (s : State) : Host.Outcome State Fault Refusal :=
  s.act fun d =>
    match d.setter.job with
    | none => d
    | some j =>
      match d.setter.sets.find? fun w => w.shed == j.shed && !w.complete with
      | none => { d with setter := { d.setter with job := none, hurt := [] } }
      | some w =>
        let (w, d) := d.fillSet w
        let d := { d with setter := d.setter.addSet w }
        if d.setter.sets.any fun w => w.shed == j.shed && !w.complete then d
        else
          let n := (d.pn + 2 ^ 64 - j.startPick) % 2 ^ 64
          { d.set HST_GEN.gen_picks (satU 16 n) with setter := { d.setter with job := none, hurt := [] } }

/-! ### Beam sums (R183 to R188, R201) -/

/-- The set of bank `b` for the shed that begins at `shed`, as the harnesses use it: zero weights and wfault when it was
late (R198). -/
def Setter.use (x : Setter) (b : Bool) (shed : Nat) : Sparse Nat × Sparse Cpx × List Nat :=
  match x.sets.find? fun w => w.bank == b && w.shed == shed with
  | none => ([], [], [])
  | some w =>
    if !w.complete ∨ x.late.contains shed then (w.descs, [], w.descs.map Prod.fst) else (w.descs, w.weights, w.wfault)

/-- What the harnesses and the batten compute for pick `x`, with what is in force for it (R201, R203). -/
def Device.captureBeams (d : Device) (x : Nat) : BeamPick :=
  let shed := x / d.shedLen * d.shedLen
  let act := d.activeBank
  let u := d.setter.use act shed
  let sw := match d.setter.sw with
    | some w => if w.running then some w else none
    | none => none
  let base : BeamPick :=
    { pick := x, ent := d.entOf x, chan := d.channelOf x, shed := shed, descs := u.1, bank := act, old := act, oldW := u.2.1,
      mix := none, newW := [], wfault := u.2.2, refs := [], partialAll := false, partialBeams := [],
      reset := d.chains.resetAt == some x, fresh := d.chains.freshAt == some x, cfgRegs := d.regs, cfgLive := d.live }
  let bp := match sw with
    | none => base
    | some w =>
      let t := d.setter.use w.target shed
      { base with descs := t.1, bank := w.target, newW := t.2.1, wfault := (u.2.2 ++ t.2.2).eraseDups,
                  mix := some ((2 ^ 17 * ((x + 2 ^ 64 - w.start) % 2 ^ 64 + 1) + w.fEff + 1) / (2 * (w.fEff + 1))) }
  { bp with refs := bp.descs.filterMap fun e => if descClass e.2 = 0 then some (e.1, beamRef d.draft e.1) else none }

/-- A blended part (R201): a is a 17-bit weight of the target. -/
def blendPart (a : Nat) (o n : Int) : Int := o + sar ((n - o) * a + 2 ^ 15) 16

/-- The inputs whose live weight for beam `b` is not zero, with it. `bad` are the weight-store words lost: bank, beam,
group of four inputs (17 R479). -/
def BeamPick.weightsOf (p : BeamPick) (bad : List (Bool × Nat × Nat)) (b : Nat) : List (Nat × Cpx) :=
  let own (k : Bool) (m : Sparse Cpx) : List (Nat × Cpx) := m.filterMap fun e =>
    if e.1 / 4096 = b ∧ !bad.contains (k, b, e.1 % 4096 / 4) then some (e.1 % 4096, e.2) else none
  let o := own p.old p.oldW
  match p.mix with
  | none => o
  | some a =>
    let n := own p.bank p.newW
    let is := (o.map Prod.fst ++ n.map Prod.fst).eraseDups
    is.filterMap fun i =>
      let wo := Sparse.get (fun _ => (⟨0, 0⟩ : Cpx)) o i
      let wn := Sparse.get (fun _ => (⟨0, 0⟩ : Cpx)) n i
      let w : Cpx := { re := blendPart a wo.re wn.re, im := blendPart a wo.im wn.im }
      if w = ⟨0, 0⟩ then none else some (i, w)

/-- Adds w · x(t) for the listed samples into the beam's samples from time `t` on (R183: x is not conjugated). -/
def addColumn (w : Cpx) : Nat → List Cpx → List (Nat × Cpx) → List Cpx
  | _, [], _ => []
  | _, acc, [] => acc
  | t, a :: acc, (j, x) :: xs =>
    if j = t then
      { re := a.re + (x.re * w.re - x.im * w.im), im := a.im + (x.re * w.im + x.im * w.re) } ::
        addColumn w (t + 1) acc xs
    else a :: addColumn w (t + 1) acc ((j, x) :: xs)

/-- The beam samples of a pick: 256 complex values. -/
def beamSum (c : CreelSlot) (ws : List (Nat × Cpx)) : List Cpx :=
  ws.foldl (fun acc e => addColumn e.2 0 acc (c.column e.1)) (List.replicate 256 ⟨0, 0⟩)

/-- A beam of a pick as it leaves the batten: its descriptor, samples, n_in and marks. -/
structure BeamOut where
  beam : Nat
  desc : Nat
  samples : List Cpx
  nIn : Nat
  wfault : Bool
  partial_ : Bool
  deriving DecidableEq, Repr

/-- The largest part magnitude of a series. -/
def peakOf (xs : List Cpx) : Nat := xs.foldl (fun m x => max m (max x.re.natAbs x.im.natAbs)) 0

/-- The enabled beams of `p` over the pick's creel slot. -/
def Device.beamOuts (d : Device) (p : BeamPick) (c : CreelSlot) : List BeamOut :=
  let bad := (d.setter.badGroups.filter fun e => e.1 == p.shed).map fun e => e.2
  let inUse := bad.filter fun e => e.1 == p.old || (p.mix.isSome && e.1 == p.bank)
  p.descs.map fun e =>
    let ws := (p.weightsOf bad e.1).filter fun x => !bit c.blank x.1
    { beam := e.1, desc := e.2, samples := beamSum c ws, nIn := ws.length, wfault := p.wfault.contains e.1,
      partial_ := p.partialAll || p.partialBeams.contains e.1 || !c.damaged.isEmpty || inUse.any fun x => x.2.1 == e.1 }

/-- Rounding right shift of R208, R222, R241: half up. -/
def rnd (x : Int) (sh : Nat) : Int := if sh = 0 then x else sar (x + 2 ^ (sh - 1)) sh

/-- A part requantised to magnitude at most `m`, and 1 when clamped (R208, R222). -/
def requant (m x : Int) (sh : Nat) : Int × Nat :=
  let y := rnd x sh
  if y < -m then (-m, 1) else if m < y then (m, 1) else (y, 0)

/-- The voltage-beam block (R209) and the number of clamped parts. -/
def voltBlock (p : BeamPick) (o : BeamOut) : List Byte × Nat :=
  let sh := descShift o.desc
  let q : List (Int × Nat) := o.samples.flatMap fun x => [requant 127 x.re sh, requant 127 x.im sh]
  let sat : Nat := q.foldl (fun n e => n + e.2) 0
  let flags := (if sat = 0 then 0 else 1) + (if p.mix.isSome then 2 else 0) + (if o.wfault then 4 else 0) +
    (if o.partial_ then 8 else 0)
  let hdr := be 2 0x5642 ++ be 1 1 ++ be 1 flags ++ be 2 o.beam ++ be 2 p.chan ++ be 8 p.pick ++ be 2 o.nIn ++ be 1 sh ++
    be 1 (if p.bank then 1 else 0) ++ be 8 0
  let data := q.map fun e => BitVec.ofNat 8 (low 8 e.1)
  (hdr ++ be 4 (crc32c (hdr ++ data)) ++ data, sat)

/-- A weight-store word of harness `h` is lost (17 R479, R542): its weights count as 0 for the rest of its shed. -/
def Device.hrnLost (d : Device) (h detail : Nat) : Device :=
  let d := d.inc (HRN_WECC.uncorrected h)
  match d.beams with
  | none => d
  | some p =>
    let set := bits detail 13 2
    let shed := if set < 2 then p.shed else (p.shed + d.shedLen) % 2 ^ 64
    let bank := if set % 2 = 0 then d.activeBank else !d.activeBank
    let e := (shed, bank, bits detail 4 9, 16 * h + bits detail 0 4)
    { d with setter := { d.setter with badGroups := (e :: d.setter.badGroups).eraseDups } }

/-- The beams of the pick now computed carry partial (R208). -/
def Device.partialPick (d : Device) : Device :=
  match d.beams with
  | none => d
  | some p => { d with beams := some { p with partialAll := true } }

/-- Armed injections of HRN and BTN sources act on the pick's data (17 R483). -/
def Device.beamChecks (d : Device) (p : BeamPick) : Device :=
  if !d.testen then d
  else
    let b0 := match p.descs with
      | [] => 0
      | e :: _ => e.1
    let d := (List.finRange 64).foldl (fun d h =>
      let (c, d) := d.check (.hrn h) 0 false (16 * b0)
      let d := if c then d.inc (HRN_WECC.corrected h.val) else d
      let (u, d) := d.check (.hrn h) 1 false (16 * b0)
      let d := if u then d.hrnLost h.val (16 * b0) else d
      let (x, d) := d.check (.hrn h) 2 false 0
      if x then d.partialPick else d) d
    let (x, d) := d.check .btn 2 false 0
    if x then d.partialPick else d

/-- The samples of beams that the target of a running switch does not enable, which fade out of the bank switched from: they
are routed nowhere (R203), and BTN_PEAK sees them (R212). -/
def Device.fadingBeams (d : Device) (p : BeamPick) (c : CreelSlot) : List (Nat × List Cpx) :=
  if p.mix.isNone then []
  else
    let bad := (d.setter.badGroups.filter fun e => e.1 == p.shed).map fun e => e.2
    let bs := ((p.oldW.map fun e => e.1 / 4096).eraseDups).filter fun b => !(p.descs.any fun e => e.1 == b)
    bs.map fun b => (b, beamSum c ((p.weightsOf bad b).filter fun x => !bit c.blank x.1))

/-- HRN and BTN registers after a pick (R210, R212). -/
def Device.beamStats (d : Device) (p : BeamPick) (c : CreelSlot) (outs : List BeamOut) : Device :=
  let d := (List.range 64).foldl (fun d h =>
    let n := ((List.range 64).filter fun s => !bit c.blank (64 * h + s)).length
    (d.set (HRN_STAT.unblanked h) n).put (HRN_STAT.blending h) p.mix.isSome) d
  let all := (outs.map fun o => (o.beam, o.samples)) ++ d.fadingBeams p c
  let peak := all.foldl (fun (m : Nat × Nat) e =>
    let v := peakOf e.2
    if m.1 < v ∨ (m.1 = v ∧ v ≠ 0 ∧ e.1 < m.2) then (v, e.1) else m) (0, 0)
  let cnt (k : Nat) : Nat := (outs.filter fun o => descClass o.desc == k).length
  let d := (d.set BTN_PEAK.value peak.1).set BTN_PEAK_BEAM.beam peak.2
  ((d.set BTN_CLASSES.voltage (cnt 0)).set BTN_CLASSES.zoom (cnt 1)).set BTN_CLASSES.power (cnt 2)

/-- HRN and BTN registers after a pick with no draft woven: every port is blanked (04 R94), and no beam is enabled. -/
def Device.idleBeams (d : Device) : Device :=
  let d := (List.range 64).foldl (fun d h => (d.set (HRN_STAT.unblanked h) 0).put (HRN_STAT.blending h) false) d
  let d := (d.set BTN_PEAK.value 0).set BTN_PEAK_BEAM.beam 0
  ((d.set BTN_CLASSES.voltage 0).set BTN_CLASSES.zoom 0).set BTN_CLASSES.power 0

/-- The pick's voltage-beam blocks are queued (R207, R209). -/
def Device.sendVoltage (d : Device) (p : BeamPick) (outs : List BeamOut) : Device :=
  outs.foldl (fun d o =>
    if descClass o.desc ≠ 0 then d
    else
      let (blk, sat) := voltBlock p o
      (d.add BTN_SAT.count sat).offer (Sparse.get (fun _ => 0) p.refs o.beam) blk) d

/-! ### Clears -/

/-- What HRN_CLR clears. -/
def Device.hrnClr (d : Device) (h : Nat) : Device := (d.set (HRN_WECC.corrected h) 0).set (HRN_WECC.uncorrected h) 0

/-- HRN_CLR (R210). -/
def execHrnClr (h : Fin 64) (s : State) : Host.Outcome State Fault Refusal :=
  s.act fun d => d.hrnClr h.val

/-- What BTN_CLR clears. -/
def Device.btnClr (d : Device) : Device := (d.set BTN_SAT.count 0).set BTN_ROUTE_ERR.route_err 0

/-- BTN_CLR (R212). -/
def execBtnClr (s : State) : Host.Outcome State Fault Refusal :=
  s.act fun d => d.btnClr

end Sys2Proof.Machine
end

