-- ==== Sys2Proof/Machine/LoomOps.lean ====
section
/-! DEFINITION. Sheds at work: where a shed's sums lie, the spill queues and the spill log (06 R159 to R162, 10 R275),
shed-end dumps (06 R168, R169), integration periods (06 R165, R166), ABSENT passes (10 R276). -/

namespace Sys2Proof.Machine

/-! ### Sheds and periods -/

/-- The shed number of the shed `r`: PN >> s (02 R34). -/
def ShedRef.number (r : ShedRef) : Nat := r.start % 2 ^ 48 / 2 ^ r.log2

/-- The sheds whose sums a bank still holds: in progress, dumping, and those whose late dumps wait. -/
def Sheds.banked (x : Sheds) : List ShedRef := x.cur.toList ++ x.ending.toList ++ x.late.map fun l => l.shed

/-- The sheds whose sums are not yet complete in attached memory: those in banks, and those waiting for a replay. -/
def Sheds.all (x : Sheds) : List ShedRef := x.banked ++ x.waiting

/-- The shed that begins at pick `start`. -/
def Sheds.find (x : Sheds) (start : Nat) : Option ShedRef := x.all.find? fun r => r.start == start

/-- Changes the shed that begins at `start`. -/
def Sheds.edit (x : Sheds) (start : Nat) (f : ShedRef → ShedRef) : Sheds :=
  let g (r : ShedRef) : ShedRef := if r.start = start then f r else r
  { x with cur := x.cur.map g, ending := x.ending.map g, waiting := x.waiting.map g,
           late := x.late.map fun l => { l with shed := g l.shed } }

/-- The key of a period. -/
def periodKey (ent num : Nat) : Nat := ent + 4096 * num

/-- The ended period `e` is the one that shed `r` belongs to. -/
def EndedPeriod.owns (e : EndedPeriod) (r : ShedRef) : Bool :=
  e.base == r.base && e.per.num == r.num && ahead r.start e.per.first && ahead e.per.last r.start

/-- A period of which nothing is known. -/
def Period.cold : Period :=
  { num := 0, n := 0, started := 0, done := 0, first := 0, last := 0, pick0 := 0, changed := false, absent := [],
    replayed := false, memErr := [], apuFault := false }

/-- Changes the period that shed `r` belongs to: an ended one of its matrix, else the open one. -/
def Sheds.editPeriod (x : Sheds) (r : ShedRef) (f : Period → Period) : Sheds :=
  if x.ended.any fun e => e.owns r then
    { x with ended := x.ended.map fun e => if e.owns r then { e with per := f e.per } else e }
  else
    let p := Sparse.get (fun _ => Period.cold) x.periods (periodKey r.ent r.num)
    { x with periods := Sparse.put (fun _ => Period.cold) x.periods (periodKey r.ent r.num) (f p) }

/-- Marks passes of the shed's period as holding replaced elements (06 R175 mem_err). -/
def Device.markMemErr (d : Device) (r : ShedRef) (ks : List Nat) : Device :=
  { d with sheds := d.sheds.editPeriod r fun p => { p with memErr := (p.memErr ++ ks).eraseDups } }

/-- Updates of the shed `r` wait (06 R171): its products are kept, and its buffer is being read out and cleared, or holds an
earlier period that has still to be read out, ended or with a shed that still waits for its replay. -/
def Device.bufferBusy (d : Device) (r : ShedRef) : Bool :=
  r.keeps && (d.sheds.readouts.any (fun x => x.base == r.base) || d.sheds.ended.any (fun e => e.base == r.base && !e.owns r) ||
    d.sheds.periods.any fun e => e.2.started != 0 && entBuf d.draft (e.1 % 4096) (e.2.num % 2) == r.base && e.2.num != r.num &&
      ahead r.start e.2.first)

/-- A replay of the shed that begins at `start` runs or waits. -/
def Device.replayOf (d : Device) (start : Nat) : Bool := d.jrn.replays.any fun r => r.shed.start == start

/-- The queue references of the woven draft's records: the 512 passes, then the autocorrelations. -/
def Device.recordRefs (d : Device) : List Nat := (List.range 513).map fun k => recordRef d.draft k

/-! ### The spill log (10 R275) -/

/-- The size of a log area. -/
def logSize (log2 : Nat) : Nat := 64 + 16 * (1024 * 2 ^ log2 + 69632)

/-- The area of the shed `r`. -/
def ShedRef.logArea (r : ShedRef) : Nat := r.slog + r.number % 16 * logSize r.log2

/-- The entries that the area of `r` holds for it: none while its header names another shed (log 9). -/
def Device.logCount (d : Device) (r : ShedRef) : Nat :=
  let a := r.logArea
  if ofBe (d.bytes a 8) = r.number ∧ ofBe (d.bytes (a + 8) 8) = r.start / 2 ^ 48 then ofBe (d.bytes (a + 16) 8) else 0

/-- Appends an entry for a spill of loom `k`. -/
def Device.logSpill (d : Device) (r : ShedRef) (k : Nat) (s : Spill) : Device :=
  let a := r.logArea
  let n := d.logCount r
  let d := d.storeFor .spillLog a (be 8 r.number ++ be 8 (r.start / 2 ^ 48) ++ be 8 (n + 1))
  d.storeFor .spillLog (a + 64 + 16 * n)
    (be 16 (k * 2 ^ 121 + s.pass * 2 ^ 112 + s.word * 2 ^ 98 + low 24 s.re * 2 ^ 74 + low 24 s.im * 2 ^ 50))

/-- The address of the element of word `w` of pass `k` in the matrix at `base` (06 R164). -/
def elemAddr (base k w : Nat) : Nat := base + 196608 * k + 12 * w

/-- The passes whose elements lie in the lines that the element of word `w` of pass `k` touches; 512: the autocorrelations. -/
def linePasses (base k w : Nat) : List Nat :=
  let a := elemAddr base k w / 64 * 64 - base
  let b := (elemAddr base k w + 11) / 64 * 64 + 63 - base
  [min (a / 196608) 512, min (b / 196608) 512].eraseDups

/-- An atomic add for the shed `r` with its consequence for the period's records (06 R167, R169). -/
def Device.addFor (d : Device) (r : ShedRef) (k w : Nat) (re im : Int) (fray : Bool) (count : Nat) : Device :=
  let (bad, d) := d.addElem r.base (elemAddr r.base k w) re im fray count
  if bad then d.markMemErr r (linePasses r.base k w) else d

/-- The negation of every log entry of `r` that satisfies `sel` (loom, pass) is added into its matrix. The entries of a
poisoned line are not negated, and `ks` are the passes whose records then carry mem_err and fray (17 R481). -/
def Device.negateLog (d : Device) (r : ShedRef) (ks : List Nat) (sel : Nat → Nat → Bool) : Device :=
  if !r.keeps then d
  else
    let a := r.logArea + 64
    let d := d.enters .spillLog r.logArea (64 + 16 * d.logCount r) false false
    (List.range (d.logCount r)).foldl (fun d j =>
      let x := ofBe (d.bytes (a + 16 * j) 16)
      if d.poisoned (a + 16 * j) 16 then (d.delivered (a + 16 * j) 16).markMemErr r (ks ++ ks.map fun k => 1024 + k)
      else if sel (bits x 121 7) (bits x 112 9) then
        (d.addFor r (bits x 112 9) (bits x 98 14) (-(sx 24 (x / 2 ^ 74))) (-(sx 24 (x / 2 ^ 50))) false 0).enters .negate
          (elemAddr r.base (bits x 112 9) (bits x 98 14)) 12 true false
      else d) d

/-! ### Spill queues -/

/-- No queue holds a spill of the shed that begins at `start`, and its last pick has been computed (06 R162). -/
def Device.drained (d : Device) (r : ShedRef) : Bool :=
  ahead d.pn (r.stop + 1) && !(d.looms.any fun e => e.2.spills.any fun s => s.shed == r.start)

/-- Discards the queued spills that satisfy `p` of loom `k`. -/
def Device.dropSpills (d : Device) (k : Nat) (p : Spill → Bool) : Device :=
  let l := d.loom k
  if l.spills.any p then
    let keep := l.spills.filter fun s => !p s
    (d.setLoom k { l with spills := keep }).set (LOM_SPILLQ.occupancy k) keep.length
  else d

/-- Negations of ABSENT passes whose shed's drain has ended (10 R276) and whose buffer is free (06 R171). -/
def Device.settleNegations (d : Device) : Device :=
  d.sheds.negate.foldl (fun d e =>
    match d.sheds.find e.1 with
    | none => { d with sheds := { d.sheds with negate := d.sheds.negate.erase e } }
    | some r =>
      if d.drained r ∧ !d.bufferBusy r then
        let d := { d with sheds := { d.sheds with negate := d.sheds.negate.erase e } }
        d.negateLog r [e.2] fun _ k => k == e.2
      else d) d

/-! ### Banks -/

/-- Clears region `reg` of bank `b` of loom `k`. -/
def Device.clearRegion (d : Device) (k : Nat) (b : Bool) (reg : Nat) : Device :=
  let l := d.loom k
  d.setLoom k { l.setBank b (Sparse.keep (fun x => x / 16384 != reg) (l.bank b)) with
    lost := l.lost.filter fun e => !(e.1 == b && e.2 / 16384 == reg) }

/-- Clears bank `b` of loom `k`, its own regions and those it lends. -/
def Device.clearBank (d : Device) (k : Nat) (b : Bool) : Device :=
  d.setLoom k { (d.loom k).setBank b [] with lost := (d.loom k).lost.filter fun e => e.1 != b }

/-- The auto-power unit's closed count, one of `fix`, equals S for both inputs of the baseline of word `w` of pass `pass`: a
count of zero is corrected (R158). No `fix` says that the bank holds only part of the shed. -/
def ShedRef.fullCount (r : ShedRef) (fix : Option (Sparse Nat)) (pass w : Nat) : Bool :=
  match fix, cellInputs pass (w / 128) (w % 128) with
  | some counts, some (i, j) =>
    Sparse.get (fun _ => 0) counts i == 2 ^ r.log2 && Sparse.get (fun _ => 0) counts j == 2 ^ r.log2
  | _, _ => false

/-- The words of pass `pass` that the bank does not list and whose add still changes something: those that the correction of
R158 makes 32,768 (a count that is zero after S unblanked picks has wrapped, so S is 32,768), and those whose element lies in a
poisoned line (R169). The words of idle cells are none of them (R164). -/
def Device.bareWords (d : Device) (r : ShedRef) (pass : Nat) (fix : Option (Sparse Nat)) (listed : List Nat) : List Nat :=
  let a := elemAddr r.base pass 0
  let hurt := d.poison.any fun l => decide (a < 64 * (l + 1)) && decide (64 * l < a + 196608)
  let wrapped := fix.isSome && r.log2 == 15
  if !hurt && !wrapped then []
  else (List.range 16384).filter fun w =>
    (cellInputs pass (w / 128) (w % 128)).isSome && !listed.contains w &&
      ((hurt && d.poisoned (elemAddr r.base pass w) 12) || (wrapped && r.fullCount fix pass w))

/-- Adds the words `ws` of a region into pass `pass` of the matrix of `r`, and every other word of the region, which is zero
(06 R168), with the correction of R158 by the counts `fix`. -/
def Device.dumpWords (d : Device) (r : ShedRef) (pass : Nat) (fix : Option (Sparse Nat)) (ws : Sparse BobWord) : Device :=
  let ws := ws.filter fun e => (cellInputs pass (e.1 / 128) (e.1 % 128)).isSome
  let bare := (d.bareWords r pass fix (ws.map Prod.fst)).map fun w => (w, BobWord.zero)
  let d := d.enters .shedDump (elemAddr r.base pass 0) 196608 true false
  ((ws ++ bare).mergeSort fun a b => decide (a.1 ≤ b.1)).foldl (fun d e =>
    let full := e.2.count == 0 && r.fullCount fix pass e.1
    d.addFor r pass e.1 e.2.re e.2.im e.2.fray (if full then 32768 else e.2.count)) d

/-- A word of region `reg` of bank `b` that pass `pass` uses stands replaced after an uncorrectable error (06 R169). -/
def Loom.hurt (l : Loom) (b : Bool) (reg pass : Nat) : Bool :=
  l.lost.any fun e => e.1 == b && e.2 / 16384 == reg && (cellInputs pass (e.2 % 16384 / 128) (e.2 % 128)).isSome

/-- Adds region `reg` of bank `b` of loom `k` into pass `pass` of the matrix of `r`: the record that takes a replaced word has mem_err
set (R169, R175). -/
def Device.dumpRegion (d : Device) (r : ShedRef) (k : Nat) (b : Bool) (reg pass : Nat) (fix : Option (Sparse Nat)) : Device :=
  let d := if (d.loom k).hurt b reg pass then d.markMemErr r [pass] else d
  let own := ((d.loom k).bank b).filter fun e => e.1 / 16384 == reg
  d.dumpWords r pass fix (own.map fun e => (e.1 % 16384, e.2))

/-- LOM_FRAY shows the frayed words of the bank that has just been dumped (R180). -/
def Device.showFrays (d : Device) (k : Nat) (ws : Sparse BobWord) : Device :=
  d.set (LOM_FRAY.last_bank k) (ws.filter fun e => e.2.fray).length

/-- Region `reg` of bank `b` of loom `k` holds sums that have still to be dumped; a replaying spare holds them in bank 0. -/
def Device.regionHeld (d : Device) (k : Nat) (b : Bool) (reg : Nat) : Bool :=
  let of (r : ShedRef) : Bool := r.bank == b && r.map.any fun e => e.1 == k && e.2.1 == reg
  d.sheds.cur.any of || (d.sheds.ending.any of && !d.sheds.dumped.contains k) ||
    d.sheds.late.any (fun l => of l.shed && l.looms.contains k) ||
    d.jrn.replays.any fun r => r.spare == some k && !b && r.slots.any fun e => e.1 == reg

/-- A bobbin word is lost (06 R169): it is counted and replaced, and the record that takes it will carry mem_err; the fourth since
cold reset clears bobbin_ok (17 R482). It answers whether bobbin_ok has just cleared. A quiesce that meets one fails (10 R291).
DEDUCED (log 73): a word that was not frayed has become frayed and counts in LOM_FRAY_TOTAL; a word of a region that holds no sums
stays cleared (06 R155). -/
def Device.bobbinLost (d : Device) (k : Nat) (b : Bool) (reg w : Nat) : Bool × Device :=
  let l := { d.loom k with eccU := (d.loom k).eccU + 1 }
  let d := (d.setLoom k l).inc (LOM_BOBBIN_ECC.uncorrected k)
  let d := if !d.regionHeld k b reg then d
    else
      let was := (l.word b (16384 * reg + w)).fray
      let d := d.setLoom k { l.setWordOf b (16384 * reg + w) { re := 0, im := 0, fray := true, count := 0 } with
        lost := ((b, 16384 * reg + w) :: l.lost).eraseDups }
      if was then d else d.inc (LOM_FRAY_TOTAL.frays k)
  let d := if d.jrn.quiesced = some false then { d with jrn := { d.jrn with quiesceBad := true } } else d
  if l.eccU = 4 ∧ d.flag (LOM_ROLE.bobbin_ok k) then (true, d.put (LOM_ROLE.bobbin_ok k) false) else (false, d)

/-! ### ABSENT passes (10 R276) -/

/-- Clears every region that holds pass `k` for the shed `r`; a shed that waits for a replay holds none. -/
def Device.clearPass (d : Device) (r : ShedRef) (k : Nat) : Device :=
  if d.sheds.waiting.any fun x => x.start == r.start then d
  else r.map.foldl (fun d e => if e.2.2 = k then d.clearRegion e.1 r.bank e.2.1 else d) d

/-- Makes passes ABSENT in the shed that begins at `start` after accumulation has begun. -/
def Device.makeAbsent (d : Device) (start : Nat) (ks : List Nat) : Device :=
  match d.sheds.find start with
  | none => d
  | some r =>
    let ks := ks.filter fun k => !r.absent.contains k
    let d := ks.foldl (fun d k => d.clearPass r k) d
    let d := (List.range 68).foldl (fun d k => d.dropSpills k fun s => s.shed == start && ks.contains s.pass) d
    let d := { d with sheds := (d.sheds.edit start fun r => { r with absent := r.absent ++ ks }) }
    let d := { d with sheds := { d.sheds with negate := d.sheds.negate ++ ks.map fun k => (start, k) } }
    let d := (ks.mergeSort fun a b => decide (a ≤ b)).foldl (fun d k => d.ledger 12 d.pn (be 2 k ++ be 8 r.number)) d
    d.settleNegations

/-! ### The end of a shed -/

/-- Every dump of the shed has ended (10 R287): SHED_DONE is written, and its integration period counts it. `due` says that a
replay has completed it, so that a period it ends takes its place among the held ones at once (10 R282). -/
def Device.countShed (d : Device) (r : ShedRef) (due : Bool) : Device :=
  let d := d.ledger 2 d.pn (be 8 r.number ++ be 2 r.chan)
  if !r.keeps then d
  else
    let d := { d with sheds := d.sheds.editPeriod r fun p =>
      { p with done := p.done + 1,
               absent := r.absent.foldl (fun m k => Sparse.put (fun _ => 0) m k (Sparse.get (fun _ => 0) m k + 1)) p.absent } }
    let p := Sparse.get (fun _ => Period.cold) d.sheds.periods (periodKey r.ent r.num)
    if p.num = r.num ∧ p.n ≠ 0 ∧ p.done = p.n then
      let e : EndedPeriod := { ent := r.ent, chan := r.chan, base := r.base, log2 := r.log2, cut := false, per := p,
                               queues := d.recordRefs, due := due }
      { d with sheds := { d.sheds with
          periods := Sparse.put (fun _ => Period.cold) d.sheds.periods (periodKey r.ent r.num) Period.cold,
          ended := d.sheds.ended ++ [e] } }
    else d

/-- The owners whose banks of `r` have still to be dumped. -/
def Device.owing (d : Device) (r : ShedRef) : List Nat :=
  ((r.map.map fun e => e.1).eraseDups).filter fun k => !d.sheds.dumped.contains k

/-- When the dumping shed has no dump left, it is done, or waits for its replay (R178, R282). -/
def Device.finishShed (d : Device) : Device :=
  match d.sheds.ending with
  | none => d
  | some r =>
    if !ahead d.pn (r.stop + 2) ∨ !d.drained r ∨ !d.sheds.apuDone ∨ !(d.owing r).isEmpty then d
    else
      let d := d.settleNegations
      let d := { d with sheds := { d.sheds with ending := none, dumping := [], dumped := [] } }
      if d.replayOf r.start then { d with sheds := { d.sheds with waiting := d.sheds.waiting ++ [r] } }
      else d.countShed r false

/-- A shed that waited for a replay which is over: it is done once no other replay of it is left. -/
def Device.finishWaiting (d : Device) (start : Nat) : Device :=
  if d.replayOf start then d
  else match d.sheds.waiting.find? fun r => r.start == start with
    | none => d.finishShed
    | some r => ({ d with sheds := { d.sheds with waiting := d.sheds.waiting.filter fun x => x.start != start } }).countShed r true

/-- The APU adds the sums that `a` has closed into the autocorrelation entries of the shed `r` (R168). -/
def Device.addApu (d : Device) (r : ShedRef) (a : Apu) : Device :=
  if !r.keeps then d
  else
    let d := (List.range 4096).foldl (fun d i =>
      let n := Sparse.get (fun _ => 0) a.closedSums i
      let c := Sparse.get (fun _ => 0) a.closedCounts i
      let f := a.closedFrayed.contains i
      if n = 0 ∧ c = 0 ∧ !f ∧ !d.poisoned (r.base + 100663296 + 8 * i) 8 then d
      else
        let (bad, d) := d.addAuto r.base i n c f
        if bad then d.markMemErr r [512] else d) d
    let d := d.enters .shedDump (r.base + 100663296) 32768 true false
    if a.closedFault then { d with sheds := d.sheds.editPeriod r fun p => { p with apuFault := true } } else d

/-- The APU's dump of the ending shed, from time 2 on, unless its buffer is busy (R171). -/
def Device.apuDump (d : Device) : Device :=
  match d.sheds.ending with
  | none => d
  | some r =>
    if d.sheds.apuDone ∨ !ahead d.pn (r.stop + 2) ∨ d.bufferBusy r then d
    else (({ d with sheds := { d.sheds with apuDone := true } }).addApu r d.apu).finishShed

/-- What holds the dumps of the ending shed from time 2 on (R162, R171, R180): when its drain ended, and whether its buffer was
busy. -/
def Device.noteDrain (d : Device) : Device :=
  match d.sheds.ending with
  | none => d
  | some r =>
    if !ahead d.pn (r.stop + 2) then d
    else
      let x := d.sheds
      let ended := if x.drainEnd.isNone && d.drained r then some d.pn else x.drainEnd
      { d with sheds := { x with drainEnd := ended, bufHeld := x.bufHeld || d.bufferBusy r } }

/-- LOM_DUMP_STAT shows what the dump of loom `k` waited for. -/
def Device.dumpWaits (d : Device) (r : ShedRef) (k : Nat) : Device :=
  let from_ := match d.sheds.drainEnd with
    | some p => p
    | none => d.pn
  (d.set (LOM_DUMP_STAT.drain_wait k) (satU 4 ((from_ + 2 ^ 64 - (r.stop + 2)) % 2 ^ 64))).put (LOM_DUMP_STAT.buf_wait k)
    d.sheds.bufHeld

/-- Loom `k`'s bank of the shed `r` is dumped: every region it holds is added, the bank is cleared, frayed words are counted.
LOM_DUMP_STAT takes the low 15 bits of the pick at which the dump ended: DESIGN CHOICE (log 74) for a late one. -/
def Device.dumpBank (d : Device) (r : ShedRef) (counts : Sparse Nat) (k : Nat) : Device :=
  let mine := r.map.filter fun e => e.1 == k
  let bank := (d.loom k).bank r.bank
  let d := if !r.keeps then d
    else mine.foldl (fun d e =>
      if r.absent.contains e.2.2 then d else d.dumpRegion r k r.bank e.2.1 e.2.2 (if r.part.contains (16 * k + e.2.1) then none else some counts)) d
  let d := (d.clearBank k r.bank).showFrays k bank
  d.set (LOM_DUMP_STAT.dump_end k) ((d.pn + 2 ^ 64 - r.stop) % 2 ^ 64)

/-- Loom `k`'s dump of the ending shed ends. -/
def Device.dumpLoom (d : Device) (r : ShedRef) (k : Nat) : Device :=
  let d := (d.dumpBank r d.apu.closedCounts k).put (LOM_STAT.dumping k) false
  let d := { d with sheds := { d.sheds with dumped := k :: d.sheds.dumped, dumping := d.sheds.dumping.erase k } }
  d.finishShed

end Sys2Proof.Machine
end

