-- ==== Sys2Proof/Machine/Records.lean ====
section
/-! DEFINITION. Visibility and autocorrelation records (06 R170 to R178): canonical order, layouts, the order in which they
are queued, and records held by a replay (10 R282). -/

namespace Sys2Proof.Machine

/-- The words of pass `k`'s area in canonical order (R173). -/
def canonWords (k : Nat) : List Nat :=
  if (passBlocks k).2.2 then
    let xy := (List.range 128).flatMap fun x => (List.range (127 - x)).map fun i => (x, x + 1 + i)
    (xy.map fun p => 128 * p.1 + p.2) ++ xy.map fun p => 128 * p.2 + p.1
  else List.range 16384

/-- Flags of a record (R175), gap, diag and absent apart. -/
def EndedPeriod.flags (e : EndedPeriod) (absent gap diag memErr apu : Bool) : Nat :=
  (if absent then 1 else 0) + (if gap then 2 else 0) + (if diag then 4 else 0) + (if e.per.replayed then 8 else 0) +
  (if e.cut then 16 else 0) + (if memErr then 32 else 0) + (if apu then 64 else 0) + (if e.per.changed then 128 else 0)

/-- A record (R174): its header and its elements' bytes. -/
def EndedPeriod.build (e : EndedPeriod) (kind flags pass a b absent n frays : Nat) (body : List Byte) : List Byte :=
  let p := e.per
  let hdr := be 2 kind ++ be 1 1 ++ be 1 flags ++ be 2 e.chan ++ be 2 pass ++ be 8 p.first ++ be 8 p.last ++ be 1 a ++
    be 1 b ++ be 1 e.log2 ++ be 1 0 ++ be 2 p.done ++ be 2 absent ++ be 4 n ++ be 4 frays ++ be 2 p.pick0 ++ be 2 p.num ++
    be 16 0
  hdr ++ be 4 (crc32c (hdr ++ body)) ++ body

/-- The visibility record of pass `k`; an element in a poisoned line is delivered lost (R169). -/
def Device.visRecord (d : Device) (e : EndedPeriod) (k : Nat) : List Byte :=
  let (a, b, diag) := passBlocks k
  let gone := Sparse.get (fun _ => 0) e.per.absent k
  if e.per.done ≤ gone then
    e.build 0x5649 (e.flags true false diag (e.per.memErr.contains k) false) k a b gone 0 0 []
  else
    let at_ (w : Nat) : Elem × Bool :=
      let x := elemAddr e.base k w
      let bad := d.poisoned x 12
      let v := if bad then Elem.lost else Elem.dec (d.bytes x 12)
      ({ v with fray := v.fray || e.per.memErr.contains (1024 + k) }, bad)
    let xs := (canonWords k).map at_
    let bad := e.per.memErr.contains k || xs.any fun x => x.2
    let frays := (xs.filter fun x => x.1.fray).length
    e.build 0x5649 (e.flags false (decide (0 < gone)) diag bad false) k a b gone xs.length frays
      (xs.flatMap fun x => x.1.enc)

/-- The autocorrelation record (R176). -/
def Device.autoRecord (d : Device) (e : EndedPeriod) : List Byte :=
  let at_ (i : Nat) : Nat × Bool :=
    let x := e.base + 100663296 + 8 * i
    if d.poisoned x 8 then (2 ^ 23, true) else (ofBe (d.bytes x 8), false)
  let xs := (List.range 4096).map at_
  let bad := e.per.memErr.contains 512 || xs.any fun x => x.2
  let frays := (xs.filter fun x => bit x.1 23).length
  e.build 0x4155 (e.flags false false false bad e.per.apuFault) 0xFFFF 0 0 0 4096 frays (xs.flatMap fun x => be 8 x.1)

/-- The records of an ended period are queued in order, PERIOD_DONE is written, and the readout starts (R170, R178). -/
def Device.queueRecords (d : Device) (e : EndedPeriod) : Device :=
  let d := { d with sheds := { d.sheds with ended := d.sheds.ended.erase e } }
  let d := d.offer (e.queues.getD 512 0) (d.autoRecord e)
  let d := (List.range 512).foldl (fun d k => d.offer (e.queues.getD k 0) (d.visRecord e k)) d
  let d := (d.readFor .readout e.base 100696064).ledger 3 d.pn (be 2 e.chan ++ be 2 e.per.num ++ be 1 (e.flags false false false false false))
  { d with sheds := { d.sheds with readouts := d.sheds.readouts ++ [{ ent := e.ent, buf := e.per.num % 2, base := e.base }] } }

/-- A replay that runs or waits holds the period's records: it ends at or after the replayed shed's end (10 R282). -/
def Device.holds (d : Device) (e : EndedPeriod) : Bool :=
  d.jrn.replays.any fun r => ahead (e.per.last + 1) r.shed.stop

/-- The records of `e` may be queued: its PERIOD_END has come, its last shed is done, no replay holds it, and no shed of
before its end still waits for a late dump (R178, 10 R282). -/
def Device.ready (d : Device) (e : EndedPeriod) : Bool :=
  e.due && e.per.done == e.per.started && !d.holds e && !d.sheds.late.any fun l => ahead e.per.last l.shed.start

/-- The ended periods in the order in which they ended. -/
def Sheds.inOrder (x : Sheds) : List EndedPeriod := x.ended.mergeSort fun a b => ahead b.per.last a.per.last

/-- Ended periods are queued in the order in which they ended, as far as they are ready (R178, 10 R282). -/
def Device.releaseHeld (d : Device) : Device :=
  (d.sheds.inOrder.takeWhile d.ready).foldl (fun d e => d.queueRecords e) d

/-- PERIOD_END (R170): the oldest ended period of the entry queues its records, or waits for those before it and for the
replays that hold it. -/
def execPeriodEnd (ent : Nat) (s : State) : Host.Outcome State Fault Refusal :=
  s.act fun d =>
    match d.sheds.inOrder.find? fun e => e.ent == ent && !e.due && e.per.done == e.per.started with
    | none => d
    | some e =>
      let ended := d.sheds.ended.map fun x => if x = e then { x with due := true } else x
      { d with sheds := { d.sheds with ended := ended } }.releaseHeld

end Sys2Proof.Machine
end

