-- ==== Sys2Proof/Machine/Placement.lean ====
section
/-! DEFINITION. Which loom computes which pass (05 R138 to R150, R544): roles, placement, retirement, re-placement, the
decision to stretch (02 R37), and replays (10 R277 to R283) from their start to their end or abandonment. -/

namespace Sys2Proof.Machine

/-! ### Roles and slots -/

/-- The role of physical loom `k`: 0 ACTIVE, 1 SPARE, 2 REPLAY, 3 RETIRED, 4 LENDING. -/
def Device.role (d : Device) (k : Nat) : Nat := d.get (LOM_ROLE.role k)

/-- The free spares, ascending. -/
def Device.freeSpares (d : Device) : List Nat := (List.range 68).filter fun k => d.role k == 1

/-- The lendable bobbins, ascending (R147). -/
def Device.lendable (d : Device) : List Nat :=
  (List.range 68).filter fun k => (d.role k == 3 || d.role k == 4) && d.flag (LOM_ROLE.bobbin_ok k)

/-- The slots of loom `k` that hold passes: slot and pass. -/
def Device.slotsOf (d : Device) (k : Nat) : List (Nat × Nat) :=
  (List.range 9).filterMap fun j =>
    let e := d.get (LOM_PASS.entry k j)
    if bit e 31 then some (j, bits e 16 9) else none

/-- The bobbin and region that pass `n` in slot `j` of loom `k` adds into (R133, R149). -/
def Device.regionOf (d : Device) (k j n : Nat) : Nat × Nat :=
  if d.flag (CRL_PLACE.lent n) then (d.get (CRL_PLACE.lender n), d.get (CRL_PLACE.region n)) else (k, j)

/-- The slots that the looms compute in an interval, by slot, then by loom. -/
def Device.workNow (d : Device) : List WorkSlot :=
  (List.range 9).flatMap fun j => (List.range 68).filterMap fun k =>
    let e := d.get (LOM_PASS.entry k j)
    if d.role k = 0 ∧ bit e 31 then
      let o := d.regionOf k j (bits e 16 9)
      some { loom := k, slot := j, pass := bits e 16 9, owner := o.1, region := o.2 }
    else none

/-- CRL_STATE, CRL_ABSENT and slots_live follow the placement. -/
def Device.crlStat (d : Device) : Device :=
  let count (p : Nat → Bool) : Nat := ((List.range 512).filter p).length
  let d := d.set CRL_STATE.spares_free d.freeSpares.length
  let d := d.set CRL_STATE.working ((List.range 68).filter fun k => d.role k == 0).length
  let d := d.set CRL_STATE.lendable d.lendable.length
  let run := d.jrn.replays.filter fun r => r.spare.isSome
  let d := d.put CRL_STATE.replay_running !run.isEmpty
  let d := d.set CRL_STATE.replays_waiting (d.jrn.replays.length - run.length)
  let d := d.set CRL_ABSENT.by_policy (count fun n => d.get (CRL_PLACE.state n) == 1)
  let d := d.set CRL_ABSENT.orphans (count fun n => d.get (CRL_PLACE.state n) == 2)
  (List.range 68).foldl (fun d k => d.set (LOM_STAT.slots_live k) (d.slotsOf k).length) d

/-- Places pass `n` in slot `j` of loom `k`, with the lent bobbin and region of a slot 8. -/
def Device.placePass (d : Device) (n k j : Nat) (lend : Option (Nat × Nat)) : Device :=
  let d := d.set (LOM_PASS.entry k j) (passEntry n)
  let d := ((d.set (CRL_PLACE.word n) 0).set (CRL_PLACE.physical n) k).set (CRL_PLACE.slot n) j
  match lend with
  | none => d
  | some (o, r) => ((d.put (CRL_PLACE.lent n) true).set (CRL_PLACE.lender n) o).set (CRL_PLACE.region n) r

/-- Pass `n` loses its slot: state 1 ABSENT by policy, 2 orphan. -/
def Device.unplace (d : Device) (n st : Nat) : Device :=
  let k := d.get (CRL_PLACE.physical n)
  let j := d.get (CRL_PLACE.slot n)
  let e := d.get (LOM_PASS.entry k j)
  let d := if bit e 31 ∧ bits e 16 9 = n then d.set (LOM_PASS.entry k j) 0 else d
  (d.set (CRL_PLACE.word n) 0).set (CRL_PLACE.state n) st

/-- The passes that are orphans, ascending. -/
def Device.orphans (d : Device) : List Nat := (List.range 512).filter fun n => d.get (CRL_PLACE.state n) == 2

/-- The next lent bobbin and region: lendable bobbins ascending, each up to eight regions (R149). -/
def Device.nextLend (d : Device) : Option (Nat × Nat) :=
  let used := (List.range 512).filterMap fun n =>
    if d.flag (CRL_PLACE.lent n) then some (d.get (CRL_PLACE.lender n), d.get (CRL_PLACE.region n)) else none
  (d.lendable.flatMap fun k => (List.range 8).map fun r => (k, r)).find? fun x => !used.contains x

/-- Retired looms read LENDING while a region of theirs serves a pass, else RETIRED. -/
def Device.lendRoles (d : Device) : Device :=
  let lenders := (List.range 512).filterMap fun n =>
    if d.flag (CRL_PLACE.lent n) then some (d.get (CRL_PLACE.lender n)) else none
  (List.range 68).foldl (fun d k =>
    if d.role k = 3 ∧ lenders.contains k then d.set (LOM_ROLE.role k) 4
    else if d.role k = 4 ∧ !lenders.contains k then d.set (LOM_ROLE.role k) 3 else d) d

/-! ### Re-placement (R148) -/

/-- Inserts a slot into an ascending list of slots. -/
def insertSlot (x : Nat × Nat) : List (Nat × Nat) → List (Nat × Nat)
  | [] => [x]
  | y :: ys => if x.1 < y.1 ∨ (x.1 = y.1 ∧ x.2 < y.2) then x :: y :: ys else y :: insertSlot x ys

/-- What re-placement works on: the device, the position in the declared order, the orphans, the free ordinary slots and
the free slots 8. -/
structure Replacing where
  dev : Device
  pos : Nat
  orphans : List Nat
  ord : List (Nat × Nat)
  eight : List (Nat × Nat)

/-- Drops passes in the declared order until the orphans fit; the slot of a dropped pass, a slot 8 too, joins the ordinary
slots in order, as R148 has it. -/
def Replacing.drop : Nat → Replacing → Replacing
  | 0, x => x
  | fuel + 1, x =>
    if x.orphans.length ≤ x.ord.length + x.eight.length ∨ 512 ≤ x.pos then x
    else
      let n := x.dev.get (CRL_ORDER.pass_num x.pos)
      let st := x.dev.get (CRL_PLACE.state n)
      let y := { x with pos := x.pos + 1 }
      if st = 1 then Replacing.drop fuel y
      else if st = 2 then Replacing.drop fuel { y with dev := x.dev.unplace n 1, orphans := x.orphans.erase n }
      else
        let s := (x.dev.get (CRL_PLACE.physical n), x.dev.get (CRL_PLACE.slot n))
        Replacing.drop fuel { y with dev := x.dev.unplace n 1, ord := insertSlot s x.ord }

/-- Re-placement at a shed boundary: free spares come into work, DESIGN CHOICE (log 89) showing logical 0 and standin 0, since they
serve no logical loom; with `drop`, passes leave in the declared order until the
orphans fit; `eight` allows slot 8 of working looms, up to eight for each lendable bobbin. -/
def Device.rePlace (d : Device) (drop eight : Bool) : Device :=
  let d := d.freeSpares.foldl (fun d k => ((d.set (LOM_ROLE.role k) 0).set (LOM_ROLE.logical k) 0).put (LOM_ROLE.standin k) false) d
  let working := (List.range 68).filter fun k => d.role k == 0
  let empty (k j : Nat) : Bool := !bit (d.get (LOM_PASS.entry k j)) 31
  let ord := working.flatMap fun k => ((List.range 8).filter fun j => empty k j).map fun j => (k, j)
  let lent := ((List.range 512).filter fun n => d.flag (CRL_PLACE.lent n)).length
  let slots8 := if eight then
      ((working.filter fun k => empty k 8).map fun k => (k, 8)).take (8 * d.lendable.length - lent)
    else []
  let x : Replacing := { dev := d, pos := d.get CRL_ABSENT.order_pos, orphans := d.orphans, ord := ord, eight := slots8 }
  let x := if drop then Replacing.drop 512 x else x
  let d := x.dev.set CRL_ABSENT.order_pos x.pos
  let d := (x.orphans.zip (x.ord ++ x.eight)).foldl (fun d e =>
    d.placePass e.1 e.2.1 e.2.2 (if e.2.2 = 8 then d.nextLend else none)) d
  d.lendRoles.crlStat

/-- Re-placement under the policy in force (R146, R147, R150). -/
def Device.replaceNow (d : Device) : Device :=
  let d := { d with sheds := { d.sheds with replaceDue := false } }
  if d.flag PCK_CFG.stretched ∧ d.get CRL_CFG.policy = 1 then d.rePlace true true
  else if d.tm.stretch.isSome then d.rePlace false false
  else d.rePlace true false

/-! ### The decision to stretch (02 R37, 05 R147) -/

/-- The first qualifying shed boundary at least 16 picks ahead. -/
def Device.stretchBoundary (d : Device) : Option Nat :=
  let s := d.shedLen
  let x0 := roundUp (d.pn + 16) s
  if 2560 ≤ d.period then some x0
  else match d.tm.second with
    | none => none
    | some sec =>
      (List.range 2560).findSome? fun i =>
        let x := x0 + i * s
        if (d.boundaryTime x - sec) % 2560 = 0 then some x else none

/-- A warp port that has received nothing. -/
def WarpPort.cold : WarpPort :=
  { chunk := 0, lastChunkU := 0, frame := none, frameIndex := 0, ended := [], answers := [], lastAccepted := none,
    tieCount := 0, tieGen := 0, tieRun := 0, tieRunBit := false, periods := [], tieWord := 0, tieLine := [] }

/-- Warp port `p`. -/
def Device.port (d : Device) (p : Nat) : WarpPort := Sparse.get (fun _ => WarpPort.cold) d.ports p

/-- Sets warp port `p`. -/
def Device.setPort (d : Device) (p : Nat) (x : WarpPort) : Device :=
  { d with ports := Sparse.put (fun _ => WarpPort.cold) d.ports p x }

/-- A PERIOD word for boundary `b` is due on every port (04 R108, R109); it takes the place of an earlier word for `b`. -/
def Device.periodWords (d : Device) (b period : Nat) : Device :=
  (List.range 64).foldl (fun d p =>
    let x := d.port p
    let rest := x.periods.filter fun w => w.boundary != b
    d.setPort p { x with periods := rest ++ [{ boundary := b, period := period, due := true }] }) d

/-- A weave with period `p` at pick `w` changes the period, or what upstream has been told of it (04 R109): another is in
force just before `w`, or would be from `w` on. -/
def Device.changesPeriod (d : Device) (w p : Nat) : Bool :=
  p != d.periodAt ((w + 2 ^ 64 - 1) % 2 ^ 64) || p != d.periodAt w

/-- What upstream is told when a stretch is decided for boundary `b` (04 R109): the stretch itself, and what it changes in the
words for later boundaries. The word for a weave that has failed or was cancelled carries the stretched period now (12 R352);
a weave still armed that was to keep the period now changes it. -/
def Device.stretchWords (d : Device) (b : Nat) : Device :=
  let armed : Option Nat := match d.drafts.armed with
    | some a => if a.unweave then none else some a.w
    | none => none
  let told (w : PeriodMsg) : PeriodMsg :=
    if ahead w.boundary b ∧ armed ≠ some w.boundary then { w with period := 2560, due := true } else w
  let d := (List.range 64).foldl (fun d p => d.setPort p { d.port p with periods := (d.port p).periods.map told }) d
  let d := d.periodWords b 2560
  match d.drafts.armed with
  | none => d
  | some a =>
    let p := secN d.drafts.staging 1 0 2
    if a.unweave ∨ a.changesP ∨ !ahead a.w b ∨ p = 2560 then d
    else { d with drafts := { d.drafts with armed := some { a with changesP := true } } }.periodWords a.w p

/-- The device decides to stretch (R147): weight sets of sheds from the boundary on are made again, and upstream is told. -/
def Device.decideStretch (d : Device) : Device :=
  let at_ := d.stretchBoundary
  let d := { d with tm := { d.tm with stretch := some { decided := d.pn, at_ := at_ } } }
  let d := d.put CRL_CFG.stretch_wait true
  if 2560 ≤ d.period then d
  else match at_ with
    | none => d
    | some b => (d.stretchWords b).regenerate b

/-- A retirement has left orphans (R146, R147): spares are exhausted, and under PICK_STRETCH the device decides to stretch
when a bobbin can be lent. With no draft woven there is no policy in force. -/
def Device.orphaned (d : Device) : Device :=
  let d := d.put CRL_CFG.exhausted true
  let d := { d with sheds := { d.sheds with replaceDue := true } }
  if d.woven ∧ d.get CRL_CFG.policy = 1 ∧ !d.flag PCK_CFG.stretched ∧ d.tm.stretch.isNone ∧ !d.lendable.isEmpty then d.decideStretch
  else d

/-! ### Placement by a draft and before one (R138, R544) -/

/-- Seats logical loom `l` on physical loom `k`. -/
def Device.seat (d : Device) (l k : Nat) : Device :=
  (((d.set (LOM_ROLE.role k) 0).set (LOM_ROLE.logical k) l).put (LOM_ROLE.standin k) false).set (CRL_LMAP.physical l) k

/-- A logical loom on `named l` for each `l`, or on the lowest-numbered spare when that loom is retired; unused looms that
are not retired are the free spares. `isOut` says that a loom is retired. -/
def Device.seatAll (d : Device) (named : Nat → Nat) : Device :=
  let out (k : Nat) : Bool := d.role k == 3 || d.role k == 4
  let names := (List.range 64).map named
  let spares := (List.range 68).filter fun k => !out k && !names.contains k
  let late := (List.range 64).filter fun l => out (named l)
  let d := (List.range 68).foldl (fun d k =>
    let d := (List.range 9).foldl (fun d j => d.set (LOM_PASS.entry k j) 0) d
    let d := (d.set (LOM_ROLE.logical k) 0).put (LOM_ROLE.standin k) false
    d.set (LOM_ROLE.role k) (if out k then 3 else 1)) d
  let d := (List.range 64).foldl (fun d l =>
    if late.contains l then d.set (CRL_LMAP.physical l) 0x7F else d.seat l (named l)) d
  (late.zip spares).foldl (fun d e => d.seat e.1 e.2) d

/-- The provisional placement (R544). -/
def Device.provisional (d : Device) : Device := (d.seatAll fun l => l).crlStat

/-! ### Retirement (R139, R141 to R145) -/

/-- The logical loom that physical loom `k` serves. -/
def Device.logicalOf (d : Device) (k : Nat) : Option Nat :=
  (List.range 64).find? fun l => d.get (CRL_LMAP.physical l) == k

/-- Loom `k` is RETIRED for `cause`, and the settings store and the ledger say so; a loom that served no logical loom is entered with 0xFFFF. -/
def Device.retire (d : Device) (k cause : Nat) : Device :=
  let l := if d.role k = 0 then (d.logicalOf k).getD 0xFFFF else 0xFFFF
  let d := (List.range 9).foldl (fun d j => d.set (LOM_PASS.entry k j) 0) d
  let d := (((d.set (LOM_ROLE.role k) 3).put (LOM_ROLE.standin k) false).set (LOM_ROLE.logical k) 0).set (LOM_ROLE.cause k) cause
  let d := d.keepSetting fun c => { c with retired := c.retired ++ [(k, cause)] }
  d.ledger 5 d.pn (be 2 k ++ be 2 l ++ be 2 cause)

/-- Spare `t` takes the slots of retired loom `k`, which served `l` (R141). -/
def Device.takeOver (d : Device) (t : Nat) (l : Option Nat) (slots : List (Nat × Nat)) : Device :=
  let d := (d.set (LOM_ROLE.role t) 0).put (LOM_ROLE.standin t) true
  let d := match l with
    | none => d
    | some l => (d.set (LOM_ROLE.logical t) l).set (CRL_LMAP.physical l) t
  slots.foldl (fun d e =>
    let lend := if d.flag (CRL_PLACE.lent e.2) then some (d.get (CRL_PLACE.lender e.2), d.get (CRL_PLACE.region e.2)) else none
    d.placePass e.2 t e.1 lend) d

/-- The slots of a retired loom become orphans (R145). -/
def Device.orphan (d : Device) (l : Option Nat) (slots : List (Nat × Nat)) : Device :=
  let d := match l with
    | none => d
    | some l => d.set (CRL_LMAP.physical l) 0x7F
  (slots.foldl (fun d e => d.unplace e.2 2) d).lendRoles.orphaned

/-- A loom leaves work at a shed boundary for its retire_req (R143, R144). A replaying spare waits for its replay's end. The
interval that begins computes the loom's last pick, so its retirement is noted for a fault in it. -/
def Device.wearRetire (d : Device) (k : Nat) : Device :=
  let r := d.role k
  if r = 2 then d
  else
    let d := { d with sheds := { d.sheds with retireReq := d.sheds.retireReq.erase k } }
    if r = 1 then (d.retire k 2).crlStat
    else if r ≠ 0 then d
    else
      let slots := d.slotsOf k
      let l := d.logicalOf k
      let spares := d.freeSpares
      let d := d.retire k 2
      let d := { d with sheds := { d.sheds with worn := (k, l, spares.head?) :: d.sheds.worn } }
      (match spares with
        | [] => d.orphan l slots
        | t :: _ => d.takeOver t l slots).crlStat

/-! ### Replays (10 R277 to R283) -/

/-- JRN_REPLAY and JRN_REPLAY_PROG follow the replays. -/
def Device.replayStat (d : Device) : Device :=
  let rs := d.jrn.replays
  let waiting := (rs.filter fun r => r.spare.isNone).length
  let d := d.set JRN_REPLAY.waiting (min waiting 7)
  let d := match rs.find? fun r => r.spare.isSome with
    | none => (d.set (JRN_REPLAY.word) (waiting * 2 ^ 14)).set JRN_REPLAY_PROG.word 0
    | some r =>
      let d := ((d.set JRN_REPLAY.logical r.logical).set JRN_REPLAY.physical (r.spare.getD 0)).put JRN_REPLAY.running true
      (d.set JRN_REPLAY_PROG.done r.computed).set JRN_REPLAY_PROG.total (r.last + 1 - r.first)
  d.crlStat.jrnStat

/-- The ledger body of a replay. -/
def Replay.body (r : Replay) : List Byte := be 2 r.logical ++ be 8 r.shed.number ++ be 8 r.first ++ be 8 r.last

/-- The first waiting replay starts when none runs and a spare is free (R277). -/
def Device.startReplay (d : Device) : Device :=
  if d.jrn.replays.any fun r => r.spare.isSome then d.replayStat
  else match d.jrn.replays, d.freeSpares with
    | r :: rs, k :: _ =>
      let d := { d with jrn := { d.jrn with replays := { r with spare := some k } :: rs } }
      let d := d.set (LOM_ROLE.role k) 2
      let d := r.slots.foldl (fun d e => d.set (LOM_PASS.entry k e.1) (passEntry e.2)) d
      let d := (d.put JRN_EVENT.replay_start true).inc JRN_REPLAY_CNT.started
      (d.ledger 6 d.pn r.body).replayStat
    | _, _ => d.replayStat

/-- A spare that has finished or left a replay is free again, its banks cleared (R140). -/
def Device.freeSpare (d : Device) (k : Nat) : Device :=
  let d := (List.range 9).foldl (fun d j => d.set (LOM_PASS.entry k j) 0) d
  let d := d.setLoom k { d.loom k with bank0 := [], bank1 := [], lost := [] }
  (d.dropSpills k fun _ => true).set (LOM_ROLE.role k) 1

/-- A replay is abandoned (R283): its passes are ABSENT in the shed, and what it held is released. -/
def Device.abandon (d : Device) (r : Replay) : Device :=
  let d := { d with jrn := { d.jrn with replays := d.jrn.replays.erase r } }
  let d := match r.spare with
    | none => d
    | some k => d.freeSpare k
  let d := d.makeAbsent r.shed.start (r.slots.map Prod.snd)
  let d := (d.put JRN_EVENT.replay_abandon true).inc JRN_REPLAY_CNT.abandoned
  ((d.ledger 8 d.pn r.body).finishWaiting r.shed.start).releaseHeld

/-- Every pick of `[a, b]` is journalled (R547). -/
def Device.journalled (d : Device) (a b : Nat) : Bool :=
  (List.range (b + 1 - a)).all fun i => (d.jrn.find (a + i)).isSome

/-- The parking area of index `i` (R280). -/
def Device.parkArea (d : Device) (i : Nat) : Nat := memF d.draft 22 6 + 2 ^ 20 * i

/-- At time 2 of the boundary that ends a replayed shed, the takeover spare's bank is copied into a parking area and cleared
(R280). -/
def Device.parkBanks (d : Device) : Device :=
  match d.sheds.ending with
  | none => d
  | some sh =>
    if d.pn ≠ (sh.stop + 2) % 2 ^ 64 then d
    else d.jrn.replays.foldl (fun d r =>
      if r.shed.start ≠ sh.start then d
      else
        let i := ((List.range 4).find? fun i => !(d.jrn.replays.any fun x => x.parked == some i)).getD 0
        let k := r.takeover
        let b := sh.bank
        if !(sh.map.any fun e => e.1 == k) then d
        else
          let a := d.parkArea i
          let hurt := (r.slots.filter fun e => (d.loom k).hurt b e.1 e.2).map Prod.snd
          let d := ((d.loom k).bank b).foldl (fun d e => d.store (a + 8 * e.1) (be 8 e.2.enc))
            ((d.zeroRange a (2 ^ 20)).enters .parking a (2 ^ 20) true false)
          let d := d.clearBank k b
          let d := { d with sheds := d.sheds.edit sh.start fun x => { x with map := x.map.filter fun e => e.1 != k } }
          { d with jrn := { d.jrn with replays := d.jrn.replays.map fun x => if x = r then { x with parked := some i, hurt := hurt } else x } }) d

/-- The words of region `reg` in the parking area of a replay. -/
def Device.parkedWords (d : Device) (i reg : Nat) : Sparse BobWord :=
  (List.range 16384).filterMap fun w =>
    let v := BobWord.dec (ofBe (d.bytes (d.parkArea i + 8 * (16384 * reg + w)) 8))
    if v = BobWord.zero then none else some (w, v)

/-- Dumps a parked bank into the matrix (R281), without the correction of R158; LOM_FRAY of the takeover spare shows its frayed
words. -/
def Device.dumpParked (d : Device) (sh : ShedRef) (r : Replay) : Device :=
  match r.parked with
  | none => d
  | some i =>
    let mine := r.slots.filter fun e => decide (e.1 < 8)
    let words := mine.flatMap fun e => d.parkedWords i e.1
    let d := d.enters .parking (d.parkArea i) (2 ^ 20) false false
    let d := if r.hurt.isEmpty then d else d.markMemErr sh r.hurt
    let d := mine.foldl (fun d e => d.dumpWords sh e.2 none (d.parkedWords i e.1)) d
    d.showFrays r.takeover words

/-- The replay of `r` ends (R281). -/
def Device.endReplay (d : Device) (r : Replay) (spare : Nat) : Device :=
  let sh := (d.sheds.find r.shed.start).getD r.shed
  let ks := r.slots.map Prod.snd
  let d := d.negateLog sh ks fun k _ => k == r.retired
  let d := if sh.keeps then
      let d := d.dumpParked sh r
      let bank := (d.loom spare).bank0
      (r.slots.foldl (fun d e => d.dumpRegion sh spare false e.1 e.2 none) d).showFrays spare bank
    else d
  let d := { d with sheds := d.sheds.editPeriod sh fun p => { p with replayed := p.replayed || sh.keeps } }
  let d := { d with jrn := { d.jrn with replays := d.jrn.replays.erase r } }
  let d := d.freeSpare spare
  let d := (d.put JRN_EVENT.replay_end true).inc JRN_REPLAY_CNT.ended
  let d := (d.ledger 7 d.pn r.body).finishWaiting r.shed.start
  d.releaseHeld.startReplay

/-! ### Contained faults (R141, R142, R144) -/

/-- What loom `k` has summed in the shed in progress `sh` is discarded: the regions of the passes `ks`, those of a lent bobbin
too, and its queued spills; no interval computes on it any more (R139, 10 R277). -/
def Device.discardSums (d : Device) (sh : ShedRef) (k : Nat) (ks : List Nat) : Device :=
  let d := ks.foldl (fun d n => d.clearPass sh n) d
  let d := { d with sheds := d.sheds.edit sh.start fun x => { x with map := x.map.filter fun e => !ks.contains e.2.2 } }
  let d := { d with sheds := { d.sheds with work := d.sheds.work.filter fun w => w.loom != k } }
  d.dropSpills k fun s => s.shed == sh.start

/-- The slots and passes that loom `k` computes in this interval: those of the pick before the current one, which the slots
of the current pick may differ from at a shed boundary. -/
def Device.pastSlots (d : Device) (k : Nat) : List (Nat × Nat) :=
  (d.sheds.work.filter fun w => w.loom == k).map fun w => (w.slot, w.pass)

/-- The replays of the shed in progress for logical loom `l` are abandoned at a further fault (10 R283). -/
def Device.abandonOf (d : Device) (l : Option Nat) : Device :=
  match d.sheds.cur with
  | none => d
  | some sh => (d.jrn.replays.filter fun (r : Replay) => r.shed.start == sh.start && some r.logical == l).foldl
      (fun d r => d.abandon r) d

/-- The shed in progress has lost the sums of the slots `past` of loom `k`, which served `l` (R141, R142, R547): `t` is the
takeover spare, `more` says that a spare is free besides it or a replay runs. A replay recovers them, or they are ABSENT. -/
def Device.recover (d : Device) (k : Nat) (l : Option Nat) (past : List (Nat × Nat)) (t : Option Nat) (more : Bool) : Device :=
  match d.sheds.cur with
  | none => d
  | some sh =>
    let ks := past.map Prod.snd
    let last := (d.pn + 2 ^ 64 - 1) % 2 ^ 64
    match t with
    | none => d.makeAbsent sh.start ks
    | some t =>
      if ks.isEmpty ∨ ks.all (fun n => sh.absent.contains n) then d
      else if !more ∨ !d.journalled sh.start last then d.makeAbsent sh.start ks
      else
        let r : Replay := { logical := l.getD 0, retired := k, spare := none, takeover := t, shed := sh, first := sh.start,
                            last := last, slots := past, staged := 0, computed := 0, computing := false, parked := none, hurt := [] }
        { d with jrn := { d.jrn with replays := d.jrn.replays ++ [r] } }

/-- The takeover spare goes on with the shed in progress from the current pick, in part of its regions only. -/
def Device.joinShed (d : Device) (t : Nat) (slots : List (Nat × Nat)) : Device :=
  match d.sheds.cur with
  | none => d
  | some sh =>
    if d.pn = sh.stop then d
    else
      let es : List (Nat × Nat × Nat) := slots.map fun (e : Nat × Nat) =>
        let o := d.regionOf t e.1 e.2
        (o.1, o.2, e.2)
      { d with sheds := d.sheds.edit sh.start fun x =>
        { x with map := x.map ++ es, part := x.part ++ es.map fun (e : Nat × Nat × Nat) => 16 * e.1 + e.2.1 } }

/-- A replay runs. -/
def Device.replaying (d : Device) : Bool := d.jrn.replays.any fun r => r.spare.isSome

/-- A contained fault of an ACTIVE loom `k` in the current interval (R141, R142, R145, R547; 10 R283). DESIGN CHOICE (log 89): the
abandonment that the fault causes comes first, and the spare that it frees counts as free at the moment of the fault. -/
def Device.activeFault (d : Device) (k : Nat) : Device :=
  let slots := d.slotsOf k
  let past := d.pastSlots k
  let l := d.logicalOf k
  let d := d.abandonOf l
  let spares := d.freeSpares
  let running := d.replaying
  let d := d.retire k 1
  let d := { d with sheds := { d.sheds with retireReq := d.sheds.retireReq.erase k } }
  let d := match d.sheds.cur with
    | none => d
    | some sh => d.discardSums sh k (past.map Prod.snd)
  let d := match spares with
    | [] => d.orphan l slots
    | t :: _ => (d.takeOver t l slots).joinShed t slots
  (d.recover k l past spares.head? (decide (1 < spares.length) || running)).startReplay

/-- A contained fault of loom `k`, retired for wear at the boundary that began this interval (R144): it is handled as the fault.
The spare `t` that took its slots then, if any, is counted with those still free. DEDUCED (log 75): the retirement is entered
again, with cause 1; without a spare the re-placement of that boundary stands. -/
def Device.wornFault (d : Device) (k : Nat) (l t : Option Nat) : Device :=
  let past := d.pastSlots k
  let d := d.abandonOf l
  let more := !d.freeSpares.isEmpty || d.replaying
  let d := (d.set (LOM_ROLE.cause k) 1).keepSetting fun c =>
    { c with retired := c.retired.map fun e => if e.1 = k then (k, 1) else e }
  let d := d.ledger 5 d.pn (be 2 k ++ be 2 (l.getD 0xFFFF) ++ be 2 1)
  let d := { d with sheds := { d.sheds with worn := d.sheds.worn.filter fun e => e.1 != k } }
  let d := match d.sheds.cur with
    | none => d
    | some sh => d.discardSums sh k (past.map Prod.snd)
  (d.recover k l past t more).startReplay

/-- What loom `k`, a spare now, still computes of a shed's last pick, for which it was ACTIVE before a weave: a fault takes it, and as
for any spare no replay is made (R139, R144). -/
def Device.losePast (d : Device) (k : Nat) : Device :=
  let ks := (d.pastSlots k).map Prod.snd
  match d.sheds.cur with
  | none => d
  | some sh => if ks.isEmpty then d else (d.discardSums sh k ks).makeAbsent sh.start ks

/-- The number of physical loom `k` in the register map. -/
def loomBlk (k : Nat) : Blk := .lom (Fin.ofNat 68 k)

/-- A contained fault of physical loom `k`'s cell array or operand path, whatever its role (R141, R144, R544). A retired loom
raises none, but for one that still computes its last pick. Spares are exhausted when a replaying spare is retired while none is
free (R145). -/
def Device.loomFault (d : Device) (k : Nat) : Device :=
  let gone (d : Device) : Device := d.tookAway (loomBlk k)
  match d.role k with
  | 0 => gone (if d.sheds.placed then d.activeFault k else (d.retire k 1).provisional)
  | 1 =>
    let d := (d.retire k 1).losePast k
    gone (if d.sheds.placed then d.crlStat else d.provisional)
  | 2 =>
    let d := if d.freeSpares.isEmpty then d.put CRL_CFG.exhausted true else d
    let d := (d.jrn.replays.filter fun (r : Replay) => r.spare == some k).foldl (fun d r => d.abandon r) d
    gone (((d.retire k 1).losePast k).startReplay)
  | _ => match d.sheds.worn.find? fun e => e.1 == k with
    | none => d
    | some e => d.wornFault k e.2.1 e.2.2

/-- The cell array of loom `k` is at work, or idle but not retired: it can raise a contained fault (R144). -/
def Device.canFault (d : Device) (k : Nat) : Bool :=
  !(d.role k == 3 || d.role k == 4) || d.sheds.worn.any fun e => e.1 == k

/-- bobbin_ok of loom `k` has cleared (17 R482): firmware keeps that, and a LENDING loom stops lending at once. -/
def Device.stopLending (d : Device) (k : Nat) : Device :=
  let d := d.keepSetting fun c => { c with bobOff := (k :: c.bobOff).eraseDups }
  let ks := (List.range 512).filter fun n => d.flag (CRL_PLACE.lent n) && d.get (CRL_PLACE.lender n) == k
  if ks.isEmpty ∧ !d.sheds.work.any (fun w => w.owner == k && w.loom != k) then d.crlStat
  else
    let mine := d.sheds.work.filter fun w => w.owner == k && w.loom != k
    let d := { d with sheds := { d.sheds with work := d.sheds.work.filter fun w => !mine.contains w } }
    let d := match d.sheds.cur with
      | none => d
      | some sh => d.makeAbsent sh.start (mine.map fun (w : WorkSlot) => w.pass)
    let d := ks.foldl (fun d n => d.unplace n 2) d
    let d := { d with sheds := { d.sheds with replaceDue := true } }
    d.lendRoles.crlStat

/-- An uncorrectable bobbin word (06 R169, 17 R482). -/
def Device.bobbinFault (d : Device) (k : Nat) (b : Bool) (reg w : Nat) : Device :=
  let (off, d) := d.bobbinLost k b reg w
  if off then d.stopLending k else d

end Sys2Proof.Machine
end

