-- ==== Sys2Proof/Machine/Looms.lean ====
section
/-! DEFINITION. The commands of looms and bobbins: the end of a pass slot (05 R123, R132), spills drained (06 R161), shed-end
dumps (06 R168), late ones (02 R39), the readout that clears a buffer (06 R170, R171), contained faults (05 R141), replays as they run (10 R278 to R281), and the clears of LOM. -/

namespace Sys2Proof.Machine

/-- The checks of a bobbin access (17 R483): an armed sram_c counts a correction, an armed sram_u loses the first word that a cell
of pass `pass` uses: word 0, or word 1 of a diagonal pass, whose cell (0, 0) idles. -/
def Device.bobbinChecks (d : Device) (owner : Nat) (bank : Bool) (reg pass : Nat) : Device :=
  if !d.testen then d
  else
    let w := if (passBlocks pass).2.2 then 1 else 0
    let detail := (if bank then 131072 else 0) + reg % 8 * 16384 + w
    let (c, d) := d.check (loomBlk owner) 0 false detail
    let d := if c then d.inc (LOM_BOBBIN_ECC.corrected owner) else d
    let (u, d) := d.check (loomBlk owner) 1 false detail
    if u then d.bobbinFault owner bank reg w else d

/-- The checks at the end of slot `j` of loom `k` (R123, 17 R483): whether a contained fault takes the loom. DEDUCED (log 76): a
bad count at a pass end adds one to count_err, whatever the number of cells that show it. -/
def Device.passChecks (d : Device) (k j : Nat) : Bool × Device :=
  if !d.testen then (false, d)
  else
    let (c, d) := d.check (loomBlk k) 2 false j
    let d := if c then d.inc (LOM_CHK.count_err k) else d
    let (o, d) := d.check (loomBlk k) 3 false j
    if c || o then (true, d.loomFault k) else (false, d)

/-- One slot's pass ends on its loom, for the shed in progress. A pass that a fault has just taken from the loom adds
nothing. -/
def Device.passEnd (d : Device) (c : CreelSlot) (w : WorkSlot) : Device :=
  match d.sheds.cur with
  | none => d
  | some r =>
    if !d.sheds.work.contains w then d
    else
      let (bad, d) := d.passChecks w.loom w.slot
      let d := if bad then d else d.bobbinChecks w.owner r.bank w.region w.pass
      if bad ∨ !d.sheds.work.contains w then d
      else d.runPass c w.loom w.owner w.region r.bank w.pass r.start

/-- Pass slot `slot` of the interval ends on every loom that holds a pass in it, by loom: the pass is of the pick before the
current one (R129, R132). -/
def execPassEnd (slot : Fin 9) (s : State) : Host.Outcome State Fault Refusal :=
  s.act fun d =>
    let c := d.pickSlot ((d.pn + 2 ^ 64 - 1) % 2 ^ 64)
    (d.sheds.work.filter fun w => w.slot == slot.val).foldl (fun d w => d.passEnd c w) d

/-- The entry `s` leaves the head of loom `k`'s spill queue (06 R161, R166, R167, 10 R275): it is added into its element and
logged, or discarded when its channel's products are not kept. -/
def Device.takeSpill (d : Device) (k : Nat) (s : Spill) (rest : List Spill) (r : ShedRef) : Device :=
  let (lost, d) := d.check (loomBlk k) 4 false (2 ^ 31)
  let d := (d.setLoom k { d.loom k with spills := rest }).set (LOM_SPILLQ.occupancy k) rest.length
  if lost then d.loomFault k
  else if !r.keeps then d.inc (LOM_SPILL_LOST.discarded k)
  else ((d.addFor r s.pass s.word s.re s.im false 0).enters .spillDrain (elemAddr r.base s.pass s.word) 12 true false).logSpill r k s

/-- The entry at the head of loom `k`'s spill queue with its shed: none while it waits for its buffer, which holds the queue
(06 R171). -/
def Device.spillHead (d : Device) (k : Nat) : Option (Spill × List Spill × ShedRef) :=
  match (d.loom k).spills with
  | [] => none
  | s :: rest => match d.sheds.find s.shed with
    | none => none
    | some r => if d.bufferBusy r then none else some (s, rest, r)

/-- A late shed whose spills have drained and whose buffer is free is dumped (02 R39, 05 R139, 06 R162, R171): the banks that its
looms have kept, and the auto-power sums. -/
def Device.settleOne (d : Device) (l : LateShed) : Device :=
  if d.bufferBusy l.shed ∨ !d.drained l.shed then d
  else
    let r := (d.sheds.find l.shed.start).getD l.shed
    let d := l.looms.foldl (fun d k => d.dumpBank r l.apu.closedCounts k) d
    let d := if l.apuDone then d else d.addApu r l.apu
    let d := { d with sheds := { d.sheds with late := d.sheds.late.filter fun x => x.shed.start != r.start } }
    let d := d.settleNegations
    if d.replayOf r.start then { d with sheds := { d.sheds with waiting := d.sheds.waiting ++ [r] } } else d.countShed r false

/-- Late sheds are dumped as their buffers become free, and the records that waited for them follow. -/
def Device.settleLate (d : Device) : Device :=
  if d.sheds.late.isEmpty then d else (d.sheds.late.foldl Device.settleOne d).releaseHeld

/-- The entry at the head of loom `k`'s spill queue drains. -/
def Device.drainSpill (d : Device) (k : Nat) : Device :=
  match d.spillHead k with
  | none => d
  | some (s, rest, r) => (d.takeSpill k s rest r).settleNegations.settleLate.noteDrain.apuDump.finishShed

/-- The next loom in the round that has an entry to drain (06 R161). -/
def Device.spillTurn (d : Device) : Option Nat :=
  ((List.range 68).map fun i => (d.sheds.turn + 1 + i) % 68).find? fun k => (d.spillHead k).isSome

/-- The entries that may drain in this pick: 8,192 while entries of a shed that has ended are queued, else 1,024 (06 R161). -/
def Device.spillLimit (d : Device) : Nat :=
  let ended := d.sheds.ending.toList ++ d.sheds.late.map fun l => l.shed
  if d.looms.any fun e => e.2.spills.any fun s => ended.any fun r => s.shed == r.start then 8192 else 1024

/-- SPILL_DRAIN_ENTRY: the spill engine serves `loom`, one entry, within the pick's limit. The event is that of the next loom in the
round; of another loom none can drain. -/
def execSpillDrainEntry (loom : Fin 68) (s : State) : Host.Outcome State Fault Refusal :=
  s.act fun d =>
    let k := loom.val
    if d.spillLimit ≤ d.sheds.drainedNow ∨ d.spillTurn ≠ some k then d
    else { d with sheds := { d.sheds with turn := k, drainedNow := d.sheds.drainedNow + 1 } }.drainSpill k

/-- The first pass that loom `k` holds sums of for the shed `r`, in its lowest region. -/
def ShedRef.firstPass (r : ShedRef) (k : Nat) : Nat × Nat :=
  ((r.map.filter fun e => e.1 == k).map fun e => (e.2.1, e.2.2)).headD (0, 0)

/-- A loom's shed-end dump starts: from time 2, once every spill of the ending shed has drained (06 R162) and its buffer is
not being read out (R171). -/
def execShedDumpStart (loom : Fin 68) (s : State) : Host.Outcome State Fault Refusal :=
  s.act fun d =>
    let k := loom.val
    match d.sheds.ending with
    | none => d
    | some r =>
      if !r.keeps ∨ !d.drained r ∨ !ahead d.pn (r.stop + 2) ∨ !(d.owing r).contains k ∨ d.sheds.dumping.contains k then d
      else
        let d := d.noteDrain
        if d.bufferBusy r then d
        else
          let d := (d.dumpWaits r k).put (LOM_STAT.dumping k) true
          let d := { d with sheds := { d.sheds with dumping := k :: d.sheds.dumping } }
          d.bobbinChecks k r.bank (r.firstPass k).1 (r.firstPass k).2

/-- The fault of a loom whose dump is late (02 R39, 05 R141, 17 R482): it is retired with bobbin_ok clear. -/
def Device.lateFault (d : Device) (k : Nat) : Device :=
  ((d.put (LOM_ROLE.bobbin_ok k) false).stopLending k).loomFault k

/-- A dump of loom `k` that is late, or is injected so: it completes, and the loom takes its fault (05 R139). -/
def Device.lateDump (d : Device) (r : ShedRef) (k : Nat) : Device := (d.dumpLoom r k).lateFault k

/-- A loom's shed-end dump ends: its bank has been added into the matrix, scrubbed and cleared (06 R155, R168, R182). -/
def execShedDumpEnd (loom : Fin 68) (s : State) : Host.Outcome State Fault Refusal :=
  s.act fun d =>
    match d.sheds.ending with
    | none => d
    | some r =>
      if !d.sheds.dumping.contains loom.val then d
      else
        let (late, d) := d.check (.lom loom) 5 false 0
        if late then d.lateDump r loom.val else d.dumpLoom r loom.val

/-- The readout `r` ends (06 R170, R171): every line of the buffer is zero and fresh, and what waited for it proceeds. -/
def Device.endReadout (d : Device) (r : Readout) : Device :=
  let d := { d with sheds := { d.sheds with readouts := d.sheds.readouts.erase r } }
  ((d.zeroRange r.base 100696064).enters .readout r.base 100696064 true false).settleNegations.settleLate.noteDrain.apuDump

/-- MATRIX_READOUT_END. -/
def execMatrixReadoutEnd (ent : Nat) (buf : Fin 2) (s : State) : Host.Outcome State Fault Refusal :=
  s.act fun d =>
    match d.sheds.readouts.find? fun r => r.ent == ent && r.buf == buf.val with
    | none => d
    | some r => d.endReadout r

/-- The LOM source that a contained fault raises (17 R479). -/
def LoomFault.source : LoomFault → Nat
  | .countErr => 2
  | .operandPar => 3
  | .spillqU => 4

/-- A loom raises a contained fault (05 R141). The clock-gated cell array of a retired loom raises none (R144). DEDUCED (log 76):
one bad count at a pass end adds one to count_err. -/
def execLoomContainedFault (loom : Fin 68) (src : LoomFault) (detail : W32) (s : State) :
    Host.Outcome State Fault Refusal :=
  s.act fun d =>
    let k := loom.val
    if !d.canFault k ∧ src ≠ .spillqU then d
    else
      let d := d.raiseReal (.lom loom) (LoomFault.source src) detail.toNat
      let d := if src = .countErr then d.inc (LOM_CHK.count_err k) else d
      d.loomFault k

/-! ### Replays as they run -/

/-- The blocks that the passes `ks` use (10 R278). -/
def blocksOf (ks : List Nat) : List Nat := (ks.flatMap fun k => [(passBlocks k).1, (passBlocks k).2.1]).eraseDups

/-- What reading a pick back finds (10 R273, R278, R283): the creel slot it fills, or that an entry failed its dcrc, or that
it was another pick's or a line was lost; with the address of the line that failed (17 R542). -/
inductive ReadBack where
  | slot (c : CreelSlot) | badCrc (line : Nat) | bad (line : Nat)
  deriving DecidableEq, Repr

/-- Reads pick `x` back for a replay that uses the blocks `bs`. -/
def Device.readBack (d : Device) (x : Nat) (bs : List Nat) : ReadBack :=
  match d.jrn.find x with
  | none => .bad 0
  | some g =>
    let a := d.dirAddr g x
    let e := d.bytes a 576
    if d.poisoned a 576 then .bad (d.failedLine a 576)
    else if crc32c (e.take 572) ≠ beAt e 572 4 then .badCrc (a / 64 * 64)
    else if beAt e 4 8 ≠ x then .bad (a / 64 * 64)
    else if beAt e 2 1 % 4 ≠ 3 then .slot { CreelSlot.cold with pick := x }
    else
      let p := d.slotAddr g x
      match d.poison.find? fun l => p ≤ 64 * l && 64 * l < p + 2 ^ 20 && bs.contains ((64 * l - p) % 4096 / 128) with
      | some l => .bad (64 * l)
      | none =>
        let inSlot := (d.mem.dropWhile fun b => decide (b.1 < p)).takeWhile fun b => decide (b.1 < p + 2 ^ 20)
        let bytes : Sparse Byte := inSlot.filterMap fun b =>
          if bs.contains ((b.1 - p) % 4096 / 128) then some (b.1 - p, b.2) else none
        let blank := (List.range 512).foldl (fun n i => n + (e.getD (24 + 511 - i) 0).toNat * 2 ^ (8 * i)) 0
        .slot { pick := x, accepted := beAt e 16 8, blank := blank, bytes := bytes, damaged := [] }

/-- Reading pick `x` back, with what came of it, goes through the replay's port (13 R381): its entry and, where one is read, its
slot. The line that fails the read is delivered (13 R372). -/
def Device.backRead (d : Device) (x : Nat) (got : ReadBack) : Device :=
  match d.jrn.find x with
  | none => d
  | some g =>
    let p := d.slotAddr g x
    let d := d.enters .replay (d.dirAddr g x) 576 false false
    match got with
    | .slot c => if c.accepted = 0 then d else d.enters .replay p (2 ^ 20) false false
    | .badCrc _ => d
    | .bad a => (if p ≤ a ∧ a < p + 2 ^ 20 then d.enters .replay p (2 ^ 20) false false else d).delivered a 64

/-- The replaying loom `k` computes the staged pick of creel slot `c` (10 R279), on its bank 0. -/
def Device.replayPick (d : Device) (r : Replay) (k : Nat) (c : CreelSlot) : Device :=
  r.slots.foldl (fun d e =>
    if d.role k ≠ 2 then d
    else
      let (bad, d) := d.passChecks k e.1
      let d := if bad then d else d.bobbinChecks k false e.1 e.2
      if bad then d else d.runPass c k k e.1 false e.2 r.shed.start) d

/-- The interval that ends has computed the staged pick of the replay that runs, and the next one that is staged is computed in
the interval that begins (10 R279). The model computes such a pick at once, at the end of its interval. -/
def Device.replayTurn (d : Device) : Device :=
  match d.jrn.replays.find? fun r => r.spare.isSome with
  | none => d
  | some r =>
    let d := if r.computing then d.replayPick r (r.spare.getD 0) (d.creelSlot (2 + r.computed % 2)) else d
    let n := if r.computing then r.computed + 1 else r.computed
    let next (y : Replay) : Replay := if y = r then { r with computed := n, computing := decide (n < r.staged) } else y
    { d with jrn := { d.jrn with replays := d.jrn.replays.map next } }.replayStat

/-- A replayed pick, readable by now (10 R261), is in its creel slot, 2 or 3 (10 R278), which the replaying loom has left; the loom computes it in the first
interval that begins from now on (R279). A failed read abandons the replay (R283). -/
def execReplayPickStaged (s : State) : Host.Outcome State Fault Refusal :=
  s.act fun d =>
    match d.jrn.replays.find? fun r => r.spare.isSome with
    | none => d
    | some r =>
      let x := r.first + r.staged
      if r.last < x ∨ r.computed + 2 ≤ r.staged ∨ d.onItsWay x x then d
      else
        let got := d.readBack x (blocksOf (r.slots.map Prod.snd))
        let entry := match d.jrn.find x with
          | none => 0
          | some g => d.dirAddr g x
        let d := d.backRead x got
        let (ok, at_, d) : Bool × Nat × Device := match got with
          | .slot _ => (true, entry, d)
          | .badCrc a => (false, a, d.inc JRN_DIR_ERR.count)
          | .bad a => (false, a, d)
        let (bad, d) := d.check .jrn 3 (!ok) (at_ % 2 ^ 32)
        match bad, got with
        | false, .slot c =>
          let d := d.setCreel (2 + r.staged % 2) c
          let r' := { r with staged := r.staged + 1 }
          { d with jrn := { d.jrn with replays := d.jrn.replays.map fun y => if y = r then r' else y } }
        | _, _ => (d.abandon r).startReplay

/-- A replay ends once its last pick is computed, the takeover spare's bank is parked, its spills have drained (10 R281), and the
buffer that its updates go to is free (06 R171). -/
def execReplayEnd (s : State) : Host.Outcome State Fault Refusal :=
  s.act fun d =>
    match d.jrn.replays.find? fun r => r.spare.isSome with
    | none => d
    | some r =>
      let k := r.spare.getD 0
      if r.first + r.computed ≤ r.last ∨ !ahead d.pn (r.shed.stop + 2) ∨ !(d.loom k).spills.isEmpty ∨
          d.bufferBusy ((d.sheds.find r.shed.start).getD r.shed) then d
      else d.endReplay r k

/-! ### Clears -/

/-- The clear bit of LOM_CHK. -/
def Device.lomChkClear (d : Device) (k : Nat) : Device := d.set (LOM_CHK.count_err k) 0

/-- LOM_CHK.clear clears count_err (R151). -/
def execLomChkClear (k : Fin 68) (s : State) : Host.Outcome State Fault Refusal :=
  s.act fun d => d.lomChkClear k.val

/-- What LOM_BB_CLR clears. -/
def Device.lomBbClr (d : Device) (k : Nat) : Device :=
  [LOM_SPILL_CNT.word, LOM_SPILL_PEAK.word, LOM_SPILL_DEFER.word, LOM_FRAY.word, LOM_FRAY_TOTAL.word, LOM_BOBBIN_ECC.word,
   LOM_SPILL_LOST.word].foldl (fun d f => d.set (f k) 0) d

/-- LOM_BB_CLR: every count and peak of 06 R180 returns to 0 (log 20: LOM_DUMP_STAT and LOM_SPILLQ are no counters). -/
def execLomBbClr (k : Fin 68) (s : State) : Host.Outcome State Fault Refusal :=
  s.act fun d => d.lomBbClr k.val

end Sys2Proof.Machine
end

