-- ==== Sys2Proof/Machine/Capture.lean ====
section
/-! DEFINITION. The commands of capture (10 R264 to R274): triggers, reads, releases, the readout's records, and JRN_CLR. -/

namespace Sys2Proof.Machine

/-- An edge of TRIG_IN or SYNC_IN counts when it stays high for 10 ns after a low period of 10 ns: 16 loom cycles each
(02 R52). -/
def qualifiedEdge (high low : Nat) : Bool := decide (16 ≤ high) && decide (16 ≤ low)

/-- TRIG_IN rises at `t` after `low` cycles low and stays high for `high` (R264, R265). -/
def execTrigInEdge (t high low : Nat) (s : State) : Host.Outcome State Fault Refusal :=
  s.act fun d => if qualifiedEdge high low then (d.at_ t).trigger t 0 0 else d

/-- TRIG_ACK falls once its high period is over (R268). -/
def execTrigAckEnd (t : Nat) (s : State) : Host.Outcome State Fault Refusal :=
  s.act fun d =>
    let d := d.at_ t
    match d.trigAck with
    | none => d
    | some u => if u ≤ t then { d with trigAck := none } else d

/-- JRN_CAP_CMD op 1 at `t`. -/
def Device.capTrigger (d : Device) (useAt : Bool) (t : Nat) : Device :=
  let d := d.at_ t
  let pick := if useAt then d.pair JRN_CAP_AT_LO.at_lo JRN_CAP_AT_HI.at_hi else d.pn
  let (r, d) := d.takeTrigger pick 1 0
  if r.isSome then d.ackPulse t else d

/-- JRN_CAP_CMD op 1 (R264): T is the current pick, or JRN_CAP_AT with use_at. -/
def execCaptureTrigger (m : Master) (useAt : Bool) (t : Nat) (s : State) : Host.Outcome State Fault Refusal :=
  s.actReg m.val fun d => d.capTrigger useAt t

/-- JRN_CAP_CMD op 2. -/
def Device.capRead (d : Device) (slot : Nat) (autoRelease : Bool) : Device :=
  let st := d.capState slot
  if st = 0 ∨ st = 3 then d
  else d.setCapture slot { d.capture slot with
    wantRead := true, autoRelease := autoRelease, lastByte := none,
    ports := d.get JRN_CAP_PORTS_LO.ports_lo + 2 ^ 32 * d.get JRN_CAP_PORTS_HI.ports_hi }

/-- JRN_CAP_CMD op 2 (R270): a slot that holds a capture and is not being read is to be read, with the port mask now in
JRN_CAP_PORTS. -/
def execCaptureRead (m : Master) (slot : Fin 16) (autoRelease : Bool) (s : State) : Host.Outcome State Fault Refusal :=
  s.actReg m.val fun d => d.capRead slot.val autoRelease

/-- JRN_CAP_CMD op 3 (R274). -/
def execCaptureRelease (m : Master) (slot : Fin 16) (s : State) : Host.Outcome State Fault Refusal :=
  s.actReg m.val fun d => d.releaseCapture slot.val

/-! ### The readout -/

/-- The ports of a mask, ascending. -/
def portsOf (mask : Nat) : List Nat := (List.range 64).filter fun p => bit mask p

/-- The pieces that a readout of slot `n` emits. -/
def Device.pieceCount (d : Device) (n : Nat) : Nat :=
  let c := d.capture n
  (c.last + 1 - c.first) * (portsOf c.ports).length

/-- The summary record (R271). -/
def Device.capSummary (d : Device) (n : Nat) : List Byte :=
  let c := d.capture n
  let flags := d.get (JRN_CAP_STAT.trimmed n) + 2 * d.get (JRN_CAP_STAT.short_pre n) + (if 0 < c.merged then 4 else 0)
  withCrc (be 2 0x4353 ++ be 1 1 ++ be 1 flags ++ be 2 (d.get (JRN_CAP_STAT.serial n)) ++ be 8 c.trig ++ be 8 c.first ++
    be 8 c.last ++ be 1 c.sources ++ be 1 c.merged ++ be 8 c.ports ++ be 4 c.cause ++ be 4 (d.pieceCount n) ++ be 12 0)

/-- What the readout finds of a pick: its segment, its directory entry's bytes, and whether the entry failed. -/
structure PickRead where
  seg : Option Nat
  entry : List Byte
  dirErr : Bool
  deriving DecidableEq, Repr

/-- Reads the directory entry of pick `x` for slot `n` (R273). -/
def Device.capPick (d : Device) (n x : Nat) : PickRead × Device :=
  let c := d.capture n
  match (d.jrn.find x).filter fun g => c.segs.contains g with
  | none => (⟨none, [], false⟩, d)
  | some g =>
    let a := d.dirAddr g x
    let e := d.zeroPoison a (d.bytes a 576)
    let found := d.poisoned a 576 || crc32c (e.take 572) != beAt e 572 4
    let line := d.failedLine a 576 % 2 ^ 32
    let (bad, d) := (d.readFor .capture a 576).check .jrn 3 found line
    let whole := (portsOf c.ports).length == 64 && beAt e 2 1 % 4 == 3
    let torn := whole && !bad && crc32c (d.zeroPoison (d.slotAddr g x) (d.bytes (d.slotAddr g x) 1048576)) != beAt e 568 4
    let line := d.failedLine (d.slotAddr g x) 1048576 % 2 ^ 32
    let d := if whole && !bad then d.readFor .capture (d.slotAddr g x) 1048576 else d
    let d := if torn then d.raiseReal .jrn 3 line else d
    let d := if bad || torn then d.inc JRN_DIR_ERR.count else d
    (⟨some g, e, bad⟩, d)

/-- A piece (R272, R273). The channel and blank mask of a pick without a readable entry are free values (log 6). -/
def Device.capPiece (d : Device) (n x p index : Nat) (r : PickRead) (last : Bool) : List Byte × Device :=
  let e := r.entry
  let known := r.seg.isSome && !r.dirErr && beAt e 4 8 == x
  let taken := known && bit (beAt e 2 1) 0 && bit (beAt e 16 8) p
  let (chan, blank) := if known then (beAt e 12 2, beAt e (24 + 8 * (63 - p)) 8)
    else (Config.free d.freeN % 2 ^ 16, Config.free (d.freeN + 1) % 2 ^ 64)
  let d := if known then d else d.nextFree.nextFree
  let rowAddr (t : Nat) : Nat := d.slotAddr (r.seg.getD 0) x + 4096 * t + 64 * p
  let lost := if taken then (List.range 256).filter fun t => d.poisoned (rowAddr t) 64 else []
  let d := if taken then (List.range 256).foldl (fun d t => d.enters .capture (rowAddr t) 64 false false) d else d
  let d := lost.foldl (fun d t => ((d.delivered (rowAddr t) 64).check .jrn 3 true (rowAddr t % 2 ^ 32)).2) d
  let data := if taken then (List.range 256).flatMap fun t => d.zeroPoison (rowAddr t) (d.bytes (rowAddr t) 64) else []
  let flags := (if last then 1 else 0) + (if taken then 0 else 2) + (if lost.isEmpty then 0 else 4) + (if r.dirErr then 8 else 0)
  let hdr := be 2 0x4350 ++ be 1 1 ++ be 1 flags ++ be 2 (d.get (JRN_CAP_STAT.serial n)) ++ be 1 p ++ be 1 0 ++ be 8 x ++
    be 2 chan ++ be 2 0 ++ be 8 blank ++ be 4 index ++ be 4 data.length ++ be 24 0
  (hdr ++ be 4 (crc32c (hdr ++ data)) ++ data, d)

/-- Queues the pieces of pick `x`, of which `r` was found, on the ports `ps`, from piece number `index`. -/
def Device.capPieces (d : Device) (n x index : Nat) (r : PickRead) (ps : List Nat) (last : Bool) : Device :=
  (ps.foldl (fun (a : Nat × Device) p =>
    let (b, d) := a.2.capPiece n x p a.1 r last
    (a.1 + 1, (d.offer (captureRef d.draft) b).set (JRN_CAP_PROG.pieces n) (a.1 + 1))) (index, d)).2

/-- The pieces of the window's pick `i`, but the window's last piece; what is found of the last pick is kept for it. -/
def Device.capWindowPick (d : Device) (n i : Nat) : Device :=
  let c := d.capture n
  let ps := portsOf c.ports
  let x := c.first + i
  let (r, d) := d.capPick n x
  let d := if x = c.last then d.setCapture n { d.capture n with lastDir := some (r.seg, r.entry, r.dirErr) } else d
  d.capPieces n x (i * ps.length) r (if x = c.last then ps.dropLast else ps) false

/-- A requested readout starts (R270), once the window's picks are readable (R261): READING, the summary, and every piece but
the last. -/
def execCaptureReadoutStart (slot : Fin 16) (s : State) : Host.Outcome State Fault Refusal :=
  s.act fun d =>
    let n := slot.val
    let c := d.capture n
    let st := d.capState n
    if (st ≠ 2 ∧ st ≠ 4) ∨ !c.wantRead ∨ d.onItsWay c.first c.last then d
    else
      let total := d.pieceCount n
      let d := (d.setCapture n { c with wantRead := false, nPieces := total }).set (JRN_CAP_STAT.state n) 3
      let d := (d.set (JRN_CAP_PROG.pieces n) 0).offer (captureRef d.draft) (d.capSummary n)
      (List.range (c.last + 1 - c.first)).foldl (fun d i => d.capWindowPick n i) d

/-- The readout queues its last piece (R270, R274). -/
def execCaptureReadoutEnd (slot : Fin 16) (s : State) : Host.Outcome State Fault Refusal :=
  s.act fun d =>
    let n := slot.val
    if d.capState n ≠ 3 then d
    else
      let c := d.capture n
      let d := match (portsOf c.ports).getLast?, c.lastDir with
        | some p, some (g, e, bad) => d.capPieces n c.last (c.nPieces - 1) ⟨g, e, bad⟩ [p] true
        | _, _ => d
      let d := (d.set (JRN_CAP_STAT.state n) 4).put JRN_EVENT.read_done true
      match queueRef (captureRef d.draft) with
      | none => if c.autoRelease then d.releaseCapture n else d
      | some q =>
        let x := d.queue q
        (d.setCapture n { d.capture n with lastByte := some (q, x.wr - 1) }).autoRelease q

/-- What JRN_CLR clears. -/
def Device.jrnClr (d : Device) : Device :=
  [JRN_TRIG_CNT.word, JRN_REPLAY_CNT.word, JRN_UNJOURNALLED.word, JRN_DIR_ERR.word].foldl (fun d f => d.set f 0) d

/-- JRN_CLR (R293). -/
def execJrnClr (s : State) : Host.Outcome State Fault Refusal :=
  s.act fun d => d.jrnClr

end Sys2Proof.Machine
end

