-- ==== Sys2Proof/Machine/Cloth.lean ====
section
/-! DEFINITION. The commands of the cloth ports and spool queues (11): frames received, bolts closing and leaving, the
queues' timers, and the ports' links. -/

namespace Sys2Proof.Machine

/-- The receive filter of R297 for port `c`: the datagram's source address and payload when the frame is kept. -/
def Device.clothKeeps (d : Device) (c : Nat) (fcsOk : Bool) (frame : List Byte) : Option (Nat × List Byte) :=
  match parseUdp frame with
  | none => none
  | some (h, body) =>
    let mac := d.pair (CLO_MAC_LO.mac_lo c) (CLO_MAC_HI.mac_hi c)
    if fcsOk ∧ h.dmac = mac ∧ !bit mac 40 ∧ h.dip = d.get (CLO_IP.ip c) ∧ h.dport = d.get (CLO_UDP.rcpt_port c) then
      some (h.sip, body)
    else none

/-- A cloth port receives a frame: receipts, or dropped and counted (R297, R307); its RS-FEC codewords that were corrected
and uncorrectable are counted (R324). A port without its link, or switched off, receives nothing. -/
def execClothRxFrame (c : Fin 32) (t : Nat) (line : LineCheck) (frame : List Byte) (s : State) :
    Host.Outcome State Fault Refusal :=
  s.act fun d =>
    let d := d.at_ t
    if d.liveOf (CLO_CTL.enable c.val) = 0 ∨ !d.flag (CLO_STAT.pcs_lock c.val) ∨ !d.flag (CLO_STAT.fec_align c.val) then d
    else
      let d := (d.add (CLO_FEC.corrected c.val) line.fixed).add (CLO_FEC.uncorrected c.val) line.lost
      match d.clothKeeps c.val line.fcsOk frame with
      | none => d.inc (CLO_RX_DROP.count c.val)
      | some (ip, body) => (d.inc (CLO_RX_RCPT.count c.val)).receipts ip body

/-- The flush time of a queue's open bolt has passed: it closes (R300). -/
def execBoltFlushTimeout (q : Fin 8192) (t : Nat) (s : State) : Host.Outcome State Fault Refusal :=
  s.act fun d =>
    let d := d.at_ t
    if d.qOn q.val ∧ d.get (SPL_RC_TIME.flush (d.qClass q.val)) ≠ 0 then d.setQueue q.val (d.queue q.val).close else d

/-- A port is free and sends its next frame (R314), once the ledger holds its queue's state (10 R285, R288). None leaves while the port is out of service or a fatal fault stands
(17 R477), or when nothing is eligible. -/
def execPortSendSlot (c : Fin 32) (t : Nat) (s : State) : Host.Outcome State Fault Refusal :=
  s.act fun d =>
    let d := d.at_ t
    let d := d.syncQueues
    if !d.inService c.val ∨ d.flag GLB_FATAL.fatal then d
    else match d.chooseOffer c.val t with
      | none => d
      | some (k, q, o) =>
        let p := d.clothPort c.val
        let d := d.setCloth c.val { p with turns := Sparse.put (fun _ => 8192) p.turns k q }
        d.sendOffer c.val q t o

/-- A queue's retransmission timer expires (R310): the oldest outstanding bolt waits for its resend, the timeout doubles
up to 64 rto, and after retry_limit expiries in a row the queue is STALLED. -/
def execRetxTimeout (q : Fin 8192) (t : Nat) (s : State) : Host.Outcome State Fault Refusal :=
  s.act fun d =>
    let d := d.at_ t
    let x := d.queue q.val
    match x.timer, x.bolts.find? fun b => b.sent.isSome with
    | some _, some b =>
      let n := x.expiries + 1
      let stall := decide (d.qRetry q.val ≤ n)
      let rto := d.qRto q.val
      let seqs := (x.bolts.map Bolt.seq).filter fun i => x.retx.contains i || i == b.seq
      let x' := { x with retx := seqs, expiries := n, stalled := x.stalled || stall, timer := some t,
                         timeout := if x.stalled || stall then 64 * rto else min (2 * x.timeout) (64 * rto) }
      let d := if stall ∧ !x.stalled then d.put SPL_EVENT.stalled true else d
      (d.setQueue q.val x').splStat
    | _, _ => d

/-- hb_period has passed with nothing sent on an idle queue (R312): a heartbeat takes a new bolt's turn (R314). -/
def execHeartbeatTimer (q : Fin 8192) (t : Nat) (s : State) : Host.Outcome State Fault Refusal :=
  s.act fun d =>
    let d := d.at_ t
    let x := d.queue q.val
    if d.qOn q.val ∧ x.port.isSome ∧ d.liveOf SPL_CFG.hb_period ≠ 0 ∧ !x.bolts.any (fun b => b.sent.isNone) then
      d.setQueue q.val { x with hbDue := true }
    else d

/-- A port loses block lock, or with `fec` its RS-FEC alignment alone, and goes DOWN from UP or PROVING (R318). A port
FAILED by a fault has now lost its link. -/
def execClothLinkLoss (c : Fin 32) (fec : Bool) (s : State) : Host.Outcome State Fault Refusal :=
  s.act fun d =>
    let st := d.get (CLO_STAT.state c.val)
    let d := d.put (CLO_STAT.fec_align c.val) false
    let d := if fec then d else d.put (CLO_STAT.pcs_lock c.val) false
    let x := d.clothPort c.val
    if st = 2 ∨ st = 4 then (d.set (CLO_STAT.state c.val) 1).setCloth c.val { x with before := st }
    else if st = 3 ∧ x.cause = 2 then d.setCloth c.val { x with cause := 1 }
    else d

/-- A port fails (R318): DOWN for more than 1 ms by its link, or in service by a fault. -/
def execClothPortFail (c : Fin 32) (t : Nat) (s : State) : Host.Outcome State Fault Refusal :=
  s.act fun d =>
    let d := d.at_ t
    let st := d.get (CLO_STAT.state c.val)
    let x := d.clothPort c.val
    if st = 1 ∧ x.before ≠ 0 then (d.setCloth c.val { x with before := 0 }).portFails c.val 3 1
    else if st = 2 ∨ st = 4 then d.portFails c.val 3 2
    else d

/-- The port goes to UP when it has not failed since the cold start, else to PROVING from `t`, and serves queues (R318). -/
def Device.linkServes (d : Device) (c t : Nat) : Device :=
  let x := d.clothPort c
  if x.failedOnce then
    ((d.set (CLO_STAT.state c) 4).setCloth c { x with provingFrom := some t, cause := 0 }).portServes c false
  else (d.set (CLO_STAT.state c) 2).portServes c true

/-- A port's link comes up (R318): back from a loss shorter than 1 ms, up at once after a cold start, or PROVING after a
failure whose cause has ended. -/
def execClothLinkUp (c : Fin 32) (t : Nat) (s : State) : Host.Outcome State Fault Refusal :=
  s.act fun d =>
    let d := d.at_ t
    let d := (d.put (CLO_STAT.pcs_lock c.val) true).put (CLO_STAT.fec_align c.val) true
    let st := d.get (CLO_STAT.state c.val)
    let x := d.clothPort c.val
    if d.liveOf (CLO_CTL.enable c.val) = 0 then d
    else if st = 1 ∧ x.before ≠ 0 then
      ((d.set (CLO_STAT.state c.val) x.before).setCloth c.val { x with before := 0 }).portServes c.val false
    else if st = 1 ∨ (st = 3 ∧ x.cause ≠ 2) then d.linkServes c.val t
    else d

/-- One second in PROVING has passed: the port is UP and takes back the queues whose home it is (R318). -/
def execProvingEnd (c : Fin 32) (t : Nat) (s : State) : Host.Outcome State Fault Refusal :=
  s.act fun d =>
    let d := d.at_ t
    if d.get (CLO_STAT.state c.val) = 4 then
      ((d.set (CLO_STAT.state c.val) 2).setCloth c.val { d.clothPort c.val with provingFrom := none }).portServes c.val true
    else d

/-- A commit has changed CLO_CTL.enable of port `c` (R318): 0 fails it, 1 ends that cause. -/
def Device.clothEnable (d : Device) (c t : Nat) : Device :=
  let st := d.get (CLO_STAT.state c)
  if d.liveOf (CLO_CTL.enable c) = 0 then (if st = 0 then d else d.portFails c 0 3)
  else if st ≠ 0 then d
  else if d.flag (CLO_STAT.pcs_lock c) ∧ d.flag (CLO_STAT.fec_align c) then d.linkServes c t
  else (d.set (CLO_STAT.state c) 3).setCloth c { d.clothPort c with cause := 1, before := 0 }

/-- What CLO_CLR clears. -/
def Device.cloClr (d : Device) (c : Nat) : Device :=
  [CLO_TX_FRAMES_LO.word, CLO_TX_FRAMES_HI.word, CLO_TX_BYTES_LO.word, CLO_TX_BYTES_HI.word, CLO_RETX.word,
   CLO_RX_RCPT.word, CLO_RX_DROP.word, CLO_FEC.word].foldl (fun d f => d.set (f c) 0) d

/-- CLO_CLR: every counter of the port returns to 0 (R324). -/
def execCloClr (c : Fin 32) (s : State) : Host.Outcome State Fault Refusal :=
  s.act fun d => d.cloClr c.val

/-- What SPL_CLR clears. -/
def Device.splClr (d : Device) : Device :=
  let d := (d.set SPL_CNT_RCPT.count 0).set SPL_CNT_BADRCPT.count 0
  d.queues.foldl (fun d e => d.setQueue e.1 { d.queue e.1 with lost := 0, retxCount := 0 }) d

/-- SPL_CLR: the receipt counters and every queue's lost and retransmission counts return to 0 (R325). -/
def execSplClr (s : State) : Host.Outcome State Fault Refusal :=
  s.act fun d => d.splClr

/-- A write of queue `q` to SPL_QSEL. -/
def Device.qsel (d : Device) (q : Nat) : Device :=
  let x := d.queue q
  let on := d.qOn q
  let d := d.set SPL_QSEL.queue q
  let d := d.set SPL_QSTAT.state (if !on then 0 else if d.qW q = 0 then 3 else if x.stalled then 2 else 1)
  let d := d.put SPL_QSTAT.away (on && (match x.port with | none => false | some p => p != d.qHome q))
  let d := d.set SPL_QSTAT.port (if on then x.port.getD x.lastPort else 0)
  let d := d.set SPL_QSTAT.outstanding (if on then min ((x.next + 2 ^ 48 - x.base) % 2 ^ 48) 65536 else 0)
  let d := d.put SPL_QSTAT.unserved (on && x.port.isNone)
  let d := d.setPair SPL_QNEXT_LO.seq_lo SPL_QNEXT_HI.seq_hi x.next
  let d := d.setPair SPL_QBASE_LO.seq_lo SPL_QBASE_HI.seq_hi x.base
  let d := d.set SPL_QFILL.count ((x.wr - x.free + 1023) / 1024)
  (d.set SPL_QLOST.count x.lost).set SPL_QRETX.count x.retxCount

/-- A write to SPL_QSEL takes a snapshot of the queue into SPL_QSTAT to SPL_QRETX (R325). -/
def execSplQselWrite (q : Fin 8192) (s : State) : Host.Outcome State Fault Refusal :=
  s.act fun d => d.qsel q.val

end Sys2Proof.Machine
end

