-- ==== Sys2Proof/Machine/Chains.lean ====
section
/-! DEFINITION. Zoom chains and power detectors (08): half-band stages, the resampler, the requantiser, power averages,
output blocks, per-channel state, synchronising reset; and the streams they and the APU feed to the treadle engines
(09 R248 to R250). -/

namespace Sys2Proof.Machine

/-! ### Engine FIFOs (09 R248 to R250) -/

/-- An engine accepts entries that arrive in interval `m` (09 R256). -/
def Engine.accepts (x : Engine) (m : Nat) : Bool := match x.fifoFrom with
  | none => false
  | some f => ahead m f

/-- TRD_FIFO follows the FIFOs. -/
def Device.fifoStat (d : Device) (e : Nat) : Device :=
  (d.set (TRD_FIFO.apu_level e) (d.engine e).ap.length).set (TRD_FIFO.det_level e) (d.engine e).det.length

/-- Detector outputs reach engine `e` in order; what finds the FIFO full is discarded and counted (R250). -/
def Device.pushDet (d : Device) (e : Nat) (xs : List DetEntry) : Device :=
  let x := d.engine e
  let room := 4096 - x.det.length
  let d := d.setEngine e { x with det := x.det ++ xs.take room }
  let lost := xs.length - room
  (if lost = 0 then d else (d.add (TRD_DROP.det e) lost).put (TRD_STAT.det_drop e) true).fifoStat e

/-- The 256 auto-power entries of pick `n` reach engine `e` (R248); once one finds the FIFO full the rest of the pick's are
discarded and counted (R250). -/
def Device.pushAp (d : Device) (e n : Nat) (sums : Sparse Nat) : Device :=
  let xs := (List.range 256).map fun j =>
    ({ lanes := Sparse.getAll (fun _ => 0) sums (16 * j) 16, tag := j + n % 2 ^ 24 * 256, pick := n } : ApEntry)
  let x := d.engine e
  let room := 512 - x.ap.length
  let d := d.setEngine e { x with ap := x.ap ++ xs.take room }
  let lost := 256 - room
  (if lost = 0 then d else (d.add (TRD_DROP.apu e) lost).put (TRD_STAT.apu_drop e) true).fifoStat e

/-! ### Coefficients and lengths -/

/-- The half-band coefficients h[0] to h[30] (R217). -/
def halfBand : List Int :=
  [-734, 0, 1678, 0, -3067, 0, 5138, 0, -8415, 0, 14103, 0, -26529, 0, 83362, 131072, 83362, 0, -26529, 0, 14103, 0, -8415,
   0, 5138, 0, -3067, 0, 1678, 0, -734]

/-- The taps of a preset (R220). -/
def presetTaps (p : Nat) : Nat := if p = 0 then 48 else if p = 1 then 32 else 16

/-- The settling samples of a chain (R235). -/
def chainSettle (nHb p : Nat) : Nat := presetTaps p / 2 + (15 * (2 ^ nHb - 1) + 2 ^ nHb - 1) / 2 ^ nHb

/-- Δ = round(2^63 / ratio), halves up (R218). -/
def resampleStep (ratio : Nat) : Nat := (2 ^ 64 + ratio) / (2 * ratio)

/-- A length code: 0 means 65,536. -/
def len16 (n : Nat) : Nat := if n = 0 then 65536 else n

/-- What the spec says of the coefficients of one phase: each is a signed 19-bit number (R221, R237), they sum to exactly 2^18
(R220), their magnitudes to at most 1.25 × 2^18 (R215), and the coefficient that ZCH_COEF_DATA shows at reset, c[0][0] of Fine,
is its reset value 0 (R237). -/
def phaseOk (set phase : Nat) (row : List Int) : Bool :=
  row.all (fun c => satS 19 c == c) && row.foldl (· + ·) 0 == 2 ^ 18 &&
    decide (4 * row.foldl (fun a c => a + c.natAbs) 0 ≤ 5 * 2 ^ 18) && (set != 0 || phase != 0 || row.getD 0 0 == 0)

/-- The coefficients c[p][0], c[p][1], … of a preset (R220): free values within what the spec says of them. A table that breaks
it gives the mean of the two middle taps instead, which keeps it (log 8). -/
def coefRow (set phase : Nat) : List Int :=
  let n := presetTaps set
  let row := (List.range n).map fun k => Config.resampler set phase k
  if phaseOk set phase row then row else (List.range n).map fun k => if k + 1 = n / 2 ∨ k = n / 2 then 2 ^ 17 else 0

/-- ZCH_COEF_DATA for a selection (R221): set 3 is the half-band. -/
def coefOf (set phase tap : Nat) : Int := (if set = 3 then halfBand else coefRow set phase).getD tap 0

/-! ### Series -/

/-- Cleared state that a unit starts from, with `q` settling samples (R233, R235). -/
def Series.cold (nHb q : Nat) : Series :=
  { hb := List.replicate nHb [], odd := List.replicate nHb false, taps := [], inCount := 0, tacc := 0, subs := [], cur := 0,
    curN := 0, seq := 0, settle := q, gap := false, started := false }

/-- Σ of coefficients times delay-line values, newest first. -/
def firSum (cs : List Int) (xs : List Cpx) : Cpx :=
  (cs.zip xs).foldl (fun a e => { re := a.re + e.1 * e.2.re, im := a.im + e.1 * e.2.im }) ⟨0, 0⟩

/-- A sum scaled by 2^18 with rounding, as a signed `w`-bit number (R215, R216, R219). -/
def scale18 (w : Nat) (x : Cpx) : Cpx :=
  let f (a : Int) : Int := sx w (low w (sar (a + 2 ^ 17) 18))
  { re := f x.re, im := f x.im }

/-- One sample through the half-band stages: the delay lines and phases after it, and what leaves the last stage (R216). -/
def hbFeed : List (List Cpx) → List Bool → Cpx → List (List Cpx) × List Bool × Option Cpx
  | [], _, x => ([], [], some x)
  | l :: ls, os, x =>
    let l := (x :: l).take 31
    match os with
    | true :: os =>
      let r := hbFeed ls os (scale18 28 (firSum halfBand l))
      (l :: r.1, false :: r.2.1, r.2.2)
    | o :: os => (l :: ls, (!o) :: os, none)
    | [] => (l :: ls, [true], none)

/-- The resampler takes an input; it produces at most one output, since Δ is at least one input (R219). -/
def Series.resample (x : Series) (preset step : Nat) (y : Cpx) : Series × Option Cpx :=
  let n := presetTaps preset
  let x := { x with taps := (y :: x.taps).take n, inCount := x.inCount + 1 }
  if x.tacc / 2 ^ 32 < x.inCount then
    let p := x.tacc / 2 ^ 24 % 256
    let out := scale18 29 (firSum (coefRow preset p) x.taps)
    ({ x with tacc := x.tacc + step }, some out)
  else (x, none)

/-! ### Blocks (R226 to R228) -/

/-- Unit `z` of the chains and detectors that has done nothing. -/
def Unit.cold : Unit := { live := none, pre := .none, wb := none, open_ := none }

/-- Unit `z`. -/
def Device.unit (d : Device) (z : Nat) : Unit := Sparse.get (fun _ => Unit.cold) d.chains.units z

/-- Sets unit `z`. -/
def Device.setUnit (d : Device) (z : Nat) (u : Unit) : Device :=
  { d with chains := { d.chains with units := Sparse.put (fun _ => Unit.cold) d.chains.units z u } }

/-- What a unit's block says beside its samples: beam, channel, pick, shift, cfg byte, marks, largest sample count. -/
structure BlkCtx where
  beam : Nat
  chan : Nat
  pick : Nat
  shift : Nat
  cfg : Nat
  marks : Nat
  max : Nat
  deriving DecidableEq, Repr

/-- A unit at work on one pick: its series, open block, blocks closed (latest first), clamps, outputs for the engines (latest
first), and the last output value. -/
structure UnitRun where
  ser : Series
  blk : Option OpenBlock
  done : List OpenBlock
  sat : Nat
  dets : List DetEntry
  last : Option Nat
  deriving DecidableEq, Repr

/-- Closes the open block. -/
def UnitRun.close (r : UnitRun) : UnitRun :=
  match r.blk with
  | none => r
  | some b => { r with blk := none, done := b :: r.done }

/-- An output sample enters the block, which closes when it is full (R227, R228). -/
def UnitRun.emit (r : UnitRun) (c : BlkCtx) (sat : Bool) (bs : List Byte) : UnitRun :=
  let s := r.ser
  let b : OpenBlock := r.blk.getD
    { beam := c.beam, chan := c.chan, pick := c.pick, seq := s.seq, shift := c.shift, cfg := c.cfg,
      flags := if s.gap then 16 else 0, settle := 0, count := 0, bytes := [] }
  let b := { b with flags := b.flags ||| c.marks ||| (if sat then 1 else 0), settle := b.settle + (if s.settle = 0 then 0 else 1),
                    count := b.count + 1, bytes := b.bytes ++ bs }
  let r := { r with ser := { s with seq := s.seq + 1, settle := s.settle - 1, gap := false }, blk := some b }
  if c.max ≤ b.count then r.close else r

/-- One beam sample into a chain (R215 to R222, R235). -/
def UnitRun.chain (c : BlkCtx) (preset step : Nat) (wide : Bool) (r : UnitRun) (x : Cpx) : UnitRun :=
  let h := hbFeed r.ser.hb r.ser.odd x
  let r := { r with ser := { r.ser with hb := h.1, odd := h.2.1, started := true } }
  match h.2.2 with
  | none => r
  | some y =>
    let (s, out) := r.ser.resample preset step y
    let r := { r with ser := s }
    match out with
    | none => r
    | some v =>
      let m : Int := if wide then 32767 else 127
      let p := if s.settle = 0 then (requant m v.re c.shift, requant m v.im c.shift) else ((0, 0), (0, 0))
      let k := if wide then 2 else 1
      let n := p.1.2 + p.2.2
      { r.emit c (n != 0) (be k (low (8 * k) p.1.1) ++ be k (low (8 * k) p.2.1)) with sat := r.sat + n }

/-- One beam sample into detector `det` (R223 to R225, R235; 09 R249). -/
def UnitRun.detect (c : BlkCtx) (det decim m : Nat) (r : UnitRun) (x : Cpx) : UnitRun :=
  let s := r.ser
  let s := { s with cur := s.cur + (x.re * x.re + x.im * x.im).toNat, curN := s.curN + 1, started := true }
  if s.curN < decim then { r with ser := s }
  else
    let subs := (s.cur :: s.subs).take m
    let raw := subs.foldl (· + ·) 0
    let y := if c.shift = 0 then raw else (raw + 2 ^ (c.shift - 1)) / 2 ^ c.shift
    let quiet := s.settle != 0
    let beyond := !quiet && decide (2 ^ 32 ≤ y)
    let v := if quiet then 0 else min y (2 ^ 32 - 1)
    let tag := det + (if quiet then 2 ^ 9 else 0) + bits c.marks 1 3 * 2 ^ 10 + c.pick % 2 ^ 18 * 2 ^ 14
    let r := { r with ser := { s with subs := subs, cur := 0, curN := 0 }, dets := { value := v, tag := tag } :: r.dets,
                      last := some v, sat := r.sat + (if beyond then 1 else 0) }
    r.emit c beyond (be 4 v)

/-- A block's bytes (R227). -/
def OpenBlock.seal (b : OpenBlock) (z : Nat) : List Byte :=
  let zoom := z < 128
  let flags := b.flags ||| (if b.settle = 0 then 0 else 32)
  let hdr := be 2 (if zoom then 0x5A42 else 0x5042) ++ be 1 1 ++ be 1 flags ++ be 2 (if zoom then z else z - 128) ++
    be 2 b.beam ++ be 2 b.chan ++ be 8 b.pick ++ be 6 b.seq ++ be 2 b.count ++ be 2 b.settle ++ be 1 b.shift ++
    be 1 b.cfg ++ be 6 0
  hdr ++ be 4 (crc32c (hdr ++ b.bytes)) ++ b.bytes

/-- The blocks that closed in the interval now ending are queued (R228), chains before detectors. -/
def Device.flushBlocks (d : Device) : Device :=
  let d := d.chains.closed.foldl (fun d e =>
    let d := if bit e.2.2.flags 4 then d.inc (if e.1 < 128 then ZCH_GAP.count else PWD_GAP.count) else d
    d.offer e.2.1 (e.2.2.seal e.1)) d
  { d with chains := { d.chains with closed := [] } }

/-! ### Per-channel state (R229 to R232) -/

/-- The address of unit `z`'s record for entry `e` of the state area at `base` (R229). -/
def recordAddr (base e z : Nat) : Nat :=
  base + 360448 * e + (if z < 128 then 2048 * z else 262144 + 192 * (z - 128))

/-- A record's size. -/
def recordSize (z : Nat) : Nat := if z < 128 then 2048 else 192

/-- The base of the woven draft's state area. -/
def Device.stateBase (d : Device) : Nat := d.pair ZCH_STATE_BASE_LO.base_lo ZCH_STATE_BASE_HI.base_hi

/-- The registers in force for a pick, to be read only. -/
def Device.under (d : Device) (p : BeamPick) : Device := { d with regs := p.cfgRegs, live := p.cfgLive }

/-- The draft configures unit `z`. -/
def Device.unitOn (d : Device) (z : Nat) : Bool :=
  if z < 128 then d.flag (ZCH_CFG.configured z) else d.flag (PWD_OUT.configured (z - 128))

/-- The units that the draft configures. -/
def Device.unitsOn (d : Device) : List Nat := (List.range 640).filter d.unitOn

/-- The block that a unit belongs to. -/
def unitBlk (z : Nat) : Blk := if z < 128 then .zch else .pwd

/-- A unit's write-back completes (R231): the tag, and a body whose layout is internal to the device (R229). -/
def Device.writeBack (d : Device) (z : Nat) : Device :=
  let u := d.unit z
  match u.wb with
  | none => d
  | some (a, tag, ser) =>
    let body := (List.range (recordSize z - 4)).map fun i => Config.stateByte (2048 * d.freeN + i)
    let d := (d.storeFor .chainState a (be 4 tag ++ body)).nextFree
    let d := d.setUnit z { u with wb := none }
    { d with chains := { d.chains with saved := Sparse.put (fun _ => none) d.chains.saved a ser } }

/-- The unit moves its live state into its write-back buffer; a write-back still there completes first. -/
def Device.moveOut (d : Device) (z : Nat) : Device :=
  match d.chains.liveEnt with
  | none => d
  | some e =>
    let d := d.writeBack z
    let u := d.unit z
    d.setUnit z { u with live := none, wb := some (recordAddr d.chains.liveBase e z, d.chains.liveTag, u.live) }

/-- The unit moves its state of the last channel into its write-back buffer and loads the prefetched record (R231, R232).
`gen` is the generation in force. -/
def Device.swapUnit (d : Device) (gen : Nat) (clear : Bool) (z : Nat) : Device :=
  let d := d.moveOut z
  let u := d.unit z
  let (late, d) := d.check (unitBlk z) 2 (u.pre == .none) 0
  let (err, d) := d.check (unitBlk z) 3 (u.pre == .failed) 0
  let d := if late then d.put (if z < 128 then ZCH_STAT.load_late else PWD_STAT.load_late) true else d
  let d := if err then d.put (if z < 128 then ZCH_STAT.state_err else PWD_STAT.state_err) true else d
  let live := match u.pre with
    | .arrived t r => if t = gen ∧ !clear ∧ !late ∧ !err then r else none
    | _ => none
  d.setUnit z { u with live := live, pre := .none }

/-- Before pick `p`'s first sample: at a shed boundary between channels the state of the pick's channel is made live (R231), and a
reset or a weave that takes effect at it clears every unit and closes its open block (R233, R236). -/
def Device.enterChannel (d : Device) (p : BeamPick) : Device :=
  let v := d.under p
  let gen := v.get ZCH_GEN.gen
  let on := v.unitsOn
  let d := if p.fresh ∨ (p.pick % v.shedLen = 0 ∧ d.chains.liveEnt ≠ some p.ent) then on.foldl (fun d z => d.swapUnit gen (p.reset || p.fresh) z) d
    else d
  let d := if p.fresh then d.chains.units.foldl (fun d e =>
      if on.contains e.1 then d
      else
        let d := d.moveOut e.1
        d.setUnit e.1 { d.unit e.1 with live := none, pre := .none }) d
    else d
  let d := if p.reset ∧ !p.fresh then
      d.chains.units.foldl (fun d e => d.setUnit e.1 { e.2 with live := none }) d
    else d
  { d with chains := { d.chains with liveEnt := some p.ent, liveBase := v.stateBase, liveTag := gen } }

/-- The queue reference of a configured unit. -/
def Device.unitQueue (d : Device) (z : Nat) : Nat :=
  2 ^ 15 + (if z < 128 then d.get (ZCH_CFG.queue z) else d.get (PWD_OUT.queue (z - 128)))

/-- The beam that feeds unit `z` in a pick, if it does (R213). -/
def Device.fedBy (v : Device) (z : Nat) (outs : List BeamOut) : Option BeamOut :=
  if z < 128 then outs.find? fun o => o.beam == v.get (ZCH_CFG.beam z) && descClass o.desc == 1
  else outs.find? fun o => o.beam == z - 128 && descClass o.desc == 2

/-- Unit `z` handles pick `p` (R213 to R228); `mark` adds the partial mark of a datapath fault (17 R479). `v` holds the
registers in force. -/
def Device.runUnit (d v : Device) (p : BeamPick) (outs : List BeamOut) (mark : Bool) (z : Nat) : Device :=
  let u := d.unit z
  let k := z - 128
  let sh := if z < 128 then min (v.liveOf (ZCH_SHIFT.shift z)) 28 else v.liveOf (PWD_OUT.shift k)
  let nHb := if z < 128 then v.get (ZCH_CFG.n_hb z) else 0
  let preset := v.get (ZCH_CFG.preset z)
  let decim := len16 (v.get (PWD_CFG.decim k))
  let m := len16 (v.get (PWD_CFG.length k)) / decim
  let q := if z < 128 then chainSettle nHb preset else m - 1
  let r0 : UnitRun := { ser := u.live.getD (Series.cold nHb q), blk := u.open_, done := [], sat := 0, dets := [], last := none }
  let r0 := if p.reset then r0.close else r0
  let stop := (p.pick + 1) % v.shedLen == 0
  let r := match Device.fedBy v z outs with
    | none => { r0.close with ser := { r0.ser with gap := r0.ser.gap || r0.ser.started } }
    | some o =>
      let wide := z < 128 && v.flag (ZCH_CFG.wide z)
      let marks := (if p.mix.isSome then 2 else 0) + (if o.wfault then 4 else 0) + (if o.partial_ || mark then 8 else 0) +
        (if wide then 64 else 0)
      let c : BlkCtx := { beam := o.beam, chan := p.chan, pick := p.pick, shift := sh,
                          cfg := if z < 128 then nHb + 8 * preset else 0, marks := marks, max := if z < 128 then 256 else 128 }
      let r := match r0.blk with
        | some b => if b.shift = sh then r0 else r0.close
        | none => r0
      if z < 128 then o.samples.foldl (UnitRun.chain c preset (resampleStep (v.get (ZCH_RATIO.ratio z))) wide) r
      else o.samples.foldl (UnitRun.detect c k decim m) r
  let r := if stop then r.close else r
  let d := d.setUnit z { u with live := if r.ser.started then some r.ser else u.live, open_ := r.blk }
  let closed := r.done.reverse.map fun b => (z, v.unitQueue z, b)
  let d := { d with chains := { d.chains with closed := d.chains.closed ++ closed } }
  let d := d.add (if z < 128 then ZCH_SAT.count else PWD_SAT.count) r.sat
  let d := if z < 128 then d.set (ZCH_SEQ.seq z) r.ser.seq
    else match r.last with
      | none => d
      | some y => d.set (PWD_LAST.value k) y
  if r.dets.isEmpty then d
  else (List.range 4).foldl (fun d e =>
    if (d.engine e).accepts (p.pick + 2) ∧ bit (v.get (TRD_DSUB.mask e (k / 32))) (k % 32) then d.pushDet e r.dets.reverse
    else d) d

/-- The chains and detectors handle pick `p` (R214), and beams of zoom class without a chain are counted (R207). -/
def Device.runUnits (d : Device) (p : BeamPick) (outs : List BeamOut) : Device :=
  let d := d.enterChannel p
  let v := d.under p
  let on := v.unitsOn
  let lonely := outs.filter fun o => descClass o.desc == 1 &&
    !(on.any fun z => decide (z < 128) && v.get (ZCH_CFG.beam z) == o.beam)
  let d := d.add BTN_ROUTE_ERR.route_err lonely.length
  let fed := on.filter fun z => (Device.fedBy v z outs).isSome
  let hit (d : Device) (b : Blk) (zs : List Nat) : Option Nat × Device :=
    match zs with
    | [] => (none, d)
    | z :: _ => let (x, d) := d.check b 4 false 0; (if x then some z else none, d)
  let (a, d) := hit d .zch (fed.filter fun z => z < 128)
  let (b, d) := hit d .pwd (fed.filter fun z => 128 ≤ z)
  on.foldl (fun d z => d.runUnit v p outs (a == some z || b == some z) z) d

/-- A datapath fault of unit `z` (17 R479): its blocks of the pick carry partial. -/
def Device.unitFault (d : Device) (z : Nat) : Device :=
  let mark (b : OpenBlock) : OpenBlock := { b with flags := b.flags ||| 8 }
  let u := d.unit z
  let d := d.setUnit z { u with open_ := u.open_.map mark }
  let closed := d.chains.closed.map fun e => if e.1 = z then (e.1, e.2.1, mark e.2.2) else e
  { d with chains := { d.chains with closed := closed } }

/-- Every tag of the state area at `base` with `n` channels becomes 0. -/
def Device.zeroTags (d : Device) (base n : Nat) : Device :=
  (List.range n).foldl (fun d e =>
    let d := d.enters .chainState (recordAddr base e 0) 360448 true false
    (List.range 640).foldl (fun d z => d.store (recordAddr base e z) (be 4 0)) d) d

/-- A synchronising reset takes effect at the boundary of pick `x` (R233, R234): ZCH_GEN increases; past its last value every
tag of the state area becomes 0 and ZCH_GEN 1. -/
def Device.genUp (d : Device) : Device :=
  if d.get ZCH_GEN.gen = 2 ^ 32 - 1 then
    let d := (d.set ZCH_GEN.gen 1).put ZCH_STAT.gen_wrap true
    d.zeroTags d.stateBase (nEnt d.draft)
  else d.incMod ZCH_GEN.gen

/-- With no draft woven the units hold no channel's state: nothing is written back at the next weave (R234). -/
def Device.idleUnits (d : Device) : Device :=
  { d with chains := { d.chains with liveEnt := none, units := d.chains.units.map fun e => (e.1, { e.2 with live := none }) } }

/-- The interval in which a prefetch can still be used: from time 1 to time 2 of a shed boundary between channels (R231, R232). -/
def Device.prefetchDue (d : Device) : Bool :=
  d.pn % d.shedLen == 1 &&
    (d.chains.freshAt == some ((d.pn + 2 ^ 64 - 1) % 2 ^ 64) || d.chains.liveEnt != some (d.entOf d.pn))

/-- A prefetched record arrives, or its read fails (R231, R232). A write-back of the same record completes first; a record that
comes after time 2 is not used. -/
def execStatePrefetchComplete (unit : Fin 640) (ok : Bool) (s : State) : Host.Outcome State Fault Refusal :=
  s.act fun d =>
    if !d.woven ∨ !d.unitOn unit.val ∨ !d.prefetchDue then d
    else
      let z := unit.val
      let a := recordAddr d.stateBase (d.entOf d.pn) z
      let d := if (d.unit z).wb.any (fun w => w.1 == a) then d.writeBack z else d
      let pre := if !ok ∨ d.poisoned a (recordSize z) then Prefetch.failed
        else .arrived (ofBe (d.bytes a 4)) (Sparse.get (fun _ => none) d.chains.saved a)
      let d := d.readFor .chainState a (recordSize z)
      d.setUnit z { d.unit z with pre := pre }

/-- The record of unit `z` was not fetched in time or its read failed, and that is reported already: the unit starts the channel
from cleared state (R232). -/
def Device.recordLost (d : Device) (z : Nat) : Device :=
  let u := d.unit z
  d.setUnit z (if d.prefetchDue then { u with pre := .unusable } else { u with live := none })

/-- The write-back of a unit's record completes (R231). -/
def execStateWritebackComplete (unit : Fin 640) (s : State) : Host.Outcome State Fault Refusal :=
  s.act fun d => d.writeBack unit.val

/-- What ZCH_CLR clears. -/
def Device.zchClr (d : Device) : Device := (d.set ZCH_SAT.count 0).set ZCH_GAP.count 0

/-- ZCH_CLR (R237). -/
def execZchClr (s : State) : Host.Outcome State Fault Refusal :=
  s.act fun d => d.zchClr

/-- What PWD_CLR clears. -/
def Device.pwdClr (d : Device) : Device := (d.set PWD_SAT.count 0).set PWD_GAP.count 0

/-- PWD_CLR (R238). -/
def execPwdClr (s : State) : Host.Outcome State Fault Refusal :=
  s.act fun d => d.pwdClr

end Sys2Proof.Machine
end

