-- ==== Sys2Proof/Machine/TreadleOps.lean ====
section
/-! DEFINITION. What the treadle instructions share (09): the instruction word, registers, narrowing, circular addressing, and
the issue of one instruction with its busy cycles. -/

namespace Sys2Proof.Machine

/-! ### The instruction word (R242) -/

/-- An instruction word's fields. -/
structure TWord where
  op : Nat
  sat : Bool
  d : Nat
  a : Nat
  b : Nat
  n : Nat
  r : Nat
  sh : Nat
  m : Nat
  imm : Int
  deriving DecidableEq, Repr

/-- The fields of a 64-bit word. -/
def TWord.of (w : BitVec 64) : TWord :=
  let x := w.toNat
  { op := bits x 58 6, sat := bit x 57, d := bits x 53 4, a := bits x 49 4, b := bits x 45 4, n := bits x 43 2, r := bits x 40 3,
    sh := bits x 34 6, m := bits x 32 2, imm := sx 32 x }

/-- The opcodes of R243. -/
def trdOpcodes : List Nat :=
  (List.range 9) ++ (List.range 5).map (· + 0x0A) ++ (List.range 12).map (· + 0x10) ++ (List.range 12).map (· + 0x20) ++
    (List.range 7).map (· + 0x30) ++ (List.range 8).map (· + 0x38)

/-! ### Registers (R240) -/

/-- Scalar register `k`. -/
def Engine.sreg (x : Engine) (k : Nat) : Int := Sparse.get (fun _ => 0) x.s k

/-- Sets scalar register `k`. -/
def Engine.setS (x : Engine) (k : Nat) (v : Int) : Engine := { x with s := Sparse.put (fun _ => 0) x.s k v }

/-- The lanes of vector register `k`. -/
def Engine.vec (x : Engine) (k : Nat) : List Int := Sparse.getAll (fun _ => 0) x.v (16 * k) 16

/-- Sets the lanes of vector register `k`. -/
def Engine.setV (x : Engine) (k : Nat) (vs : List Int) : Engine :=
  { x with v := Sparse.putAll (fun _ => 0) x.v (16 * k) (vs.take 16) }

/-- The lanes of accumulator `k`. -/
def Engine.accum (x : Engine) (k : Nat) : List Int := Sparse.getAll (fun _ => 0) x.acc (16 * k) 16

/-- Sets the lanes of accumulator `k`. -/
def Engine.setAcc (x : Engine) (k : Nat) (vs : List Int) : Engine :=
  { x with acc := Sparse.putAll (fun _ => 0) x.acc (16 * k) (vs.take 16) }

/-- The offset of address register `r`. -/
def Engine.offset (x : Engine) (r : Nat) : Nat := Sparse.get (fun _ => 0) x.a r

/-- Base register `r`. -/
def Engine.base (x : Engine) (r : Nat) : Nat := Sparse.get (fun _ => 0) x.b r

/-- The length in force for `r`, 1 to 65,536. -/
def Engine.len (x : Engine) (r : Nat) : Nat := Sparse.get (fun _ => 65536) x.l r

/-- The pending length of `r`; 0 when there is none. -/
def Engine.pendLen (x : Engine) (r : Nat) : Nat := Sparse.get (fun _ => 0) x.lPend r

/-- A number as a 32-bit signed register holds it. -/
def s32 (x : Int) : Int := sx 32 (low 32 x)

/-- Narrowing to `n` bits (R241): the value, and whether it was clamped. -/
def narrow (n : Nat) (sat : Bool) (x : Int) : Int × Bool :=
  if sat then (satS n x, satS n x != x) else (sx n (low n x), false)

/-- Lanewise narrowing, and whether some lane was clamped. -/
def narrowAll (n : Nat) (sat : Bool) (xs : List Int) : List Int × Bool :=
  (xs.map fun x => (narrow n sat x).1, xs.any fun x => (narrow n sat x).2)

/-! ### Circular addressing (R245, R246) -/

/-- The word address of element `k` of an access through Ar. -/
def Engine.addrOf (x : Engine) (r k : Nat) : Nat := (x.base r + (x.offset r + k) % x.len r) % 65536

/-- The update of Ar from the offset `start` by `inc` (R246), and whether the offset was reduced. -/
def Engine.update (x : Engine) (r start : Nat) (inc : Int) : Engine × Bool :=
  let p := x.pendLen r
  let x := if p = 0 then x
    else { x with l := Sparse.put (fun _ => 65536) x.l r p, lPend := Sparse.put (fun _ => 0) x.lPend r 0 }
  let n := x.len r
  let a := (((start % n : Nat) : Int) + inc) % (n : Int)
  ({ x with a := Sparse.put (fun _ => 0) x.a r a.toNat }, decide (n ≤ start))

/-- The post-modify that `m` names (R242); 0 is no update. -/
def Engine.postModify (x : Engine) (r m : Nat) : Engine × Bool :=
  if m = 0 then (x, false) else x.update r (x.offset r) (if m = 1 then 1 else if m = 2 then 16 else -16)

/-- Stores a word of data memory. -/
def Engine.storeWord (x : Engine) (a : Nat) (v : Int) : Engine :=
  { x with data := Sparse.put (fun _ => (0 : W32)) x.data a (BitVec.ofInt 32 v), badData := x.badData.filter fun y => y != a }

/-- The sixteen words of an access are contiguous. -/
def Engine.contiguous (x : Engine) (r : Nat) : Bool := (List.range 15).all fun k => x.addrOf r (k + 1) == x.addrOf r k + 1

/-! ### Issue -/

/-- What an instruction does to its engine: the engine after it, the branch target if it branches, its cycles, the register
that it writes as a 2-cycle instruction, whether something was clamped (R241) or an offset reduced (R246). -/
structure TrdOut where
  eng : Engine
  target : Option Nat
  cycles : Nat
  slow : Option Nat
  sat : Bool
  reduce : Bool

/-- A one-cycle instruction that leaves engine `x`. -/
def TrdOut.plain (x : Engine) : TrdOut := { eng := x, target := none, cycles := 1, slow := none, sat := false, reduce := false }

/-- The engine's state code: 0 IDLE to 6 FAULT. -/
def Device.trdState (d : Device) (e : Nat) : Nat := d.get (TRD_STAT.state e)

/-- The word at the engine's program counter. -/
def Engine.fetch (x : Engine) : TWord := TWord.of (Sparse.get (fun _ => (0 : BitVec 64)) x.prog x.pc)

/-- The engine fetches its next word (R257): none when it is not RUNNING or the word is lost, which halts it in FAULT. -/
def Device.fetch (d : Device) (e : Fin 4) : Option TWord × Device :=
  if d.trdState e.val ≠ 2 then (none, d)
  else
    let x := d.engine e.val
    let (_, d) := d.check (.trd e) 0 false (65536 + x.pc)
    let (bad, d) := d.check (.trd e) 1 false (65536 + x.pc)
    if bad then (none, (d.set (TRD_STAT.state e.val) 6).set (TRD_PC.pc e.val) x.pc) else (some x.fetch, d)

/-- The engine leaves an instruction: its registers, the next word's address, its busy cycles and its marks. -/
def Device.leave (d : Device) (e : Nat) (x : Engine) (o : TrdOut) (stall : Nat) : Device :=
  let pc := o.target.getD ((x.pc + 1) % 16384)
  let d := d.setEngine e { o.eng with pc := pc, slow := o.slow, busy := x.busy.map fun n => n + stall + o.cycles }
  let d := d.set (TRD_PC.pc e) pc
  let d := if o.sat then d.inc (TRD_SATCNT.count e) else d
  if o.reduce then d.put (TRD_STAT.circ_reduce e) true else d

/-- The cycle that an instruction reading `rs` waits for a 2-cycle instruction just before it (R244). -/
def Engine.stall (x : Engine) (rs : List Nat) : Nat := match x.slow with
  | none => 0
  | some k => if rs.contains k then 1 else 0

/-- One instruction of opcode `op` that reads the registers `rs`: `f` is its effect on the engine. A command whose opcode is
not the fetched word's changes nothing. -/
def Device.issue (d : Device) (e : Fin 4) (op : Nat) (rs : TWord → List Nat) (f : TWord → Engine → TrdOut) : Device :=
  match d.fetch e with
  | (none, d) => d
  | (some w, d) =>
    if w.op ≠ op then d
    else
      let x := d.engine e.val
      d.leave e.val x (f w x) (x.stall (rs w))

/-- Reads Sa. -/
def rdA (w : TWord) : List Nat := [w.a]

/-- Reads Sa and Sb. -/
def rdAB (w : TWord) : List Nat := [w.a, w.b]

/-- Reads Va. -/
def rdVA (w : TWord) : List Nat := [16 + w.a]

/-- Reads Va and Vb. -/
def rdVAB (w : TWord) : List Nat := [16 + w.a, 16 + w.b]

/-- Reads nothing that a 2-cycle instruction writes. -/
def rdNone (_ : TWord) : List Nat := []

/-- A scalar result without clamping. -/
def scalarOp (f : TWord → Engine → Int) (w : TWord) (x : Engine) : TrdOut := TrdOut.plain (x.setS w.d (s32 (f w x)))

/-- A scalar result narrowed by the word's sat bit. -/
def scalarSat (cycles : Nat) (f : TWord → Engine → Int) (w : TWord) (x : Engine) : TrdOut :=
  let v := narrow 32 w.sat (f w x)
  { TrdOut.plain (x.setS w.d v.1) with sat := v.2, cycles := cycles, slow := if cycles = 2 then some w.d else none }

/-- A vector result without clamping. -/
def vectorOp (f : TWord → Engine → List Int) (w : TWord) (x : Engine) : TrdOut :=
  TrdOut.plain (x.setV w.d ((f w x).map s32))

/-- A vector result narrowed by the word's sat bit. -/
def vectorSat (cycles : Nat) (f : TWord → Engine → List Int) (w : TWord) (x : Engine) : TrdOut :=
  let v := narrowAll 32 w.sat (f w x)
  { TrdOut.plain (x.setV w.d v.1) with sat := v.2, cycles := cycles, slow := if cycles = 2 then some (16 + w.d) else none }

/-- A branch to imm[13:0] when `p` holds. -/
def branchOp (taken not_ : Nat) (p : Bool) (w : TWord) (x : Engine) : TrdOut :=
  if p then { TrdOut.plain x with target := some (low 14 w.imm), cycles := taken } else { TrdOut.plain x with cycles := not_ }

/-- Lanewise combination of Va and Vb. -/
def lanes2 (f : Int → Int → Int) (w : TWord) (x : Engine) : List Int := List.zipWith f (x.vec w.a) (x.vec w.b)

/-- Bitwise operation on two 32-bit registers. -/
def bitOp (f : Nat → Nat → Nat) (a b : Int) : Int := sx 32 (f (low 32 a) (low 32 b))

/-- A search (R247): the best lane, the lowest on a tie, and its lane number. `better` compares a lane with the best so
far. -/
def bestLane (better : Int → Int → Bool) (vs : List Int) : Int × Nat :=
  vs.zipIdx.foldl (fun b e => if better e.1 b.1 then (e.1, e.2) else b) (vs.getD 0 0, 0)

end Sys2Proof.Machine
end

