-- ==== Sys2Proof/Machine/Treadle.lean ====
section
/-! DEFINITION. The treadle instructions (09 R243 to R256), one meaning for each opcode, the illegal opcode, the return of
WAITP, the engine's start, and TRD_CLR. -/

namespace Sys2Proof.Machine

/-! ### Control -/

/-- NOP. -/
def execNop (e : Fin 4) (s : State) : Host.Outcome State Fault Refusal :=
  s.act fun d => d.issue e 0x00 rdNone fun _ x => TrdOut.plain x

/-- WAITP is issued (R251): the pick's busy cycles end, and the engine waits, or is HELD while TRD_CTL.run is 0 (R258). -/
def execWaitp (e : Fin 4) (s : State) : Host.Outcome State Fault Refusal :=
  s.act fun d =>
    match d.fetch e with
    | (none, d) => d
    | (some w, d) =>
      if w.op ≠ 0x01 then d
      else
        let k := e.val
        let x := d.engine k
        let d := match x.busy with
          | none => d
          | some n => (d.set (TRD_BUSY.last k) (satU 16 n)).peak (TRD_BUSY.peak k) n
        let d := d.setEngine k { x with busy := none, slow := none }
        d.set (TRD_STAT.state k) (if d.liveOf (TRD_CTL.run k) = 0 then 4 else 3)

/-- WAITP returns (R251): the event is cleared, the engine pick becomes m − 2, and auto-power entries of earlier picks are
discarded and counted. From here on the engine sees the registers in force for that pick (02 R33). -/
def execWaitpReturn (e : Fin 4) (s : State) : Host.Outcome State Fault Refusal :=
  s.act fun d =>
    let k := e.val
    let x := d.engine k
    if d.trdState k ≠ 3 ∨ !x.event then d
    else
      let n := (d.pn + 2 ^ 64 - 2) % 2 ^ 64
      let keep := x.ap.filter fun y => ahead y.pick n
      let lost := x.ap.length - keep.length
      let pc := (x.pc + 1) % 16384
      let x := { x with event := false, pick := n, ap := keep, busy := some 0, trigged := false, slow := none, pc := pc }
      let d := d.setEngine k { x with cfg := x.handed }
      let d := if lost = 0 then d else (d.add (TRD_DROP.apu k) lost).put (TRD_STAT.apu_drop k) true
      ((d.set (TRD_STAT.state k) 2).set (TRD_PC.pc k) pc).fifoStat k

/-- HALT: the program counter stays at the halting word (R258). -/
def execHalt (e : Fin 4) (s : State) : Host.Outcome State Fault Refusal :=
  s.act fun d =>
    match d.fetch e with
    | (none, d) => d
    | (some w, d) => if w.op = 0x02 then d.set (TRD_STAT.state e.val) 5 else d

/-- An opcode that R243 does not list halts the engine (R242). -/
def execIllegalOpcode (e : Fin 4) (s : State) : Host.Outcome State Fault Refusal :=
  s.act fun d =>
    match d.fetch e with
    | (none, d) => d
    | (some w, d) =>
      if trdOpcodes.contains w.op then d
      else ((d.set (TRD_STAT.state e.val) 5).put (TRD_STAT.illegal e.val) true).set (TRD_PC.pc e.val) (d.engine e.val).pc

/-- BR. -/
def execBr (e : Fin 4) (s : State) : Host.Outcome State Fault Refusal :=
  s.act fun d => d.issue e 0x03 rdNone fun w x => branchOp 2 2 true w x

/-- BRZ. -/
def execBrz (e : Fin 4) (s : State) : Host.Outcome State Fault Refusal :=
  s.act fun d => d.issue e 0x04 rdA fun w x => branchOp 2 1 (x.sreg w.a == 0) w x

/-- BRNZ. -/
def execBrnz (e : Fin 4) (s : State) : Host.Outcome State Fault Refusal :=
  s.act fun d => d.issue e 0x05 rdA fun w x => branchOp 2 1 (x.sreg w.a != 0) w x

/-- BRGT. -/
def execBrgt (e : Fin 4) (s : State) : Host.Outcome State Fault Refusal :=
  s.act fun d => d.issue e 0x06 rdAB fun w x => branchOp 2 1 (decide (x.sreg w.b < x.sreg w.a)) w x

/-- BRLE. -/
def execBrle (e : Fin 4) (s : State) : Host.Outcome State Fault Refusal :=
  s.act fun d => d.issue e 0x07 rdAB fun w x => branchOp 2 1 (decide (x.sreg w.a ≤ x.sreg w.b)) w x

/-- DJNZ: one cycle when taken, two when not; as a 2-cycle instruction it makes a reader of Sd just after it wait (R244). -/
def execDjnz (e : Fin 4) (s : State) : Host.Outcome State Fault Refusal :=
  s.act fun d => d.issue e 0x08 (fun w => [w.d]) fun w x =>
    let v := s32 (x.sreg w.d - 1)
    { branchOp 1 2 (v != 0) w (x.setS w.d v) with slow := if v = 0 then some w.d else none }

/-! ### Address registers (R246) -/

/-- SETA: the start offset Sa + imm as an unsigned 32-bit number, no increment. -/
def execSeta (e : Fin 4) (s : State) : Host.Outcome State Fault Refusal :=
  s.act fun d => d.issue e 0x0A rdA fun w x =>
    let y := x.update w.r (low 32 (x.sreg w.a + w.imm)) 0
    { TrdOut.plain y.1 with reduce := y.2 }

/-- ADDA. -/
def execAdda (e : Fin 4) (s : State) : Host.Outcome State Fault Refusal :=
  s.act fun d => d.issue e 0x0B rdNone fun w x =>
    let y := x.update w.r (x.offset w.r) w.imm
    { TrdOut.plain y.1 with reduce := y.2 }

/-- SETB. -/
def execSetb (e : Fin 4) (s : State) : Host.Outcome State Fault Refusal :=
  s.act fun d => d.issue e 0x0C rdNone fun w x =>
    TrdOut.plain { x with b := Sparse.put (fun _ => 0) x.b w.r (low 16 w.imm) }

/-- SETL: a pending length, 0 meaning 65,536. -/
def execSetl (e : Fin 4) (s : State) : Host.Outcome State Fault Refusal :=
  s.act fun d => d.issue e 0x0D rdNone fun w x =>
    TrdOut.plain { x with lPend := Sparse.put (fun _ => 0) x.lPend w.r (len16 (low 16 w.imm)) }

/-- GETA. -/
def execGeta (e : Fin 4) (s : State) : Host.Outcome State Fault Refusal :=
  s.act fun d => d.issue e 0x0E rdNone (scalarOp fun w x => (x.offset w.r : Int))

/-! ### Scalars -/

/-- LIS. -/
def execLis (e : Fin 4) (s : State) : Host.Outcome State Fault Refusal :=
  s.act fun d => d.issue e 0x10 rdNone (scalarOp fun w _ => w.imm)

/-- ADDS. -/
def execAdds (e : Fin 4) (s : State) : Host.Outcome State Fault Refusal :=
  s.act fun d => d.issue e 0x11 rdAB (scalarSat 1 fun w x => x.sreg w.a + x.sreg w.b)

/-- SUBS. -/
def execSubs (e : Fin 4) (s : State) : Host.Outcome State Fault Refusal :=
  s.act fun d => d.issue e 0x12 rdAB (scalarSat 1 fun w x => x.sreg w.a - x.sreg w.b)

/-- ADDIS. -/
def execAddis (e : Fin 4) (s : State) : Host.Outcome State Fault Refusal :=
  s.act fun d => d.issue e 0x13 rdA (scalarSat 1 fun w x => x.sreg w.a + w.imm)

/-- MULS. -/
def execMuls (e : Fin 4) (s : State) : Host.Outcome State Fault Refusal :=
  s.act fun d => d.issue e 0x14 rdAB (scalarSat 2 fun w x => rnd (x.sreg w.a * x.sreg w.b) w.sh)

/-- ANDS. -/
def execAnds (e : Fin 4) (s : State) : Host.Outcome State Fault Refusal :=
  s.act fun d => d.issue e 0x15 rdAB (scalarOp fun w x => bitOp (· &&& ·) (x.sreg w.a) (x.sreg w.b))

/-- ORS. -/
def execOrs (e : Fin 4) (s : State) : Host.Outcome State Fault Refusal :=
  s.act fun d => d.issue e 0x16 rdAB (scalarOp fun w x => bitOp (· ||| ·) (x.sreg w.a) (x.sreg w.b))

/-- XORS. -/
def execXors (e : Fin 4) (s : State) : Host.Outcome State Fault Refusal :=
  s.act fun d => d.issue e 0x17 rdAB (scalarOp fun w x => bitOp (· ^^^ ·) (x.sreg w.a) (x.sreg w.b))

/-- SHLS. -/
def execShls (e : Fin 4) (s : State) : Host.Outcome State Fault Refusal :=
  s.act fun d => d.issue e 0x18 rdA (scalarSat 1 fun w x => x.sreg w.a * 2 ^ w.sh)

/-- SHRS. -/
def execShrs (e : Fin 4) (s : State) : Host.Outcome State Fault Refusal :=
  s.act fun d => d.issue e 0x19 rdA (scalarOp fun w x => rnd (x.sreg w.a) w.sh)

/-- The registers as engine `e` sees them: those in force for its pick (02 R33), or now while it has no pick yet. To be read
only. -/
def Device.seenBy (d : Device) (e : Nat) : Device :=
  match (d.engine e).cfg with
  | none => d
  | some c => { d with regs := c.1, live := c.2 }

/-- The special value that a selector reads (R253), with the registers in force for the engine's pick (02 R33). -/
def Device.special (d : Device) (e : Nat) (sel : Nat) : Nat :=
  let x := d.engine e
  let v := d.seenBy e
  if sel = 0 then x.pick % 2 ^ 32
  else if sel = 1 then x.pick / 2 ^ 32 % 2 ^ 32
  else if sel = 2 then d.channelOf x.pick
  else if sel = 3 then x.pick % v.shedLen
  else if sel = 4 then e
  else if sel = 5 then x.ap.length
  else if sel = 6 then x.det.length
  else if sel = 7 then x.busy.getD 0
  else if sel = 8 then v.period
  else if sel = 9 then v.shedLen
  else if sel = 10 then v.get PCK_SYNC_STAT.count
  else if 16 ≤ sel ∧ sel < 32 then v.liveOf (TRD_PARAM.param e (sel - 16))
  else 0

/-- GETS. -/
def execGets (e : Fin 4) (s : State) : Host.Outcome State Fault Refusal :=
  s.act fun d => d.issue e 0x1A rdNone (scalarOp fun w _ => (d.special e.val (low 8 w.imm) : Int))

/-- VEXT. -/
def execVext (e : Fin 4) (s : State) : Host.Outcome State Fault Refusal :=
  s.act fun d => d.issue e 0x1B rdVA (scalarOp fun w x => (x.vec w.a).getD (low 4 w.imm) 0)

/-! ### Vectors -/

/-- VADD. -/
def execVadd (e : Fin 4) (s : State) : Host.Outcome State Fault Refusal :=
  s.act fun d => d.issue e 0x20 rdVAB (vectorSat 1 (lanes2 (· + ·)))

/-- VSUB. -/
def execVsub (e : Fin 4) (s : State) : Host.Outcome State Fault Refusal :=
  s.act fun d => d.issue e 0x21 rdVAB (vectorSat 1 (lanes2 (· - ·)))

/-- VMUL. -/
def execVmul (e : Fin 4) (s : State) : Host.Outcome State Fault Refusal :=
  s.act fun d => d.issue e 0x22 rdVAB (vectorSat 2 fun w x => lanes2 (fun a b => rnd (a * b) w.sh) w x)

/-- VMAX. -/
def execVmax (e : Fin 4) (s : State) : Host.Outcome State Fault Refusal :=
  s.act fun d => d.issue e 0x23 rdVAB (vectorOp (lanes2 max))

/-- VMIN. -/
def execVmin (e : Fin 4) (s : State) : Host.Outcome State Fault Refusal :=
  s.act fun d => d.issue e 0x24 rdVAB (vectorOp (lanes2 min))

/-- VABS. -/
def execVabs (e : Fin 4) (s : State) : Host.Outcome State Fault Refusal :=
  s.act fun d => d.issue e 0x25 rdVA (vectorSat 1 fun w x => (x.vec w.a).map fun a => (a.natAbs : Int))

/-- VSPL. -/
def execVspl (e : Fin 4) (s : State) : Host.Outcome State Fault Refusal :=
  s.act fun d => d.issue e 0x26 rdA (vectorOp fun w x => List.replicate 16 (x.sreg w.a))

/-- VINS: the other lanes are unchanged. -/
def execVins (e : Fin 4) (s : State) : Host.Outcome State Fault Refusal :=
  s.act fun d => d.issue e 0x27 (fun w => [w.a, 16 + w.d]) (vectorOp fun w x => (x.vec w.d).set (low 4 w.imm) (x.sreg w.a))

/-- VSHL. -/
def execVshl (e : Fin 4) (s : State) : Host.Outcome State Fault Refusal :=
  s.act fun d => d.issue e 0x28 rdVA (vectorSat 1 fun w x => (x.vec w.a).map fun a => a * 2 ^ w.sh)

/-- VSHR. -/
def execVshr (e : Fin 4) (s : State) : Host.Outcome State Fault Refusal :=
  s.act fun d => d.issue e 0x29 rdVA (vectorOp fun w x => (x.vec w.a).map fun a => rnd a w.sh)

/-- VGT. -/
def execVgt (e : Fin 4) (s : State) : Host.Outcome State Fault Refusal :=
  s.act fun d => d.issue e 0x2A (fun w => [16 + w.a, w.b]) (vectorOp fun w x =>
    (x.vec w.a).map fun a => if x.sreg w.b < a then 1 else 0)

/-- VAND. -/
def execVand (e : Fin 4) (s : State) : Host.Outcome State Fault Refusal :=
  s.act fun d => d.issue e 0x2B rdVAB (vectorOp (lanes2 (bitOp (· &&& ·))))

/-! ### Accumulators -/

/-- ACLR. -/
def execAclr (e : Fin 4) (s : State) : Host.Outcome State Fault Refusal :=
  s.act fun d => d.issue e 0x30 rdNone fun w x => TrdOut.plain (x.setAcc w.n (List.replicate 16 0))

/-- MAC: the product is rounded, the sum narrowed to 48 bits. -/
def execMac (e : Fin 4) (s : State) : Host.Outcome State Fault Refusal :=
  s.act fun d => d.issue e 0x31 (fun w => [16 + w.a, 16 + w.b, 32 + w.n]) fun w x =>
    let p := lanes2 (fun a b => rnd (a * b) w.sh) w x
    let v := narrowAll 48 w.sat (List.zipWith (· + ·) (x.accum w.n) p)
    { TrdOut.plain (x.setAcc w.n v.1) with sat := v.2, cycles := 2, slow := some (32 + w.n) }

/-- MACA. -/
def execMaca (e : Fin 4) (s : State) : Host.Outcome State Fault Refusal :=
  s.act fun d => d.issue e 0x32 (fun w => [16 + w.a, 32 + w.n]) fun w x =>
    let v := narrowAll 48 w.sat (List.zipWith (· + ·) (x.accum w.n) (x.vec w.a))
    { TrdOut.plain (x.setAcc w.n v.1) with sat := v.2 }

/-- ACCR. -/
def execAccr (e : Fin 4) (s : State) : Host.Outcome State Fault Refusal :=
  s.act fun d => d.issue e 0x33 (fun w => [32 + w.n]) (vectorSat 1 fun w x => (x.accum w.n).map fun a => rnd a w.sh)

/-- ASUM. -/
def execAsum (e : Fin 4) (s : State) : Host.Outcome State Fault Refusal :=
  s.act fun d => d.issue e 0x34 (fun w => [32 + w.n]) (scalarSat 2 fun w x => rnd ((x.accum w.n).foldl (· + ·) 0) w.sh)

/-! ### Streams (R248, R249) -/

/-- INA: an empty FIFO gives zero lanes and tag 0xFFFF_FFFF. -/
def execIna (e : Fin 4) (s : State) : Host.Outcome State Fault Refusal :=
  s.act fun d => (d.issue e 0x35 rdNone fun w x =>
    match x.ap with
    | [] => TrdOut.plain ((x.setV w.d (List.replicate 16 0)).setS w.b (-1))
    | y :: ys =>
      let x := { x with ap := ys }
      TrdOut.plain ((x.setV w.d (y.lanes.map fun (n : Nat) => (n : Int))).setS w.b (s32 (y.tag : Int)))).fifoStat e.val

/-- Pops up to `room` detector entries, oldest first, settling entries discarded when `skip`: those delivered and those
left. -/
def popDet (skip : Bool) : Nat → List DetEntry → List DetEntry × List DetEntry
  | _, [] => ([], [])
  | 0, xs => ([], xs)
  | n + 1, x :: xs =>
    if skip && bit x.tag 9 then popDet skip (n + 1) xs
    else let r := popDet skip n xs
      (x :: r.1, r.2)

/-- A value of more than 31 bits is delivered clamped, with its tag's bit 13 (R249). -/
def DetEntry.clamped (y : DetEntry) : Bool := decide (2 ^ 31 ≤ y.value)

/-- IND. -/
def execInd (e : Fin 4) (s : State) : Host.Outcome State Fault Refusal :=
  s.act fun d =>
    match d.fetch e with
    | (none, d) => d
    | (some w, d) =>
      if w.op ≠ 0x36 then d
      else
        let x := d.engine e.val
        let r := popDet (w.m == 1) 16 x.det
        let pad (xs : List Int) (v : Int) : List Int := xs ++ List.replicate (16 - xs.length) v
        let vals : List Int := r.1.map fun y => ((min y.value (2 ^ 31 - 1) : Nat) : Int)
        let tags : List Int := r.1.map fun y => s32 ((y.tag + (if y.clamped then 2 ^ 13 else 0) : Nat) : Int)
        let y := ((({ x with det := r.2 }.setV w.d (pad vals 0)).setV w.b (pad tags (-1))).setS w.a (r.1.length : Int))
        let d := d.add (TRD_CLAMP.count e.val) (r.1.filter DetEntry.clamped).length
        (d.leave e.val x (TrdOut.plain y) 0).fifoStat e.val

/-- The index that a search writes (R247); the spec states none for m 2 and 3, and it is a free value there (log 6). -/
def Device.searchIndex (d : Device) (w : TWord) (x : Engine) (k : Nat) : Int :=
  if w.m = 0 then s32 (x.sreg w.b + (k : Int))
  else if w.m = 1 then (x.vec w.b).getD k 0
  else sx 32 (Config.free d.freeN)

/-- A search over Va against Sd. -/
def Device.search (d : Device) (e : Fin 4) (op : Nat) (better : Int → Int → Bool) : Device :=
  (d.issue e op (fun w => [w.d, 16 + w.a, if w.m = 0 then w.b else 16 + w.b]) fun w x =>
    let (v, k) := bestLane better (x.vec w.a)
    if better v (x.sreg w.d) then TrdOut.plain ((x.setS w.d v).setS ((w.d + 1) % 16) (d.searchIndex w x k))
    else TrdOut.plain x).nextFree

/-- MAXI. -/
def execMaxi (e : Fin 4) (s : State) : Host.Outcome State Fault Refusal :=
  s.act fun d => d.search e 0x38 fun a b => decide (b < a)

/-- MINI. -/
def execMini (e : Fin 4) (s : State) : Host.Outcome State Fault Refusal :=
  s.act fun d => d.search e 0x39 fun a b => decide (a < b)

/-! ### Records and the trigger (R254, R255) -/

/-- An engine record: its words are read through Ar. -/
def Device.trdRecord (d : Device) (e : Nat) (w : TWord) (n : Nat) : List Byte :=
  let x := d.engine e
  let hdr := be 2 0x5452 ++ be 1 1 ++ be 1 e ++ be 2 (d.channelOf x.pick) ++ be 8 x.pick ++ be 2 n ++
    be 4 (low 32 (x.sreg w.a)) ++ be 8 0
  let data := (List.range n).flatMap fun k => be 4 (x.load (x.addrOf w.r k))
  hdr ++ be 4 (crc32c (hdr ++ data)) ++ data

/-- EMIT. -/
def execEmit (e : Fin 4) (s : State) : Host.Outcome State Fault Refusal :=
  s.act fun d =>
    match d.fetch e with
    | (none, d) => d
    | (some w, d) =>
      if w.op ≠ 0x3A then d
      else
        let k := e.val
        let x := d.engine k
        let want := low 13 w.imm
        let n := min want 4096
        let rec_ := d.trdRecord k w n
        let d := d.leave k x { TrdOut.plain x with cycles := 1 + (n + 15) / 16 } (x.stall (rdA w))
        let d := if 4096 < want then d.put (TRD_STAT.emit_trunc k) true else d
        if d.flag (TRD_QUEUE.valid k w.m) then
          (d.inc (TRD_EMIT_CNT.count k)).offer (2 ^ 15 + d.get (TRD_QUEUE.queue k w.m)) rec_
        else d.put (TRD_STAT.emit_drop k) true

/-- TRIG: at most one trigger for each engine pick; with trig_en 0, as it stood for that pick (02 R33), it only counts. -/
def execTrig (e : Fin 4) (t : Nat) (s : State) : Host.Outcome State Fault Refusal :=
  s.act fun d =>
    match (d.at_ t).fetch e with
    | (none, d) => d
    | (some w, d) =>
      if w.op ≠ 0x3B then d
      else
        let k := e.val
        let x := d.engine k
        let cause := low 32 (x.sreg w.a)
        let on := (d.seenBy k).liveOf (TRD_CTL.trig_en k) == 1
        let d := d.leave k x (TrdOut.plain { x with trigged := x.trigged || on }) (x.stall (rdA w))
        let d := d.inc (TRD_TRIG_CNT.count k)
        if !on then d
        else if x.trigged then d.put (TRD_STAT.trig_merged k) true
        else ((d.set (TRD_TRIG_CAUSE.value k) cause).set (TRD_TRIG_PN.value k) x.pick).trigger d.tm.now (2 + k) cause

/-! ### Data memory (R245) -/

/-- LDV. -/
def execLdv (e : Fin 4) (s : State) : Host.Outcome State Fault Refusal :=
  s.act fun d => d.issue e 0x3C rdNone fun w x =>
    let vs := (List.range 16).map fun k => sx 32 (x.load (x.addrOf w.r k))
    let two := !x.contiguous w.r
    let y := (x.setV w.d vs).postModify w.r w.m
    { TrdOut.plain y.1 with reduce := y.2, cycles := if two then 2 else 1, slow := if two then some (16 + w.d) else none }

/-- STV. -/
def execStv (e : Fin 4) (s : State) : Host.Outcome State Fault Refusal :=
  s.act fun d => d.issue e 0x3D rdVA fun w x =>
    let z := (x.vec w.a).zipIdx.foldl (fun (z : Engine) v => z.storeWord (x.addrOf w.r v.2) v.1) x
    let y := z.postModify w.r w.m
    { TrdOut.plain y.1 with reduce := y.2, cycles := if x.contiguous w.r then 1 else 2 }

/-- LDS. -/
def execLds (e : Fin 4) (s : State) : Host.Outcome State Fault Refusal :=
  s.act fun d => d.issue e 0x3E rdNone fun w x =>
    let y := (x.setS w.d (sx 32 (x.load (x.addrOf w.r 0)))).postModify w.r w.m
    { TrdOut.plain y.1 with reduce := y.2 }

/-- STS. -/
def execSts (e : Fin 4) (s : State) : Host.Outcome State Fault Refusal :=
  s.act fun d => d.issue e 0x3F rdA fun w x =>
    let y := (x.storeWord (x.addrOf w.r 0) (x.sreg w.a)).postModify w.r w.m
    { TrdOut.plain y.1 with reduce := y.2 }

/-! ### Start and clear -/

/-- The engine starts at word 0 with its pick event set, 256 picks after its load began (R256). -/
def execEngineStart (e : Fin 4) (s : State) : Host.Outcome State Fault Refusal :=
  s.act fun d =>
    let k := e.val
    let x := d.engine k
    match x.startAt with
    | none => d
    | some b =>
      if d.trdState k = 1 ∧ ahead d.pn b then
        let d := d.setEngine k { x with startAt := none, event := true, pc := 0, busy := none, slow := none }
        (d.set (TRD_STAT.state k) 2).set (TRD_PC.pc k) 0
      else d

/-- What TRD_CLR clears. -/
def Device.trdClr (d : Device) (e : Nat) : Device :=
  [TRD_BUSY.word, TRD_OVERRUN.word, TRD_SATCNT.word, TRD_DROP.word, TRD_TRIG_CNT.word, TRD_EMIT_CNT.word,
   TRD_CLAMP.word].foldl (fun d f => d.set (f e) 0) d

/-- The engine's counters and TRD_BUSY return to 0 (R258). -/
def execTrdClr (e : Fin 4) (s : State) : Host.Outcome State Fault Refusal :=
  s.act fun d => d.trdClr e.val

end Sys2Proof.Machine
end

