-- ==== Sys2Proof/Machine/Weave.lean ====
section
/-! DEFINITION. Weaving (12 R327, R328, R348 to R358): the requests on the staging slot, the preparation of an armed weave,
and what a weave puts into each block at its boundary. -/

namespace Sys2Proof.Machine

/-! ### Boundaries that qualify (02 R36) -/

/-- A period divides the 1.6 × 10^9 loom cycles of a second (R27). -/
def ppsAligned (p : Nat) : Bool := decide (0 < p) && 1600000000 % p == 0

/-- Boundary `x` qualifies for a change to period `p` (R36). -/
def Device.qualifies (d : Device) (x p : Nat) : Bool :=
  if ppsAligned p then
    match d.tm.second with
    | none => false
    | some sec => (d.boundaryTime x - sec) % p == 0
  else true

/-! ### Requests (R327, R328, R348, R353, R357) -/

/-- A draft request is refused; with a code, PCK_WEAVE_STAT reports it. -/
def Device.refuseWeave (d : Device) (code : Option Nat) : Device :=
  let d := d.put PCK_WEAVE_STAT.refused true
  match code with
  | none => d
  | some c => d.set PCK_WEAVE_STAT.code c

/-- op 1: a check (R328). -/
def Device.checkRequest (d : Device) : Device :=
  if d.stage = 1 then d.set PCK_WEAVE_STAT.stage 2 else d.refuseWeave (some 25)

/-- op 5: the staging slot becomes EMPTY. -/
def Device.stagingClear (d : Device) : Device :=
  if d.stage = 2 ∨ d.stage = 5 then d.refuseWeave none
  else
    let d := { d with drafts := { d.drafts with written := [] } }
    (d.set PCK_WEAVE_STAT.stage 0).setPair PCK_STAGE_ID_LO.id_lo PCK_STAGE_ID_HI.id_hi 0

/-- PCK_WEAVE_AT. -/
def Device.weaveAt (d : Device) : Nat := d.pair PCK_WEAVE_AT_LO.at_lo PCK_WEAVE_AT_HI.at_hi

/-- S_old of R351: 0 when no draft is woven. -/
def Device.oldShed (d : Device) : Nat := if d.woven then d.shedLen else 0

/-- D of R351. -/
def Device.weaveDeadline (d : Device) (w : Nat) : Nat := (w + 2 ^ 64 - max d.oldShed 256) % 2 ^ 64

/-- The ring of each enabled queue of a draft: queue, start, size (11 R299). -/
def draftRings (m : Sparse Byte) : List (Nat × Nat × Nat) :=
  ((List.range 8192).foldl (fun (p : Nat × List (Nat × Nat × Nat)) q =>
    if bit (draftQueue m q) 21 then
      let n := 2 ^ 20 * (secN m 9 (140 + 8 * q) 4 % 65536)
      (p.1 + n, (q, p.1, n) :: p.2)
    else p) (memF m 58 6, [])).2.reverse

/-- The regions of the woven draft that stay in use (R349), the rings apart. -/
def staysInUse (m : Sparse Byte) : List Region :=
  ((regions m).filter fun r => [28, 34, 40, 46, 52].contains r.field && r.sect == 5) ++ matrixRegions m

/-- OVERLAP (R348, R349): a region of the new draft meets one that stays in use, other than a kept queue's own ring. -/
def overlaps (old new : Sparse Byte) : Bool :=
  let ring (r : Nat × Nat × Nat) : Region := { start := r.2.1, size := r.2.2, sect := 5, field := 58 }
  let kept := staysInUse old
  let oldRings := draftRings old
  let fresh := (regions new).filter fun r => !(r.sect == 5 && r.field == 58)
  let newRings := draftRings new
  (fresh.any fun r => kept.any (Region.meets r) || oldRings.any fun q => r.meets (ring q)) ||
  newRings.any fun q => kept.any (Region.meets (ring q)) ||
    oldRings.any fun p => (ring q).meets (ring p) && !(q == p)

/-- RING_MOVE: a queue enabled in both drafts with the same ring size lies elsewhere. -/
def ringMoves (old new : Sparse Byte) : Bool :=
  let xs := draftRings old
  (draftRings new).any fun q => xs.any fun p => q.1 == p.1 && q.2.2 == p.2.2 && q.2.1 != p.2.1

/-- CAPTURE_HELD. -/
def Device.captureHeld (d : Device) (old new : Sparse Byte) : Bool :=
  (memF old 0 6 != memF new 0 6 || memF old 10 6 != memF new 10 6 || memF old 6 2 != memF new 6 2) &&
  (List.range 16).any fun n => d.capState n != 0

/-- The refusal of an arm for `w` (R348): the first code that applies. -/
def Device.armRefusal (d : Device) (w : Nat) : Option Nat :=
  let m := d.drafts.staging
  let p := secN m 1 0 2
  let now := d.pn
  if d.stage ≠ 3 then some 16
  else if w % 2 ^ secN m 1 2 1 ≠ 0 ∨ (d.woven ∧ w % d.shedLen ≠ 0) ∨ (p ≠ d.periodAt w ∧ !d.qualifies w p) then some 17
  else if !ahead w (now + 32768) ∨ ahead now (d.weaveDeadline w) then some 18
  else if d.drafts.armed.isSome then some 19
  else if d.woven ∧ overlaps d.draft m then some 20
  else if d.woven ∧ ringMoves d.draft m then some 21
  else if d.woven ∧ d.captureHeld d.draft m then some 22
  else if !d.running then some 23
  else none

/-- op 2: an arm for the boundary now in PCK_WEAVE_AT. -/
def Device.armRequest (d : Device) : Device :=
  let w := d.weaveAt
  match d.armRefusal w with
  | some c => d.refuseWeave (some c)
  | none =>
    let p := secN d.drafts.staging 1 0 2
    let changes := d.changesPeriod w p
    let a : Armed := { w := w, unweave := false, deadline := d.weaveDeadline w, changesP := changes, prepared := false }
    let d := { d with drafts := { d.drafts with armed := some a } }.set PCK_WEAVE_STAT.stage 5
    if changes then d.periodWords w p else d

/-- op 4: an unweave at the boundary now in PCK_WEAVE_AT (R357). -/
def Device.unweaveRequest (d : Device) : Device :=
  let w := d.weaveAt
  let now := d.pn
  let code :=
    if !d.woven then some 26
    else if w % d.shedLen ≠ 0 then some 17
    else if !ahead w (now + 256) ∨ ahead now (d.weaveDeadline w) then some 18
    else if d.drafts.armed.isSome then some 19
    else if !d.running then some 23
    else none
  match code with
  | some c => d.refuseWeave (some c)
  | none =>
    let a : Armed := { w := w, unweave := true, deadline := d.weaveDeadline w, changesP := false, prepared := true }
    { d with drafts := { d.drafts with armed := some a } }.put PCK_WEAVE_STAT.unweave_armed true

/-- An armed weave or unweave is dropped: a weave's slot is CHECKED again, and upstream learns the period that stays in force
at W (R352, R353, R356). -/
def Device.disarm (d : Device) : Device :=
  match d.drafts.armed with
  | none => d
  | some a =>
    let d := { d with drafts := { d.drafts with armed := none } }
    if a.unweave then d.put PCK_WEAVE_STAT.unweave_armed false
    else
      let d := d.set PCK_WEAVE_STAT.stage 3
      let d := { d with setter := { d.setter with sets := d.setter.sets.filter fun x => x.shed != a.w } }
      if a.changesP then d.periodWords a.w (d.periodAt a.w) else d

/-- op 3: a cancel (R353). -/
def Device.cancelRequest (d : Device) : Device :=
  match d.drafts.armed with
  | none => d.refuseWeave (some 27)
  | some a => if ahead d.pn a.deadline then d.refuseWeave (some 24) else d.disarm

/-- A write of `op` to PCK_WEAVE (R360). -/
def Device.weaveOp (d : Device) (op : Nat) : Device :=
  match op with
  | 1 => d.checkRequest
  | 2 => d.armRequest
  | 3 => d.cancelRequest
  | 4 => d.unweaveRequest
  | 5 => d.stagingClear
  | _ => d

/-- CHECK_REQUEST. -/
def execCheckRequest (m : Master) (s : State) : Host.Outcome State Fault Refusal :=
  s.actReg m.val fun d => d.checkRequest

/-- ARM_REQUEST. -/
def execArmRequest (m : Master) (t : Nat) (s : State) : Host.Outcome State Fault Refusal :=
  s.actReg m.val fun d => (d.at_ t).armRequest

/-- CANCEL_REQUEST. -/
def execCancelRequest (m : Master) (s : State) : Host.Outcome State Fault Refusal :=
  s.actReg m.val fun d => d.cancelRequest

/-- UNWEAVE_REQUEST. -/
def execUnweaveRequest (m : Master) (t : Nat) (s : State) : Host.Outcome State Fault Refusal :=
  s.actReg m.val fun d => (d.at_ t).unweaveRequest

/-- STAGING_CLEAR. -/
def execStagingClear (m : Master) (s : State) : Host.Outcome State Fault Refusal :=
  s.actReg m.val fun d => d.stagingClear

/-- The check ends (R345): CHECKED with the draft's identifier, or FAILED with code, section and offset. A notice reports it
(R328). -/
def execCheckEnd (s : State) : Host.Outcome State Fault Refusal :=
  s.act fun d =>
    if d.stage ≠ 2 then d
    else
      let d := match d.draftError with
        | none =>
          let id := rdN d.drafts.staging 8 8
          (d.set PCK_WEAVE_STAT.stage 3).setPair PCK_STAGE_ID_LO.id_lo PCK_STAGE_ID_HI.id_hi id
        | some e =>
          (((d.set PCK_WEAVE_STAT.stage 4).set PCK_WEAVE_STAT.code e.code).set PCK_WEAVE_STAT.sect e.sect).set
            PCK_WEAVE_ERR_OFS.offset e.off
      d.eventNotice 0x20000 PCK_WEAVE_STAT.word.addr

/-! ### Preparation (R351, R333, 08 R234) -/

/-- The default pattern goes into the new draft's bank A region: the BEAMS section's bank, or an empty one. -/
def Device.writeBankA (d : Device) : Device :=
  let m := d.drafts.staging
  let a := memF m 46 6
  match section_ m 6 with
  | some e => d.storeFor .bankWrite a (Sparse.getAll memDflt m e.off bankSize)
  | none => d.storeFor .bankWrite a (be 2 0x4850 ++ List.replicate 4094 0)

/-- Every tag of the state area at `base` with `n` channels becomes 0, once the write-backs under way have completed
(08 R231, R234). -/
def Device.clearTags (d : Device) (base n : Nat) : Device :=
  (d.chains.units.foldl (fun d e => d.writeBack e.1) d).zeroTags base n

/-- The preparation is complete. With no draft woven, or S_old below 256, the first shed's weights are made in it. -/
def execWeavePreparationDone (s : State) : Host.Outcome State Fault Refusal :=
  s.act fun d =>
    match d.drafts.armed with
    | none => d
    | some a =>
      if a.unweave ∨ a.prepared then d
      else
        let m := d.drafts.staging
        let d := d.writeBankA.clearTags (memF m 28 6) (nEnt m)
        let d := if d.oldShed < 256 then
            let (w, d) := d.stagedSet a.w
            let (w, d) := d.fillSet w
            { d with setter := d.setter.addSet w }
          else d
        { d with drafts := { d.drafts with armed := some { a with prepared := true } } }

/-! ### What a weave loads (R354, R358) -/

/-- Sets a 48-bit address pair. -/
def Device.setAddr (d : Device) (lo hi : Fld) (v : Nat) : Device := d.setPair lo hi v

/-- PCK: the period and the shed length. -/
def Device.setPeriod (d : Device) (p : Nat) : Device :=
  (d.set PCK_CFG.period p).put PCK_CFG.pps_aligned (ppsAligned p)

/-- WRP_BLANK from INPUTS (R336). -/
def Device.loadBlanks (d : Device) (m : Sparse Byte) : Device :=
  (List.range 64).foldl (fun d p =>
    let x := secN m 3 (8 * p) 8
    (d.setBoth (WRP_BLANK_LO.blank_lo p) (x % 2 ^ 32)).setBoth (WRP_BLANK_HI.blank_hi p) (x / 2 ^ 32)) d

/-- HST and the journal's fields from MEMORY (R339). -/
def Device.loadMemory (d : Device) (m : Sparse Byte) : Device :=
  let d := d.setAddr HST_BASE_A_LO.base_lo HST_BASE_A_HI.base_hi (memF m 46 6)
  let d := d.setAddr HST_BASE_B_LO.base_lo HST_BASE_B_HI.base_hi (memF m 52 6)
  let d := d.setAddr HST_GAIN0_LO.base_lo HST_GAIN0_HI.base_hi (memF m 34 6)
  let d := d.setAddr HST_GAIN1_LO.base_lo HST_GAIN1_HI.base_hi (memF m 40 6)
  let d := (d.set HST_GEN.beam_limit (memF m 74 2)).setBoth HST_GAIN_SEL.gain_set (memF m 72 1)
  let d := d.setAddr ZCH_STATE_BASE_LO.base_lo ZCH_STATE_BASE_HI.base_hi (memF m 28 6)
  let d := (d.set JRN_CFG.n_seg (memF m 6 2)).set JRN_CFG.cap_limit (memF m 8 2)
  let d := d.setAddr JRN_BASE_LO.base_lo JRN_BASE_HI.base_hi (memF m 0 6)
  let d := d.setAddr JRN_DIR_BASE_LO.base_lo JRN_DIR_BASE_HI.base_hi (memF m 10 6)
  let d := d.setAddr JRN_SLOG_BASE_LO.base_lo JRN_SLOG_BASE_HI.base_hi (memF m 16 6)
  let d := (d.setBoth JRN_CAP_PRE.picks (memF m 64 4)).setBoth JRN_CAP_POST.picks (memF m 68 4)
  d.setAddr SPL_RING_BASE_LO.base_lo SPL_RING_BASE_HI.base_hi (memF m 58 6)

/-- ZCH and PWD from CHAINS (R341). -/
def Device.loadChains (d : Device) (m : Sparse Byte) : Device :=
  let d := (List.range 128).foldl (fun d z =>
    let f (off n : Nat) : Nat := secN m 7 (16 * z + off) n
    let d := ((d.set (ZCH_CFG.beam z) (f 0 2)).set (ZCH_CFG.n_hb z) (f 2 1)).set (ZCH_CFG.preset z) (f 3 1)
    let d := (d.set (ZCH_CFG.wide z) (f 4 1)).put (ZCH_CFG.configured z) (bit (f 0 2) 15)
    ((d.set (ZCH_CFG.queue z) (f 6 2)).set (ZCH_RATIO.ratio z) (f 8 4)).setBoth (ZCH_SHIFT.shift z) (f 5 1)) d
  (List.range 512).foldl (fun d k =>
    let f (off n : Nat) : Nat := secN m 7 (2048 + 16 * k + off) n
    let d := (d.set (PWD_CFG.length k) (f 0 2)).set (PWD_CFG.decim k) (f 2 2)
    let d := (d.put (PWD_OUT.configured k) (bit (f 5 1) 0)).set (PWD_OUT.queue k) (f 6 2)
    d.setBoth (PWD_OUT.shift k) (f 4 1)) d

/-- The spool's and cloth ports' fields from QUEUES, DESTINATIONS and TIMING (R334, R343, R344). -/
def Device.loadQueues (d : Device) (m : Sparse Byte) : Device :=
  let f (off n : Nat) : Nat := secN m 9 off n
  let d := (d.setBoth SPL_CFG.hb_period (f 0 2)).set SPL_DEV_TAG.value (secN m 1 4 4)
  let d := (List.range 16).foldl (fun d n =>
    (d.set (SPL_RC_RATE.word n) (f (8 + 8 * n) 4)).set (SPL_RC_TIME.word n) (f (12 + 8 * n) 4)) d
  let d := (List.range 8192).foldl (fun d q =>
    (d.set (SPL_QCFG_A.word q) (f (136 + 8 * q) 4)).set (SPL_QCFG_B.word q) (f (140 + 8 * q) 4)) d
  let d := (List.range 32768).foldl (fun d i => d.set (SPL_DEST.word i) (ofBe (secBytes m 10 (4 * i) 4))) d
  (List.range 32).foldl (fun d c =>
    let a := 66704 + 16 * c
    let d := d.setAddr (CLO_MAC_LO.mac_lo c) (CLO_MAC_HI.mac_hi c) (f a 6)
    (d.set (CLO_IP.ip c) (f (a + 6) 4)).set (CLO_UDP.rcpt_port c) (f (a + 10) 2)) d

/-- The offset of engine `e`'s block in TREADLE (R342). -/
def engineBlock (m : Sparse Byte) : Nat → Nat
  | 0 => 0
  | e + 1 => let o := engineBlock m e; o + secN m 8 (o + 8) 4

/-- The data image of `n` runs from byte `o` of TREADLE. -/
def dataImage (m : Sparse Byte) : Nat → Nat → Sparse W32 → Sparse W32
  | 0, _, x => x
  | n + 1, o, x =>
    let a := secN m 8 o 2
    let c := secN m 8 (o + 2) 2
    let c := if c = 0 then 65536 else c
    let x := (List.range c).foldl (fun x i =>
      Sparse.put (fun _ => (0 : W32)) x ((a + i) % 65536) (BitVec.ofNat 32 (secN m 8 (o + 4 + 4 * i) 4))) x
    dataImage m n (o + 4 + 4 * c) x

/-- Engine `e` stops and loads (09 R256, R240): it is to start at pick `b` + 256 and accepts stream entries from interval
`b` + 255. An engine without a program is IDLE, and nothing of its block is loaded. -/
def Device.loadEngine (d : Device) (m : Sparse Byte) (b e : Nat) : Device :=
  let o := engineBlock m e
  let f (off n : Nat) : Nat := secN m 8 (o + off) n
  let n := f 0 2
  let on := n ≠ 0
  let x : Engine :=
    if on then
      { Engine.cold with
        prog := (List.range n).foldl (fun p i =>
          Sparse.put (fun _ => (0 : BitVec 64)) p i (BitVec.ofNat 64 (f (192 + 8 * i) 8))) []
        data := dataImage m (f 4 2) (o + 192 + 8 * n) []
        startAt := some ((b + 256) % 2 ^ 64)
        fifoFrom := some ((b + 255) % 2 ^ 64) }
    else Engine.cold
  let d := (d.setEngine e x).fifoStat e
  let d := ((d.set (TRD_STAT.state e) (if on then 1 else 0)).set (TRD_PC.pc e) 0).put (TRD_CFG.loaded e) on
  let v (off n : Nat) : Nat := if on then f off n else 0
  let d := (d.set (TRD_CFG.apu_sub e) (v 2 1)).set (TRD_CFG.cycle_bound e) (v 12 2)
  let d := (List.range 4).foldl (fun d k =>
    (d.set (TRD_QUEUE.queue e k) (v (16 + 2 * k) 2)).put (TRD_QUEUE.valid e k) (bit (v (16 + 2 * k) 2) 15)) d
  let d := (List.range 16).foldl (fun d j =>
    d.set (TRD_DSUB.mask e j) (if on then ofLe (secBytes m 8 (o + 64 + 4 * j) 4) else 0)) d
  if on then
    let d := d.setBoth (TRD_CTL.trig_en e) (f 2 1 / 2)
    (List.range 16).foldl (fun d k => d.setBoth (TRD_PARAM.param e k) (f (128 + 4 * k) 4)) d
  else d

/-- Every engine loads at pick `b`. -/
def Device.loadEngines (d : Device) (m : Sparse Byte) (b : Nat) : Device :=
  let d := match section_ m 8 with
    | none => d
    | some e => d.enters .engineLoad (0x040042000000 + e.off) e.len false false
  (List.range 4).foldl (fun d e => d.loadEngine m b e) d

/-- The looms' order and policy and the placement of the draft (05 R138, R148; 12 R335). -/
def Device.loadLooms (d : Device) (m : Sparse Byte) : Device :=
  let d := d.set CRL_CFG.word (secN m 1 3 1 % 2)
  let d := (List.range 512).foldl (fun d n => d.set (CRL_ORDER.pass_num n) (declaredPass m n)) d
  let d := d.set CRL_ABSENT.order_pos 0
  let d := { d with tm := { d.tm with stretch := none }, sheds := { d.sheds with replaceDue := false, placed := true } }
  let d := d.seatAll fun l => secN m 2 (2048 + l) 1
  let d := (List.range 512).foldl (fun d n => d.set (CRL_PLACE.word n) 0) d
  let d := (List.range 512).foldl (fun d i =>
    let n := bits (secN m 2 (4 * i) 4) 16 9
    let k := d.get (CRL_LMAP.physical (i / 8))
    if k < 68 then d.placePass n k (i % 8) none else d.set (CRL_PLACE.state n) 2) d
  let d := d.lendRoles
  if d.orphans.isEmpty then d.crlStat else d.orphaned.replaceNow

/-- The rings as they lie now, as `draftRings` gives those of a draft. -/
def Device.ringsNow (d : Device) : List (Nat × Nat × Nat) :=
  ((List.range 8192).foldl (fun (p : Nat × List (Nat × Nat × Nat)) q =>
    if d.qOn q then (p.1 + d.ringSize q, (q, p.1, d.ringSize q) :: p.2) else p)
    (d.pair SPL_RING_BASE_LO.base_lo SPL_RING_BASE_HI.base_hi, [])).2.reverse

/-- The queues that a draft keeps: those whose ring stays where it is (11 R321). RING_MOVE sees to the place while a draft is woven;
DESIGN CHOICE (log 90): after an unweave a queue whose ring the new draft puts elsewhere is reset. -/
def Device.keptQueues (d : Device) (m : Sparse Byte) : List Nat :=
  let now := d.ringsNow
  ((draftRings m).filter fun r => r.2.2 != 0 && now.contains r).map Prod.fst

/-- The queues at a weave (11 R321): those that the draft keeps go on, the others are reset, and every queue takes its home.
`m` is the new draft; the old one's values still stand in the registers. -/
def Device.weaveQueues (d : Device) (m : Sparse Byte) : Device :=
  let kept := d.keptQueues m
  let homes := kept.map fun q => (q, d.qHome q)
  let d := d.queues.foldl (fun d e => if kept.contains e.1 then d else d.resetQueue e.1) d
  let d := d.loadQueues m
  let d := kept.foldl Device.refitQueue d
  let d := (List.range 8192).foldl (fun d q => if d.qOn q && !kept.contains q then d.startQueue q else d) d
  d.rehomeAll fun q => (homes.find? fun e => e.1 == q).map Prod.snd

end Sys2Proof.Machine
end

