-- ==== Sys2Proof/Machine/WarpOps.lean ====
section
/-! DEFINITION. The warp link's receive path up to the end of a frame: line coding (03 R57 to R62), markers (R63 to R66),
loss of lock and training (R74 to R78), and the reed (R67 to R69) that makes one byte stream of four lanes. -/

namespace Sys2Proof.Machine

/-- A data lane that has received nothing. -/
def Lane.cold : Lane :=
  { gen := 0, run := 0, runBit := false, violations := 0, crcFails := 0, lastCount := none, markerPort := 0, nonTrain := false,
    windowBlocks := 0, windowIdle := 0, goodEyes := 0, afterRollback := false, history := [], rollbacks := [], fifo := [] }

/-- Physical lane `k` of port `p`. -/
def Device.lane (d : Device) (p k : Nat) : Lane := Sparse.get (fun _ => Lane.cold) d.lanes (4 * p + k)

/-- Sets physical lane `k` of port `p`. -/
def Device.setLane (d : Device) (p k : Nat) (x : Lane) : Device :=
  { d with lanes := Sparse.put (fun _ => Lane.cold) d.lanes (4 * p + k) x }

/-- The port's state code (R74). -/
def Device.wstate (d : Device) (p : Nat) : Nat := d.get (WRP_PSTAT.state p)

/-- The port is enabled and its receivers have a clock: CLOCK_OK or a later state. -/
def Device.receiving (d : Device) (p : Nat) : Bool := d.liveOf (WRP_CTL.enable p) == 1 && decide (2 ≤ d.wstate p)

/-- Frames get no answer: a warm reset has begun and the device has not resumed (04 R100, 10 R290, 18 R499). -/
def Device.mute (d : Device) : Bool := d.jrn.quiesced.isSome

/-! ### Line coding -/

/-- What destuffing works on: the run of identical bits, the bits kept (newest first), the violations found. -/
structure Destuff where
  run : Nat
  runBit : Bool
  out : List Bool
  bad : Nat

/-- One received bit (R61, R62): the bit after 31 identical ones is removed; of the same value, it is a violation. -/
def Destuff.bit (x : Destuff) (b : Bool) : Destuff :=
  if x.run = 31 then
    if b = x.runBit then { x with run := 0, bad := x.bad + 1 } else { x with run := 1, runBit := b }
  else { x with run := if b = x.runBit ∧ x.run ≠ 0 then x.run + 1 else 1, runBit := b, out := b :: x.out }

/-- Stuffing of line bits (R61): after 31 identical bits, one of the opposite value. Newest first. -/
def Destuff.stuff (x : Destuff) (b : Bool) : Destuff :=
  let run := if b = x.runBit ∧ x.run ≠ 0 then x.run + 1 else 1
  if run = 31 then { x with run := 1, runBit := !b, out := (!b) :: b :: x.out }
  else { x with run := run, runBit := b, out := b :: x.out }

/-- One step of the generator x^31 + x^28 + 1 (R60): its output bit and next state. -/
def keyBit (st : Nat) : Bool × Nat :=
  let k := (st / 2 ^ 30 + st / 2 ^ 27) % 2
  (k == 1, (2 * st + k) % 2 ^ 31)

/-- Bits XORed with the generator's output, and its state after them. -/
def scramble : Nat → List Bool → List Bool × Nat
  | st, [] => ([], st)
  | st, b :: bs =>
    let (k, st) := keyBit st
    let (rest, st) := scramble st bs
    ((b != k) :: rest, st)

/-- Bits, first bit most significant, as a number. -/
def ofBits (bs : List Bool) : Nat := bs.foldl (fun a b => 2 * a + (if b then 1 else 0)) 0

/-- The low `n` bits of `x`, most significant first. -/
def toBits (n x : Nat) : List Bool := (List.range n).map fun i => bit x (n - 1 - i)

/-- The generator's seed for data lane `l` of port `p` (R60). -/
def laneSeed (p l : Nat) : Nat := 0x55555500 ||| (p * 4) ||| l

/-- What the receiver makes of a block's line bits: the block as a number, bit 255 first, and whether it is errored. -/
structure RxBlock where
  value : Nat
  errored : Bool

/-- Receives the line bits of one block: they are destuffed, put upright and, outside a marker, descrambled. A stuffed bit
that follows the block's last bit comes with the block. -/
def Device.rxBits (d : Device) (p k : Nat) (marker : Bool) (bs : List Bool) : RxBlock × Device :=
  let l := d.lane p k
  let s := bs.foldl Destuff.bit { run := l.run, runBit := l.runBit, out := [], bad := 0 }
  let up := (s.out.reverse.take 256).map fun b => b != d.flag (WRP_LSTAT.inverted p k)
  let (plain, gen) := if marker then (up, l.gen) else scramble l.gen up
  let d := d.setLane p k { l with run := s.run, runBit := s.runBit, gen := gen, violations := l.violations + s.bad }
  ({ value := ofBits plain, errored := s.bad ≠ 0 }, d.add (WRP_LCNT_STUFF.count p k) s.bad)

/-- The block's type code (R58). -/
def RxBlock.type (b : RxBlock) : Nat := bits b.value 253 3

/-- The block's body as 31 bytes. -/
def RxBlock.body (b : RxBlock) : List Byte := be 31 (b.value % 2 ^ 248)

/-- A block of a lane that is block-locked belongs to its measurement window (R79). -/
def Device.countBlock (d : Device) (p k : Nat) : Device :=
  if 2 ≤ d.get (WRP_LSTAT.lstate p k) then
    d.setLane p k { d.lane p k with windowBlocks := (d.lane p k).windowBlocks + 1 }
  else d

/-! ### Frames in the stream -/

/-- A frame is over: it waits for its checks, unless no frame is answered now. -/
def Device.endFrame (d : Device) (p now : Nat) (f : FrameAsm) (truncated : Bool) : Device :=
  let x := d.port p
  let e : EndedFrame :=
    { bytes := f.bytes.reverse, errored := f.errored, truncated := truncated, faulty := f.faulty, fatal := d.sup.fatalReject,
      index := f.index, ended := now }
  d.setPort p { x with frame := none, ended := if d.mute then x.ended else x.ended ++ [e] }

/-- An open frame is ended as truncated. -/
def Device.truncate (d : Device) (p now : Nat) : Device :=
  match (d.port p).frame with
  | none => d
  | some f => d.endFrame p now f true

/-- Marks the frame that is being assembled as errored (R85, R69). -/
def Device.markFrame (d : Device) (p : Nat) : Device :=
  let x := d.port p
  match x.frame with
  | none => d
  | some f => d.setPort p { x with frame := some { f with errored := true } }

/-- A frame's length in bytes (04 R91). -/
def frameLen : Nat := 16464

/-- Stream bytes that lie before any start field go to the open frame; the frame ends with its last byte. -/
def Device.frameBytes (d : Device) (p now : Nat) (bs : List Byte) : Device :=
  let x := d.port p
  match x.frame with
  | none => d
  | some f =>
    let f := { f with bytes := (bs.take (frameLen - f.bytes.length)).foldl (fun a b => b :: a) f.bytes }
    if f.bytes.length = frameLen then d.endFrame p now f false else d.setPort p { x with frame := some f }

/-- A chunk in stream order (04 R91): a start field in a frame truncates it, and a new frame begins at the byte it names.
The device sees frames while the port is UP. -/
def Device.streamChunk (d : Device) (p start now : Nat) (body : List Byte) : Device :=
  if d.wstate p ≠ 6 then d
  else if 31 ≤ start then d.frameBytes p now body
  else
    let d := (d.frameBytes p now (body.take start)).truncate p now
    let x := d.port p
    let f : FrameAsm := { bytes := [], errored := false, index := x.frameIndex, faulty := false }
    (d.setPort p { x with frame := some f, frameIndex := (x.frameIndex + 1) % 256 }).frameBytes p now (body.drop start)

/-! ### Loss of lock and the start of training (R74 to R78) -/

/-- A lane as training starts: its locks, window and queue go; its history and line run stay. DESIGN CHOICE (log 88): the record of
rollbacks (R82) starts anew, and the history of R81 goes on. -/
def Lane.restart (l : Lane) : Lane :=
  { Lane.cold with run := l.run, runBit := l.runBit, markerPort := l.markerPort, history := l.history }

/-- Training starts from WAIT: an open frame is truncated, every lane is DOWN, and the chunk count starts anew (R67). -/
def Device.startTraining (d : Device) (p : Nat) : Device :=
  let d := d.truncate p d.tm.now
  let d := (List.range 4).foldl (fun d k =>
    let d := d.setLane p k (d.lane p k).restart
    ((d.set (WRP_LSTAT.lstate p k) 0).put (WRP_LSTAT.frozen p k) false).put (WRP_LSTAT.unstable p k) false) d
  let d := (d.inc (WRP_TRAIN.train_count p)).set (WRP_PSTAT.state p) 1
  d.setPort p { d.port p with chunk := 0, lastChunkU := 0 }

/-- The lanes of `ks` lose lock, and the port trains again (R76). -/
def Device.loseLock (d : Device) (p : Nat) (ks : List Nat) : Device :=
  (ks.foldl (fun d k => d.inc (WRP_LCNT_LOCK.lock_losses p k)) d).startTraining p

/-- Sixteen stuffing violations between two markers lose the lane's lock (R76). -/
def Device.stuffingCheck (d : Device) (p k : Nat) : Device :=
  if 16 ≤ (d.lane p k).violations ∧ 2 ≤ d.get (WRP_LSTAT.lstate p k) then d.loseLock p [k] else d

/-! ### The reed (R67 to R69) -/

/-- The physical lane that carries logical lane `l`. -/
def Device.physical (d : Device) (p l : Nat) : Nat :=
  ((List.range 4).find? fun k => d.get (WRP_LSTAT.lane_id p k) == l).getD l

/-- Hands an entry of lane `k` to the reed. -/
def Device.toReed (d : Device) (p k : Nat) (e : ReedEntry) : Device :=
  let l := d.lane p k
  d.setLane p k { l with fifo := l.fifo ++ [e] }

/-- An entry is a marker. -/
def ReedEntry.isMarker : ReedEntry → Bool
  | .marker _ => true
  | .chunk _ _ _ => false
  | .errored => false
  | .lost => false

/-- The entries after the first marker. -/
def afterMarker (q : List ReedEntry) : List ReedEntry := (q.dropWhile fun e => !e.isMarker).drop 1

/-- The first marker's chunk_count. -/
def firstMarker (q : List ReedEntry) : Option Nat :=
  match q.find? ReedEntry.isMarker with
  | some (.marker n) => n
  | some (.chunk _ _ _) => none
  | some .errored => none
  | some .lost => none
  | none => none

/-- Every lane's queue holds a marker. -/
def Device.markerPoint (d : Device) (p : Nat) : Bool :=
  (List.range 4).all fun k => (d.lane p k).fifo.any ReedEntry.isMarker

/-- A rotation slip: counted, and the frame that spans it is marked. -/
def Device.slip (d : Device) (p : Nat) : Device := (d.inc (WRP_TRAIN.rotation_slips p)).markFrame p

/-- The marker point reaches the reed (R69): its counter takes Q. DESIGN CHOICE (log 87): chunks that a lane holds before its marker,
and that the counter has not reached, are dropped, and count as a slip also where the counter equals Q. -/
def Device.passMarkers (d : Device) (p : Nat) : Device :=
  let x := d.port p
  let qs := (List.range 4).map fun k => firstMarker (d.lane p k).fifo
  let left := (List.range 4).any fun k => ((d.lane p k).fifo.takeWhile fun e => !e.isMarker).any fun e => e != .errored
  let q := (qs.findSome? fun q => q).getD x.chunk
  let errs := (List.range 4).any fun k => ((d.lane p k).fifo.takeWhile fun e => !e.isMarker).any fun e => e == .errored
  let d := if errs then d.markFrame p else d
  let d := (List.range 4).foldl (fun d k =>
    let l := d.lane p k
    let bad := match firstMarker l.fifo with
      | none => false
      | some n => n != x.chunk
    let d := if bad then d.inc (WRP_LCNT_MRK.seq_err p k) else d
    (d.setLane p k { l with fifo := afterMarker l.fifo }).set (WRP_LSKEW.max_lead p k) 0) d
  let d := if q ≠ x.chunk ∨ left then d.slip p else d
  d.setPort p { d.port p with chunk := q }

/-- The reed's chunk counter moves to the next chunk, that arrived at `u`. -/
def Device.nextChunk (d : Device) (p u : Nat) : Device :=
  let x := d.port p
  d.setPort p { x with chunk := (x.chunk + 1) % 2 ^ 32, lastChunkU := u }

/-- Takes what the lanes hold, in chunk order, as far as it goes. DESIGN CHOICE (log 87): an errored block marks the frame that is
open when the reed reaches its lane's next turn, also where it came between two frames (R85). -/
def Device.reed (d : Device) (p : Nat) : Nat → Device
  | 0 => d
  | fuel + 1 =>
    let x := d.port p
    let k := d.physical p (x.chunk % 4)
    let l := d.lane p k
    match l.fifo with
    | [] => d
    | .chunk start body u :: rest =>
      let d := d.setLane p k { l with fifo := rest }
      let d := d.peak (WRP_LSKEW.max_lead p k) (x.lastChunkU - u)
      ((d.streamChunk p start (u / 16) body).nextChunk p u).reed p fuel
    | .errored :: rest => ((d.setLane p k { l with fifo := rest }).markFrame p).reed p fuel
    | .lost :: rest =>
      let d := (d.setLane p k { l with fifo := rest }).markFrame p
      ((d.frameBytes p d.tm.now (List.replicate 31 0)).nextChunk p x.lastChunkU).reed p fuel
    | .marker _ :: _ => if d.markerPoint p then (d.passMarkers p).reed p fuel else d

/-- Runs the reed over everything queued. -/
def Device.runReed (d : Device) (p : Nat) : Device :=
  d.reed p ((List.range 4).foldl (fun n k => n + (d.lane p k).fifo.length) 1)

/-! ### Blocks that are not markers -/

/-- A block that is neither TRAIN nor a marker has come on every lane since READY: the port is UP, its frame_index at 0
(R74, 04 R105). -/
def Device.comeUp (d : Device) (p : Nat) : Device :=
  if d.wstate p = 5 ∧ ((List.range 4).all fun k => (d.lane p k).nonTrain) then
    (d.set (WRP_PSTAT.state p) 6).setPort p { d.port p with frameIndex := 0 }
  else d

/-- Notes a block that is neither TRAIN nor a marker on lane `k`. -/
def Device.noteBlock (d : Device) (p k : Nat) : Device :=
  if d.wstate p = 5 then (d.setLane p k { d.lane p k with nonTrain := true }).comeUp p else d

/-- A block other than a marker comes on lane `k` of port `p`: `f` says what its type adds, once the lane has a generator
to descramble it with. A block whose own type is not one of `types` is not this command's. -/
def Device.rxBlock (d : Device) (p k : Nat) (bs : List Bool) (types : Nat → Bool) (f : RxBlock → Device → Device) : Device :=
  if !d.receiving p then d
  else
    let (b, d') := d.rxBits p k false bs
    if (d.lane p k).gen = 0 then d'
    else if !types b.type then d
    else (f b (d'.countBlock p k)).stuffingCheck p k

/-- What an errored or invalid block leaves for the reed (R85): an error mark, from READY on. -/
def Device.errorMark (d : Device) (p k : Nat) : Device :=
  if 5 ≤ d.wstate p then (d.toReed p k .errored).runReed p else d

end Sys2Proof.Machine
end

