-- ==== Sys2Proof/Machine/Warp.lean ====
section
/-! DEFINITION. The warp ports' commands: blocks and markers, training and adaptation (03 R57 to R85), a frame's checks and
its answer (04 R86 to R107), and the tie lane (03 R70 to R72, 04 R104 to R109). -/

namespace Sys2Proof.Machine

/-! ### Blocks -/

/-- A DATA block: a chunk for the reed; errored, it is taken as IDLE with an error mark; `overflow` loses it in the reed
and counts a slip (R67, R68, R85). -/
def execDataBlock (p : Fin 64) (k : Fin 4) (u : Nat) (bits : List Bool) (overflow : Bool) (s : State) :
    Host.Outcome State Fault Refusal :=
  s.act fun d => (d.at_ (u / 16)).rxBlock p.val k.val bits (fun t => t == 3) fun b d =>
    let d := d.noteBlock p.val k.val
    if b.errored then d.errorMark p.val k.val
    else if d.wstate p.val < 5 then d
    else if overflow then
      ((d.inc (WRP_TRAIN.rotation_slips p.val)).toReed p.val k.val .lost).runReed p.val
    else (d.toReed p.val k.val (.chunk (Machine.bits b.value 248 5) b.body u)).runReed p.val

/-- An IDLE block: counted for the idle rule once the lane is block-locked and its windows run (R79, R80). -/
def execIdleBlock (p : Fin 64) (k : Fin 4) (u : Nat) (bits : List Bool) (s : State) : Host.Outcome State Fault Refusal :=
  s.act fun d => (d.at_ (u / 16)).rxBlock p.val k.val bits (fun t => t == 0) fun b d =>
    let l := d.lane p.val k.val
    let n := if 2 ≤ d.get (WRP_LSTAT.lstate p.val k.val) then l.windowIdle + 1 else l.windowIdle
    let d := (d.setLane p.val k.val { l with windowIdle := n }).noteBlock p.val k.val
    if b.errored then d.errorMark p.val k.val else d

/-- A TRAIN block: in UP the port trains again (R76). -/
def execTrainBlock (p : Fin 64) (k : Fin 4) (u : Nat) (bits : List Bool) (s : State) : Host.Outcome State Fault Refusal :=
  s.act fun d => (d.at_ (u / 16)).rxBlock p.val k.val bits (fun t => t == 6) fun _ d =>
    if d.wstate p.val = 6 then d.startTraining p.val else d

/-- A block of invalid type: counted, taken as IDLE for striping, with an error mark (R58, R85). It is no TRAIN block, so it
counts among those that bring the port UP (R74, log 49). -/
def execInvalidTypeBlock (p : Fin 64) (k : Fin 4) (u : Nat) (bits : List Bool) (s : State) :
    Host.Outcome State Fault Refusal :=
  s.act fun d => (d.at_ (u / 16)).rxBlock p.val k.val bits (fun t => !(t == 0 || t == 3 || t == 5 || t == 6)) fun _ d =>
    ((d.inc (WRP_LCNT_HDR.count p.val k.val)).noteBlock p.val k.val).errorMark p.val k.val

/-! ### Markers (R63 to R66, R69, R74 to R76) -/

/-- The sync pattern of R63. -/
def syncPattern : Nat := 0x9C4B2E71D8A3560F

/-- How many of the low `n` bits of `x` are 1. -/
def ones (n x : Nat) : Nat := ((List.range n).filter fun i => bit x i).length

/-- A lane that has no lock takes a marker of count `c`: the second in sequence locks it (R74). -/
def Device.markerUnlocked (d : Device) (p k c : Nat) : Device :=
  match (d.lane p k).lastCount with
  | none => d
  | some n => if c = (n + 1) % 2 ^ 32 then d.set (WRP_LSTAT.lstate p k) 2 else d

/-- In CLOCK_OK with four locked lanes, the port number and the lane numbers decide on LOCKED (R74, R75). -/
def Device.tryLocked (d : Device) (p : Nat) : Device :=
  if d.wstate p ≠ 2 ∨ !((List.range 4).all fun k => decide (2 ≤ d.get (WRP_LSTAT.lstate p k))) then d
  else
    let ids := (List.range 4).map fun k => d.get (WRP_LSTAT.lane_id p k)
    if !((List.range 4).all fun i => ids.contains i) then d.put (WRP_PSTAT.lane_map_err p) true
    else if !((List.range 4).all fun k => (d.lane p k).markerPort == p) then d
    else d.set (WRP_PSTAT.state p) 3

/-- A marker point while the port trains: the four lanes' last markers carry one marker_count. It is checked like every other (R69),
and in ADAPTED the reed aligns the lanes on it, and the port is READY (R74). -/
def Device.alignPoint (d : Device) (p : Nat) : Device :=
  let same := (List.range 4).all fun k => (d.lane p k).lastCount == (d.lane p 0).lastCount
  if !same ∨ !d.markerPoint p then d
  else
    let q := ((List.range 4).findSome? fun k => firstMarker (d.lane p k).fifo).getD (d.port p).chunk
    let d := (List.range 4).foldl (fun d k => d.setLane p k { d.lane p k with fifo := [] }) d
    let d := if q = (d.port p).chunk then d else d.slip p
    let d := d.setPort p { d.port p with chunk := q, lastChunkU := 0 }
    if d.wstate p ≠ 4 then d
    else
      ((List.range 4).foldl (fun d k =>
        (d.setLane p k { d.lane p k with nonTrain := false }).set (WRP_LSTAT.lstate p k) 4) d).set (WRP_PSTAT.state p) 5

/-- What a marker does at the reed, by the port's state: until READY the reed holds each lane's last marker only. -/
def Device.markerToReed (d : Device) (p k : Nat) (q : Option Nat) : Device :=
  if 5 ≤ d.wstate p then (d.toReed p k (.marker q)).runReed p
  else ((d.setLane p k { d.lane p k with fifo := [.marker q] }).alignPoint p).tryLocked p

/-- A marker whose CRC holds (R66, R76): lane and port number, the count's sequence, and the chunk count for the reed. Until the
lanes are aligned, a marker point is each lane's own: its chunk count is held against the reed's counter here (R84). -/
def Device.goodMarker (d : Device) (p k v : Nat) : Device :=
  let lane := bits v 176 2
  let port := bits v 164 6
  let c := bits v 128 32
  let l := d.lane p k
  let locked := decide (2 ≤ d.get (WRP_LSTAT.lstate p k))
  let q := bits v 96 32
  let seqErr := l.lastCount.any fun n => c != (n + 1) % 2 ^ 32
  let early := decide (d.wstate p ≤ 4)
  let d := if seqErr || (early && q != (d.port p).chunk) then d.inc (WRP_LCNT_MRK.seq_err p k) else d
  let d := if early then d.set (WRP_LSKEW.max_lead p k) 0 else d
  let d := (d.set (WRP_LSTAT.lane_id p k) lane).set (WRP_PSTAT.marker_port p) port
  let d := if port ≠ p ∧ d.wstate p = 2 then d.put (WRP_PSTAT.port_mismatch p) true else d
  let d := if locked then d else d.markerUnlocked p k c
  let d := d.setLane p k { d.lane p k with gen := laneSeed p lane, violations := 0, crcFails := 0, lastCount := some c,
                                           markerPort := port }
  if locked && seqErr then d.loseLock p [k] else d.markerToReed p k (some q)

/-- A marker whose CRC fails (R66, R76): the boundary and the generator are set, its fields are not used. The next marker is
expected with the count after this one's place. DESIGN CHOICE (log 69): the generator takes the seed of the logical lane in
WRP_LSTAT.lane_id, also when no valid marker has named it yet. -/
def Device.badMarker (d : Device) (p k : Nat) : Device :=
  let l := d.lane p k
  let locked := decide (2 ≤ d.get (WRP_LSTAT.lstate p k))
  let d := if d.wstate p ≤ 4 then d.set (WRP_LSKEW.max_lead p k) 0 else d
  let d := (d.inc (WRP_LCNT_MRK.crc_err p k)).setLane p k
    { l with gen := laneSeed p (d.get (WRP_LSTAT.lane_id p k)), violations := 0, crcFails := l.crcFails + 1,
             lastCount := if locked then l.lastCount.map fun n => (n + 1) % 2 ^ 32 else none }
  if locked ∧ 1 ≤ l.crcFails then d.loseLock p [k] else d.markerToReed p k none

/-- A MARKER block is recognised by its sync pattern or its complement, at most 4 of 64 bits apart (R66). One that a stuffing
violation marks as errored passes its mark on (R85). -/
def execMarkerBlock (p : Fin 64) (k : Fin 4) (u : Nat) (bits : List Bool) (s : State) : Host.Outcome State Fault Refusal :=
  s.act fun d0 =>
    let d := d0.at_ (u / 16)
    if !d.receiving p.val then d
    else
      let (b, d) := d.rxBits p.val k.val true bits
      let d := (if b.errored then d.errorMark p.val k.val else d).countBlock p.val k.val
      let far := ones 64 (Machine.bits b.value 184 64 ^^^ syncPattern)
      if 4 < far ∧ far < 60 then d0
      else
        let v := if far ≤ 4 then b.value else 2 ^ 256 - 1 - b.value
        let d := if far ≤ 4 then d
          else d.put (WRP_LSTAT.inverted p.val k.val) !d.flag (WRP_LSTAT.inverted p.val k.val)
        let d := d.stuffingCheck p.val k.val
        if !d.receiving p.val then d
        else if crc32c (be 28 (v / 2 ^ 32)) = v % 2 ^ 32 then d.goodMarker p.val k.val v
        else d.badMarker p.val k.val

/-- No marker within 8,448 blocks: the lane loses lock (R76). The count of blocks is the event's. -/
def execMarkerTimeout (p : Fin 64) (k : Fin 4) (s : State) : Host.Outcome State Fault Refusal :=
  s.act fun d =>
    if d.receiving p.val ∧ 2 ≤ d.get (WRP_LSTAT.lstate p.val k.val) then d.loseLock p.val [k.val] else d

/-! ### Training (R74, R75) and adaptation (R79 to R82) -/

/-- The forwarded clock is detected: CLOCK_OK, its offset is known, the lanes are bit-locked (R74, R83). -/
def execForwardedClockDetect (p : Fin 64) (ofs : BitVec 16) (s : State) : Host.Outcome State Fault Refusal :=
  s.act fun d =>
    if d.liveOf (WRP_CTL.enable p.val) = 1 ∧ d.wstate p.val = 1 then
      let d := (d.set (WRP_PSTAT.state p.val) 2).set (WRP_CLKOFS.clk_ofs p.val) ofs.toNat
      (List.range 4).foldl (fun d k => d.set (WRP_LSTAT.lstate p.val k) 1) d
    else d

/-- The forwarded clock was absent for more than 1 µs: clock_lost, and every lane loses the lock it had (R76). -/
def execForwardedClockLoss (p : Fin 64) (s : State) : Host.Outcome State Fault Refusal :=
  s.act fun d =>
    if d.liveOf (WRP_CTL.enable p.val) ≠ 1 then d
    else
      let d := d.put (WRP_PSTAT.clock_lost p.val) true
      if d.receiving p.val then
        d.loseLock p.val ((List.range 4).filter fun k => decide (2 ≤ d.get (WRP_LSTAT.lstate p.val k)))
      else d

/-- 50 ms after LOCKED the port is not ADAPTED: train_timeout, and training restarts (R75). -/
def execTrainTimeout (p : Fin 64) (s : State) : Host.Outcome State Fault Refusal :=
  s.act fun d =>
    if d.receiving p.val ∧ d.wstate p.val = 3 then (d.put (WRP_PSTAT.train_timeout p.val) true).startTraining p.val else d

/-- A sign-sign update of the equalisers, unless the window is frozen (R80, R82). The new settings come from the analogue
slicers and are the event's. -/
def execEqAdaptUpdate (p : Fin 64) (k : Fin 4) (settings : BitVec 30) (s : State) : Host.Outcome State Fault Refusal :=
  s.act fun d =>
    if d.receiving p.val ∧ !d.flag (WRP_LSTAT.frozen p.val k.val) then
      d.set (WRP_LEQ.word p.val k.val) settings.toNat
    else d

/-- The highest eye figure in a history. -/
def bestEye (h : List EyeEntry) : Nat := h.foldl (fun b e => max b e.eye) 0

/-- The settings of the highest eye figure, the latest of equals; `h` is newest first (R81). -/
def bestSettings (h : List EyeEntry) : Nat := ((h.find? fun e => e.eye == bestEye h).map EyeEntry.settings).getD 8

/-- Every lane has had an eye of 64 in two windows running: the port is ADAPTED (R74). -/
def Device.tryAdapted (d : Device) (p : Nat) : Device :=
  if d.wstate p = 3 ∧ ((List.range 4).all fun k => decide (2 ≤ (d.lane p k).goodEyes)) then d.set (WRP_PSTAT.state p) 4
  else d

/-- Steps 2 to 5 of R81: a rollback when the eye has fallen by 12 or more, then the snapshot. It answers whether the lane
rolled back. -/
def Device.rollback (d : Device) (p k eye : Nat) : Bool × Device :=
  let l := d.lane p k
  if d.flag (WRP_LSTAT.frozen p k) ∨ l.afterRollback then (false, d)
  else
    let back := decide (eye + 12 ≤ bestEye l.history)
    let d := if back then
        (d.set (WRP_LEQ.word p k) (d.get (WRP_LSNAP.word p k))).inc (WRP_LCNT_LOCK.rollbacks p k)
      else d
    (back, d.set (WRP_LSNAP.word p k) (bestSettings l.history))

/-- The eye figure of a window (R79): successive approximation, most significant bit first. Sub-window `i` tests bit 7 - `i`
and keeps it when the slicers disagree on at most 2 samples; `ns` are the disagreements in the eight sub-windows. -/
def eyeFigure (ns : List Nat) : Nat :=
  (List.range 8).foldl (fun v i => if ns.getD i 0 ≤ 2 then v + 2 ^ (7 - i) else v) 0

/-- A measurement window ends, once its 2^16 blocks have come (R79 to R82): the eye figure, history, rollback, snapshot, and
whether the next window is frozen. How often the error slicer and the data slicer disagree in each sub-window, at the
threshold that the bits decided so far set, is the analogue parts' answer and the event's (log 62). DESIGN CHOICE (log 88): the
window's settings are those at its end. -/
def execAdaptWindowEnd (p : Fin 64) (k : Fin 4) (disagree : List Nat) (s : State) : Host.Outcome State Fault Refusal :=
  s.act fun d =>
    let p := p.val
    let k := k.val
    let eye := eyeFigure disagree
    if !d.receiving p ∨ d.get (WRP_LSTAT.lstate p k) < 2 ∨ (d.lane p k).windowBlocks < 65536 then d
    else
      let l := d.lane p k
      let idle := l.windowIdle
      let history := ({ eye := eye, settings := d.get (WRP_LEQ.word p k) % 2 ^ 30 } :: l.history).take 16
      let good := if 64 ≤ eye then l.goodEyes + 1 else 0
      let d := d.setLane p k { l with history := history, goodEyes := good, windowIdle := 0, windowBlocks := l.windowBlocks - 65536 }
      let d := d.set (WRP_LIDLE.idle_blocks p k) (min idle 65536)
      let d := (d.set (WRP_LSTAT.eye p k) eye).set (WRP_LSTAT.eye_best p k) (bestEye history)
      let d := d.set (WRP_PSTAT.eye_min p) ((List.range 4).foldl (fun m k => min m (d.get (WRP_LSTAT.eye p k))) 255)
      let (back, d) := d.rollback p k eye
      let rollbacks := (back :: l.rollbacks).take 256
      let d := d.setLane p k { d.lane p k with afterRollback := back, rollbacks := rollbacks }
      let d := if 8 ≤ (rollbacks.filter id).length then d.put (WRP_LSTAT.unstable p k) true else d
      let d := if d.get (WRP_LSTAT.lstate p k) < 4 then d.set (WRP_LSTAT.lstate p k) (if 2 ≤ good then 3 else 2) else d
      let hold := d.liveOf (WRP_CTL.adapt_hold p) == 1 && d.wstate p == 6
      let d := d.put (WRP_LSTAT.frozen p k) (decide (58982 < idle) || hold || d.flag (WRP_LSTAT.unstable p k))
      d.tryAdapted p

/-! ### A frame's checks (04 R100) -/

/-- The extended pick number nearest to PN for a header's 32 bits (02 R45), in the 64 bits of epoch and PN. -/
def Device.extend (d : Device) (h : Nat) : Nat :=
  low 64 ((d.pn : Int) + sx 32 (h + 2 ^ 32 - d.pn % 2 ^ 32))

/-- When pick `n` began or will begin, and the period in force at its boundary (R97, R98): a pick gone by counts from the last
change of period at or before it (02 R28), and one before every change that the timer holds, back from the first. -/
def Device.pickWindow (d : Device) (n : Nat) : Int × Nat :=
  if ahead n d.pn then ((d.boundaryTime n : Int), d.periodAt n)
  else match d.tm.bases.find? fun b => ahead n b.1 with
    | some b => (((b.2.1 + (n + 2 ^ 64 - b.1) % 2 ^ 64 * b.2.2 : Nat) : Int), b.2.2)
    | none =>
      let b := d.tm.bases.getLast?.getD (d.pn, d.tm.pickStart, d.period)
      ((b.2.1 : Int) - (((b.1 + 2 ^ 64 - n) % 2 ^ 64 * b.2.2 : Nat) : Int), b.2.2)

/-- The header's and trailer's checks, codes 1 to 6, in order; `fcrcOk` computes only where it is asked. -/
def Device.frameCode (d : Device) (p : Nat) (e : EndedFrame) : Nat :=
  let b := e.bytes
  if e.truncated then 1
  else if e.errored then 2
  else if crc32c (b.take 60) ≠ beAt b 60 4 ∨ beAt b 0 2 ≠ 0x5746 ∨ beAt b 2 1 ≠ 1 then 3
  else if beAt b 3 1 % 64 ≠ p then 4
  else if crc32c (b.take 16460) ≠ beAt b 16460 4 ∨ beAt b 16448 2 ≠ 0x4657 then 5
  else if !d.running ∨ !d.woven then 6
  else 0

/-- Codes 7 to 11 for a frame of pick `n` with warp latency `a`. -/
def Device.windowCode (d : Device) (p : Nat) (e : EndedFrame) (n : Nat) (a : Int) (period : Nat) : Nat :=
  let c := d.creelSlot (n % 2)
  if a < 0 then 7
  else if (period : Int) - 32 < a then 8
  else if c.pick = n ∧ bit c.accepted p then 9
  else if beAt e.bytes 8 2 ≠ d.channelOf n then 10
  else if e.faulty then 11
  else 0

/-- WRP_ARRIVAL takes a latency, signed. DESIGN CHOICE (log 68): one that its 16-bit fields cannot hold is saturated. -/
def Device.arrival (d : Device) (p : Nat) (a : Int) : Device :=
  let a := satS 16 a
  let d := if a < sx 16 (d.get (WRP_ARRIVAL.a_min p)) then d.set (WRP_ARRIVAL.a_min p) (low 16 a) else d
  if sx 16 (d.get (WRP_ARRIVAL.a_max p)) < a then d.set (WRP_ARRIVAL.a_max p) (low 16 a) else d

/-- A sample byte with its reserved parts taken as zero, and how many it had (R93). -/
def cleanSample (b : Byte) : Byte × Nat :=
  let hi := b.toNat / 16
  let lo := b.toNat % 16
  (BitVec.ofNat 8 ((if hi = 8 then 0 else hi * 16) + (if lo = 8 then 0 else lo)),
   (if hi = 8 then 1 else 0) + (if lo = 8 then 1 else 0))

/-- The payload's 256 rows enter the creel slot: input 64 p + s of time sample t from frame byte 64 + 64 t + s; a blanked
input's bytes are zero (R88, R95, R96, 05 R128). -/
def CreelSlot.putFrame (c : CreelSlot) (p blank : Nat) (payload : List Byte) : CreelSlot :=
  let bytes := (List.range 256).foldl (fun m t =>
    let row := (payload.drop (64 * t)).take 64
    let row := (row.zip (List.range 64)).map fun x => if bit blank x.2 then (0 : Byte) else (cleanSample x.1).1
    Sparse.putAll memDflt m (4096 * t + 64 * p) row) c.bytes
  { c with bytes := bytes, accepted := c.accepted ||| 2 ^ p,
           blank := c.blank - bits c.blank (64 * p) 64 * 2 ^ (64 * p) + blank * 2 ^ (64 * p) }

/-- A frame of pick `n` is accepted work (R87, R93 to R96, R114). -/
def Device.acceptFrame (d : Device) (p n : Nat) (e : EndedFrame) : Device :=
  let b := e.bytes
  let blank := beAt b 16 8 ||| (d.liveOf (WRP_BLANK_LO.blank_lo p) + 2 ^ 32 * d.liveOf (WRP_BLANK_HI.blank_hi p))
  let payload := (b.drop 64).take 16384
  let d := d.setCreel (n % 2) ((d.pickSlot n).putFrame p blank payload)
  let d := d.setPair (WRP_ACC_LO.acc_lo p) (WRP_ACC_HI.acc_hi p)
    (d.pair (WRP_ACC_LO.acc_lo p) (WRP_ACC_HI.acc_hi p) + 1)
  let d := (d.set (WRP_LAST_PN.last_pn p) (n % 2 ^ 32)).set (WRP_SRC_ID.src_id p) (beAt b 12 4)
  let d := if bit (beAt b 10 2) 0 then d.inc (WRP_UFLAG.sat_frames p) else d
  let d := if bit (beAt b 10 2) 1 then d.inc (WRP_UFLAG.fill_frames p) else d
  let d := d.add (WRP_FMT_ERR.reserved_parts p) (payload.foldl (fun k x => k + (cleanSample x).2) 0)
  d.setPort p { d.port p with lastAccepted := some n }

/-- Checks 6 onward of a frame that passed 1 to 5, in a device whose checks have recorded what they found. -/
def Device.judge (d : Device) (p : Nat) (e : EndedFrame) : Nat × Device :=
  let n := d.extend (beAt e.bytes 4 4)
  let (start, period) := d.pickWindow n
  let a := (e.ended : Int) - start
  let d := d.arrival p a
  let code := d.windowCode p e n a period
  (code, if code = 0 then d.acceptFrame p n e else d)

/-- A frame's single answer (R100, R103, R105, 17 R477): the first failing check's code. The pn32 of a frame that ended
before its eighth byte is a free value. -/
def Device.answerFrame (d : Device) (p : Nat) (e : EndedFrame) : Device :=
  let known := decide (8 ≤ e.bytes.length)
  let pn32 := if known then beAt e.bytes 4 4 else Config.free d.freeN % 2 ^ 32
  let d := if known then d else d.nextFree
  let (_, d) := d.check (.wrp (Fin.ofNat 64 p)) 0 false (Config.free d.freeN % 2 ^ 32)
  let (lost, d) := d.check (.wrp (Fin.ofNat 64 p)) 1 false (Config.free d.freeN % 2 ^ 32)
  let (_, d) := d.check .crl 0 false (beAt e.bytes 4 4 % 2 * 131072 + 8 * p)
  let (lost', d) := d.check .crl 1 false (beAt e.bytes 4 4 % 2 * 131072 + 8 * p)
  let d := d.nextFree
  let e := { e with faulty := e.faulty || lost || lost' }
  let (code, d) :=
    if e.fatal then (11, d)
    else
      let c := d.frameCode p e
      if c = 0 then d.judge p e else (c, d)
  let d := if code = 0 then d else d.inc (WRP_REJ.count p code)
  d.setPort p { d.port p with answers := (d.port p).answers ++ [{ code := code, index := e.index, pn32 := pn32, ended := e.ended }] }

/-- The oldest frame that has ended on the port gets its checks and its answer, in the order in which frames ended (R106). -/
def execPickFrame (p : Fin 64) (s : State) : Host.Outcome State Fault Refusal :=
  s.act fun d =>
    let x := d.port p.val
    match x.ended with
    | [] => d
    | e :: rest => (d.setPort p.val { x with ended := rest }).answerFrame p.val e

/-! ### The tie lane -/

/-- A tie word's CRC-8 over its bits [63:8], with bits [7:0] zero (R71, R104). -/
def tieCrc (w : Nat) : Nat := w + crc8 56 (w / 2 ^ 8)

/-- A tie marker (R71). -/
def tieMarker (p : Nat) : Nat := tieCrc (0xA0 * 2 ^ 56 + 0xA71C5E93B2 * 2 ^ 16 + p * 2 ^ 10)

/-- A MSG word: kind, the 12 bits below it, a pick number (R104). -/
def tieMsg (kind mid pn32 : Nat) : Nat := tieCrc (3 * 2 ^ 61 + kind * 2 ^ 52 + mid * 2 ^ 40 + pn32 * 2 ^ 8)

/-- A TRAIN word: the port's state, its lanes by logical number and their eye figures (R72). A lane's logical number is known
while it is block-locked (R74). DESIGN CHOICE (log 70): the figure of a logical lane that no locked lane carries is sent as
0, and of two locked lanes that carry one logical number the lower ball's state and figure are sent. -/
def Device.tieTrain (d : Device) (p : Nat) : Nat :=
  let at_ (l : Nat) : Option Nat := (List.range 4).find? fun k =>
    d.get (WRP_LSTAT.lane_id p k) == l && decide (2 ≤ d.get (WRP_LSTAT.lstate p k))
  let mask (m : Nat) : Nat := (List.range 4).foldl (fun a l => match at_ l with
    | none => a
    | some k => if m ≤ d.get (WRP_LSTAT.lstate p k) then a + 2 ^ l else a) 0
  let eyes := (List.range 4).foldl (fun a l => match at_ l with
    | none => a
    | some k => a + d.get (WRP_LSTAT.eye p k) * 2 ^ (8 * l)) 0
  6 * 2 ^ 61 + d.wstate p * 2 ^ 53 + mask 2 * 2 ^ 49 + mask 3 * 2 ^ 45 + eyes * 2 ^ 13

/-- Sends tie word `w` from instant `t`: line bits after scrambling and stuffing, a marker unscrambled (R60, R61, R71). -/
def Device.sendTie (d : Device) (p w : Nat) (marker : Bool) : Device :=
  let x := d.port p
  let (line, gen) := if marker then (toBits 64 w, 0x55555400 ||| (p * 4)) else scramble x.tieGen (toBits 64 w)
  let s := line.foldl Destuff.stuff { run := x.tieRun, runBit := x.tieRunBit, out := [], bad := 0 }
  d.setPort p { x with tieGen := gen, tieRun := s.run, tieRunBit := s.runBit, tieWord := w, tieLine := s.out.reverse,
                       tieCount := (x.tieCount + 1) % 1024 }

/-- The oldest answer leaves; its last bit leaves with the word's last bit (R105, R106, R114). -/
def Device.sendAnswer (d : Device) (p t : Nat) (a : Answer) : Device :=
  let x := d.port p
  let d := (d.setPort p { x with answers := x.answers.drop 1 }).sendTie p (tieMsg 1 (a.code * 256 + a.index) a.pn32) false
  let d := (d.set (WRP_FRAME_STAT.last_code p) a.code).set (WRP_FRAME_STAT.last_index p) a.index
  d.peak (WRP_ANS_LAT.ans_max p) (t + (d.port p).tieLine.length - a.ended)

/-- A PERIOD word leaves (R108). -/
def Device.sendPeriod (d : Device) (p : Nat) (m : PeriodMsg) : Device :=
  let x := d.port p
  let ps := x.periods.map fun w => if w = m then { w with due := false } else w
  (d.setPort p { x with periods := ps }).sendTie p (tieMsg 2 ((m.period + 4096 - 2048) % 4096) (m.boundary % 2 ^ 32)) false

/-- A tie-word slot begins at `t`. Of 1,024 words the first is the marker, the second TRAIN; while the port is not UP, one
word of every 64 is TRAIN. Then PERIOD words that are due, then answers in order, else IDLE (R70 to R72, R106, R109). -/
def execTieWordSend (p : Fin 64) (t : Nat) (s : State) : Host.Outcome State Fault Refusal :=
  s.act fun d0 =>
    let d := d0.at_ t
    let p := p.val
    let x := d.port p
    if x.tieCount = 0 then
      let ps := x.periods.map fun w => { w with due := true }
      (d.setPort p { x with periods := ps }).sendTie p (tieMarker p) true
    else if x.tieCount = 1 ∨ (d.wstate p ≠ 6 ∧ x.tieCount % 64 = 1) then d.sendTie p (d.tieTrain p) false
    else match (if d.liveOf (WRP_CTL.enable p) = 1 then x.periods.find? PeriodMsg.due else none) with
      | some m => d.sendPeriod p m
      | none => match x.answers with
        | a :: _ => d.sendAnswer p t a
        | [] => d.sendTie p 0 false

/-! ### Clears -/

/-- WRP_CNT_CLR: WRP_TRAIN and every lane counter of the port (R83). -/
def Device.wrpCntClr (d : Device) (p : Nat) : Device :=
  (List.range 4).foldl (fun d k =>
    (((d.set (WRP_LCNT_STUFF.word p k) 0).set (WRP_LCNT_HDR.word p k) 0).set (WRP_LCNT_MRK.word p k) 0).set
      (WRP_LCNT_LOCK.word p k) 0) (d.set (WRP_TRAIN.word p) 0)

/-- WRP_FCNT_CLR (R114). -/
def Device.wrpFcntClr (d : Device) (p : Nat) : Device :=
  let d := (d.setPair (WRP_ACC_LO.acc_lo p) (WRP_ACC_HI.acc_hi p) 0).set (WRP_FMT_ERR.word p) 0
  let d := (d.set (WRP_UFLAG.word p) 0).set (WRP_ANS_LAT.word p) 0
  let d := (List.range 11).foldl (fun d n => d.set (WRP_REJ.count p (n + 1)) 0) d
  d.set (WRP_ARRIVAL.word p) (0x7FFF + 0x8000 * 2 ^ 16)

/-- A write of clear to WRP_CNT_CLR. -/
def execWrpCntClr (p : Fin 64) (s : State) : Host.Outcome State Fault Refusal := s.act fun d => d.wrpCntClr p.val

/-- A write of clear to WRP_FCNT_CLR. -/
def execWrpFcntClr (p : Fin 64) (s : State) : Host.Outcome State Fault Refusal := s.act fun d => d.wrpFcntClr p.val

end Sys2Proof.Machine
end

