-- ==== Sys2Proof/Machine/Picks.lean ====
section
/-! DEFINITION. Commits, time loads and synchronising resets (02 R41, R46 to R52, R543), and the device second. -/

namespace Sys2Proof.Machine

/-! ### What a commit brings into force -/

/-- WRP_CTL of port `p` has changed from the live values (enable, retrain) of before (03 R83). -/
def Device.warpControl (d : Device) (p : Nat) (enable retrain : Nat) : Device :=
  let e := d.liveOf (WRP_CTL.enable p)
  if e = 0 then
    if enable = 0 then d
    else
      let d := (d.truncate p d.tm.now).set (WRP_PSTAT.state p) 0
      (List.range 4).foldl (fun d k =>
        (d.setLane p k (d.lane p k).restart).set (WRP_LSTAT.lstate p k) 0) d
  else if enable = 0 ∨ d.liveOf (WRP_CTL.retrain p) ≠ retrain then d.startTraining p
  else d

/-- TRD_CTL.run of engine `e` (09 R258): a waiting engine is HELD while it is 0. -/
def Device.engineRun (d : Device) (e : Nat) : Device :=
  let run := d.liveOf (TRD_CTL.run e)
  if run = 0 ∧ d.trdState e = 3 then d.set (TRD_STAT.state e) 4
  else if run = 1 ∧ d.trdState e = 4 then d.set (TRD_STAT.state e) 3
  else d

/-- LOM_RETIRE.retire_req of loom `k` (05 R143, R144): a loom that is not retired waits for a shed boundary; while no draft is
woven a free spare is retired at once. -/
def Device.retireRequest (d : Device) (k : Nat) : Device :=
  let r := d.role k
  if d.liveOf (LOM_RETIRE.retire_req k) = 0 ∨ r = 3 ∨ r = 4 ∨ d.sheds.retireReq.contains k then d
  else if r = 1 ∧ !d.woven then
    let d := d.retire k 2
    if d.sheds.placed then d.crlStat else d.provisional
  else { d with sheds := { d.sheds with retireReq := d.sheds.retireReq ++ [k] } }

/-- A commit takes effect (R46): every pending value becomes live at once, and the blocks act on what has changed. The
boundary it is entered with is the pick number then held. -/
def Device.applyCommit (d : Device) (c : Commit) : Device :=
  let old := d
  let d := { d with live := c.shadows, tm := { d.tm with commit := none } }
  let d := (d.put PCK_COMMIT_STAT.pending false).incMod PCK_COMMIT_STAT.applied_count
  let d := d.setPair PCK_COMMIT_PN_LO.cpn_lo PCK_COMMIT_PN_HI.cpn_hi d.pn
  let d := (List.range 64).foldl (fun d p =>
    d.warpControl p (old.liveOf (WRP_CTL.enable p)) (old.liveOf (WRP_CTL.retrain p))) d
  let d := (List.range 32).foldl (fun d c =>
    if d.liveOf (CLO_CTL.enable c) = old.liveOf (CLO_CTL.enable c) then d else d.clothEnable c d.tm.now) d
  let d := (List.range 68).foldl Device.retireRequest d
  let d := (List.range 4).foldl Device.engineRun d
  d.swapRequest

/-- The pending commit is dropped: the shadows keep their values (R48 to R50). -/
def Device.dropCommit (d : Device) : Device :=
  { d.put PCK_COMMIT_STAT.pending false with tm := { d.tm with commit := none } }

/-- A commit that is too late for its boundary (R48). -/
def Device.lateCommit (d : Device) : Device := d.dropCommit.put PCK_COMMIT_STAT.late true

/-- A commit becomes pending at `t`, with the shadows as they are (R46, R47). -/
def Device.pendCommit (d : Device) (target : Option Nat) (t : Nat) : Device :=
  let c : Commit := { shadows := Sparse.keep isRwp d.regs, at_ := target, moment := t + 64,
                      atMoment := target.isNone && !d.running }
  { d.put PCK_COMMIT_STAT.pending true with tm := { d.tm with commit := some c } }

/-- Firmware commits the shadows that it has written once no commit is pending, and reports that (19 R526). -/
def Device.firmwareTurn (d : Device) : Device :=
  if !d.tm.fwCommit ∨ d.tm.commit.isSome ∨ !d.fwUp then d
  else
    let d := d.pendCommit none d.tm.now
    { d with tm := { d.tm with fwCommit := false } }.eventNotice 0x20000 PCK_COMMIT_STAT.word.addr

/-- Firmware has written shadows of its own, and is to commit them. -/
def Device.firmwareCommit (d : Device) : Device := { d with tm := { d.tm with fwCommit := true } }.firmwareTurn

/-- A commit request at `t` (R46 to R49, R543), for the boundary `target` if it names one. -/
def Device.commitRequest (d : Device) (target : Option Nat) (t : Nat) : Device :=
  if d.tm.commit.isSome then d.put PCK_COMMIT_STAT.busy_err true
  else
    let d := d.pendCommit target t
    match target with
    | none => d
    | some x => if d.running ∧ (x ≤ d.pn ∨ d.boundaryTime x < t + 64) then d.lateCommit else d

/-- PCK_COMMIT_AT. -/
def Device.commitAt (d : Device) : Nat := d.pair PCK_COMMIT_AT_LO.at_lo PCK_COMMIT_AT_HI.at_hi

/-- A write to PCK_COMMIT (R53): cancel wins over go; at without go does nothing. -/
def Device.commitWrite (d : Device) (v t : Nat) : Device :=
  if bit v 2 then (if d.tm.commit.isSome then d.dropCommit else d)
  else if bit v 0 then d.commitRequest (if bit v 1 then some d.commitAt else none) t
  else d

/-- The commit that is due at the boundary of pick `m`, at its instant `now` (R47, R48). -/
def Device.commitBoundary (d : Device) (m now : Nat) : Device :=
  match d.tm.commit with
  | none => d
  | some c =>
    match c.at_ with
    | none => if c.moment ≤ now then d.applyCommit c else d
    | some x => if x = m then (if c.moment ≤ now then d.applyCommit c else d.lateCommit)
        else if x < m then d.lateCommit else d

/-- COMMIT_REQUEST. -/
def execCommitRequest (m : Master) (t : Nat) (s : State) : Host.Outcome State Fault Refusal :=
  s.actReg m.val fun d => (d.at_ t).commitRequest none t

/-- COMMIT_AT_REQUEST. -/
def execCommitAtRequest (m : Master) (t : Nat) (s : State) : Host.Outcome State Fault Refusal :=
  s.actReg m.val fun d => (d.at_ t).commitRequest (some d.commitAt) t

/-- COMMIT_CANCEL (R49). -/
def execCommitCancel (m : Master) (s : State) : Host.Outcome State Fault Refusal :=
  s.actReg m.val fun d => if d.tm.commit.isSome then d.dropCommit.firmwareTurn else d

/-- The moment of R47 of a commit requested without `at` while PCK was not RUNNING: it takes effect, with the PN then held, also
when a time load has made PCK RUNNING meanwhile (R543). DESIGN CHOICE (log 27): so does one requested while RUNNING that an
arm has overtaken, which R543 does not speak of. -/
def execCommitStoppedApply (t : Nat) (s : State) : Host.Outcome State Fault Refusal :=
  s.act fun d =>
    let d := d.at_ t
    match d.tm.commit with
    | none => d
    | some c => if (d.running ∧ !c.atMoment) ∨ c.at_.isSome ∨ t < c.moment then d else (d.applyCommit c).firmwareTurn

/-! ### Synchronising reset (R52) -/

/-- A request at `t`, by SYNC_IN (0) or PCK_SYNC (1). -/
def Device.syncRequest (d : Device) (source t : Nat) : Device :=
  if d.tm.syncFrom.isSome then d.put PCK_SYNC_STAT.merged true
  else
    let d := (d.put PCK_SYNC_STAT.pending true).set PCK_SYNC_STAT.source source
    { d with tm := { d.tm with syncFrom := some (t + 64) } }

/-- SYNC_IN rises at `t` after `low` cycles low and stays high for `high`. -/
def execSyncInEdge (t high low : Nat) (s : State) : Host.Outcome State Fault Refusal :=
  s.act fun d => if qualifiedEdge high low then (d.at_ t).syncRequest 0 t else d

/-- A write of go to PCK_SYNC. -/
def execSyncGo (m : Master) (t : Nat) (s : State) : Host.Outcome State Fault Refusal :=
  s.actReg m.val fun d => (d.at_ t).syncRequest 1 t

/-- The reset that is due acts at the boundary of pick `m` (R51, R52, 08 R233); at a weave it only counts (12 R355). -/
def Device.syncBoundary (d : Device) (m now : Nat) (weave : Bool) : Device :=
  match d.tm.syncFrom with
  | none => d
  | some t =>
    if now < t then d
    else
      let d := { d with tm := { d.tm with syncFrom := none } }
      let d := (d.put PCK_SYNC_STAT.pending false).incMod PCK_SYNC_STAT.count
      let d := d.setPair PCK_SYNC_PN_LO.spn_lo PCK_SYNC_PN_HI.spn_hi m
      if weave then d
      else
        let d := d.genUp
        { d with chains := { d.chains with resetAt := some m } }

/-! ### Time loads (R41) -/

/-- An arm of a time load: ignored while a draft is woven. -/
def Device.loadArm (d : Device) : Device :=
  if d.get PCK_STATE.state = 1 then d
  else if d.woven then d.put PCK_STATE.load_refused true
  else { (d.set PCK_STATE.state 1) with tm := { d.tm with armedFrom := d.get PCK_STATE.state } }

/-- A cancel of an arm: the previous state comes back. -/
def Device.loadCancel (d : Device) : Device :=
  if d.get PCK_STATE.state = 1 then d.set PCK_STATE.state d.tm.armedFrom else d

/-- A write to PCK_LOAD (R53): cancel wins over arm. -/
def Device.loadWrite (d : Device) (v : Nat) : Device :=
  if bit v 1 then d.loadCancel else if bit v 0 then d.loadArm else d

/-- LOAD_ARM. -/
def execLoadArm (m : Master) (s : State) : Host.Outcome State Fault Refusal :=
  s.actReg m.val fun d => d.loadArm

/-- LOAD_CANCEL, whether or not the write also sets arm. -/
def execLoadCancel (m : Master) (alsoArm : Bool) (s : State) : Host.Outcome State Fault Refusal :=
  let _ := alsoArm
  s.actReg m.val fun d => d.loadCancel

/-- Sets PN and the registers that follow it. -/
def Device.setPn (d : Device) (n : Nat) : Device :=
  let d := d.setPair PCK_PN_LO.word PCK_PN_HI.word n
  d.set PCK_SHED_POS.pick_in_shed (if d.woven then n % 2 ^ 48 % d.shedLen else 0)

/-- The current period took effect at pick `n` (R43). -/
def Device.setTbase (d : Device) (n : Nat) : Device := d.setPair PCK_TBASE_PN_LO.tbase_lo PCK_TBASE_PN_HI.tbase_hi n

/-- The edge at `t` begins the loaded pick, and PCK is RUNNING (R41). A shed that is still being dumped has its place in the
new count; the journal's next pick opens a segment (10 R261). -/
def Device.timeLoad (d : Device) (t : Nat) : Device :=
  let n := d.pair PCK_LOAD_PN_LO.word PCK_LOAD_PN_HI.word
  let d := d.landed fun _ => true
  let d := (d.setPn n).setTbase n
  let d := (d.set PCK_STATE.state 2).set PCK_STATE.mismatch_count 0
  let d := { d with
    tm := { d.tm with pickStart := t, bases := [(n, t, d.period)] }
    jrn := { d.jrn with reopen := true }
    sheds := { d.sheds with ending := d.sheds.ending.map fun (r : ShedRef) => { r with stop := (n + 2 ^ 64 - 2) % 2 ^ 64 } }
    creel := if d.beams.isNone then Sparse.keep (fun k => decide (2 ≤ k)) d.creel else d.creel }
  (d.commitBoundary n t).syncBoundary n t false

/-- A device second at `t` (14 R391), once there is one (14 R402): a time load that is armed, and otherwise, at a PPS-aligned
period, the comparison of R29. DESIGN CHOICE (log 85): the boundary that an edge should match is the nearest one. Holdover counts
its seconds (14 R409). -/
def execDeviceSecond (t : Nat) (s : State) : Host.Outcome State Fault Refusal :=
  s.act fun d =>
    let d := d.at_ t
    let d := { d with tm := { d.tm with second := some t } }
    let d := if d.get REF_STAT.state = 3 then d.add REF_HOLD_TIME.value 1 else d
    if !d.flag REF_STAT.second_valid then { d with tm := { d.tm with second := none } }
    else if d.get PCK_STATE.state = 1 then d.timeLoad t
    else if d.running ∧ d.flag PCK_CFG.pps_aligned then
      let r := (t - d.tm.pickStart) % d.period
      if 2 < min r (d.period - r) then (d.put PCK_STATE.pulse_mismatch true).inc PCK_STATE.mismatch_count else d
    else d

end Sys2Proof.Machine
end

