-- ==== Sys2Proof/Machine/Boundary.lean ====
section
/-! DEFINITION. The pick boundary: the pipeline moves on (02 R32), a shed boundary runs (R38), and what waited for a boundary
takes effect: commits, resets, weaves, stretches, retirements, engine events. -/

namespace Sys2Proof.Machine

/-! ### The interval that ends -/

/-- The journal write of pick `x`, and its PICK entry (10 R261, R287). While a warm reset quiesces, picks after the last
accepted one are not written (10 R290). -/
def Device.writePick (d : Device) (x : Nat) : Device :=
  let c := d.pickSlot x
  if !d.woven ∨ (d.mute ∧ c.accepted = 0) then d
  else
    let d := d.journalWrite x (d.channelOf x) d.period c
    d.ledger 1 x (be 8 c.accepted ++ be 2 (d.channelOf x))

/-- An engine's FIFOs are emptied while TRD_CTL.run is 0 (09 R258). DESIGN CHOICE (log 85): a committed run acts at once, on what
earlier picks have still to bring too; 02 R33 dates changes by the data's pick, and R258 by the engine's next WAITP. -/
def Device.emptyFifos (d : Device) (e : Nat) : Device :=
  if d.liveOf (TRD_CTL.run e) = 1 then d
  else (d.setEngine e { d.engine e with ap := [], det := [] }).fifoStat e

/-- The beams and auto-power sums of the pick computed in the interval that ends reach the chains, the detectors, the
engines and the voltage-beam queues (02 R32). `m` is the pick of the interval that begins. With no draft woven no frame is
accepted, and the auto-power unit sees a pick wholly blanked (04 R99, 05 R125). -/
def Device.deliver (d : Device) (m : Nat) : Device :=
  match d.beams with
  | none => (((d.set APU_PEAK.value 0).set APU_PEAK.input 0).set APU_BLANKED.count 4096).idleBeams.idleUnits
  | some p0 =>
    let d := d.beamChecks p0
    let p := d.beams.getD p0
    let c := d.pickSlot p.pick
    let outs := d.beamOuts p c
    let d := (d.beamStats p c outs).apuPick c
    let arrival := (m + 2 ^ 64 - 1) % 2 ^ 64
    let d := (List.range 4).foldl (fun d e =>
      let d := if (d.engine e).accepts arrival then d.setEngine e { d.engine e with handed := some (p.cfgRegs, p.cfgLive) } else d
      let d := if d.flag (TRD_CFG.apu_sub e) ∧ (d.engine e).accepts arrival then d.pushAp e p.pick d.apu.pickSums else d
      d.emptyFifos e) d
    (d.sendVoltage p outs).runUnits p outs

/-- The interval of pick `m` - 1 ends: blocks that closed in it are queued, its pick is journalled, the pick before it is
delivered. -/
def Device.endInterval (d : Device) (m : Nat) : Device :=
  let d := d.landed fun x => ahead m (x + 3)
  ((d.flushBlocks.writePick ((m + 2 ^ 64 - 1) % 2 ^ 64)).deliver m).replayTurn

/-- The interval of pick `m` computes the pick before it, by the placement, the weights and the registers in force for that
pick (R33). -/
def Device.startCompute (d : Device) (m : Nat) : Device :=
  let x := (m + 2 ^ 64 - 1) % 2 ^ 64
  let d := { d with beams := if d.woven then some (d.captureBeams x) else none,
                    sheds := { d.sheds with work := if d.woven ∨ d.sheds.cur.isSome then d.workNow else [],
                                            worn := [], drainedNow := 0 } }
  (List.range 68).foldl (fun d k => d.set (LOM_SPILLQ.admitted_now k) 0) d

/-- The creel words of the pick are read (17 R479, R483, R542). -/
def Device.creelRead (d : Device) (x : Nat) : Device :=
  if !d.testen ∨ !d.woven then d
  else
    let (_, d) := d.check .crl 0 false (2 ^ 31 + x % 2 * 131072)
    let (bad, d) := d.check .crl 1 false (2 ^ 31 + x % 2 * 131072)
    if bad then
      let c := d.pickSlot x
      let d := d.setCreel (x % 2) { c with damaged := 0 :: c.damaged }
      d.partialPick
    else d

/-! ### Time 1 of a shed boundary (R38) -/

/-- Dumps of the shed before last that have not ended when its bank is switched again (R39) are faults of their looms, which keep
the bank until the buffer is free. -/
def Device.lateDumps (d : Device) : Device :=
  match d.sheds.ending with
  | none => d
  | some r =>
    let ks := d.owing r
    let d := (ks.filter fun k => !d.sheds.dumping.contains k).foldl (fun d k => d.dumpWaits r k) d
    let l : LateShed := { shed := r, looms := ks, apu := d.apu, apuDone := d.sheds.apuDone }
    let d := { d with sheds := { d.sheds with ending := none, dumping := [], dumped := [], late := d.sheds.late ++ [l] } }
    let d := ks.foldl (fun d k => ((d.put (LOM_STAT.dumping k) false).raiseReal (loomBlk k) 5 0).lateFault k) d
    d.settleLate

/-- The open integration period of entry `e`, with one shed more: it begins with this shed when none is open (06 R165,
R174). -/
def Device.openShed (d : Device) (e b : Nat) : Nat × Device :=
  let n := entN d.draft e
  let num := Sparse.get (fun _ => 0) d.sheds.nums e
  let key := periodKey e num
  let p := Sparse.get (fun _ => Period.cold) d.sheds.periods key
  let p := if p.started = 0 then { Period.cold with num := num, n := n, first := b, pick0 := d.period } else p
  let p := { p with started := p.started + 1, last := (b + d.shedLen - 1) % 2 ^ 64 }
  let nums := if p.started = n then Sparse.put (fun _ => 0) d.sheds.nums e (num + 1) else d.sheds.nums
  (num, { d with sheds := { d.sheds with nums := nums, periods := Sparse.put (fun _ => Period.cold) d.sheds.periods key p } })

/-- The shed that begins at pick `b` with the slots that the looms now compute. -/
def Device.beginShed (d : Device) (b : Nat) : Device :=
  let e := d.entOf b
  let keeps := entN d.draft e != 0
  let (num, d) := if keeps then d.openShed e b else (0, d)
  let w := d.sheds.work
  let r : ShedRef :=
    { start := b, stop := (b + d.shedLen) % 2 ^ 64, ent := e, chan := entChannel d.draft e, keeps := keeps, num := num,
      bank := d.sheds.bank,
      base := if keeps then entBuf d.draft e (num % 2) else 0, slog := d.slogBase, log2 := d.get PCK_CFG.shed_log2,
      map := w.map fun x => (x.owner, x.region, x.pass), part := [],
      absent := (List.range 512).filter fun k => !(w.any fun x => x.pass == k) }
  { d with sheds := { d.sheds with cur := some r } }

/-- The bank that accumulates is `bank` from now on; every loom shows it (06 R545). -/
def Device.setBank (d : Device) (bank : Bool) : Device :=
  (List.range 68).foldl (fun d k => d.put (LOM_STAT.acc_bank k) bank) { d with sheds := { d.sheds with bank := bank } }

/-- The looms switch banks at time 1, and the shed's sums close (R38, 06 R545, 05 R126). `b` is the boundary's pick. -/
def Device.shedSwitch (d : Device) (b : Nat) : Device :=
  let d := d.lateDumps
  let d := match d.sheds.cur with
    | none => d
    | some r => d.apuClose r.start r.log2
  let bank := !d.sheds.bank
  let ending := d.sheds.cur.map fun (r : ShedRef) => { r with stop := b }
  let d := { d with sheds := { d.sheds with flipDue := false, ending := ending, cur := none, dumping := [],
                                            dumped := [], drainEnd := none, bufHeld := false, apuDone := false } }
  let d := d.setBank bank
  if d.woven then d.beginShed b else d

/-- Time 2: a replayed shed's bank is parked (10 R280), banks whose products are not kept are cleared without a dump (06 R166),
and the APU adds its sums. -/
def Device.shedTwo (d : Device) : Device :=
  let d := d.parkBanks
  let d := match d.sheds.ending with
    | none => d
    | some r =>
      if r.keeps ∨ d.pn ≠ (r.stop + 2) % 2 ^ 64 then d
      else
        let ks := d.owing r
        let d := ks.foldl (fun (d : Device) k => d.clearBank k r.bank) d
        { d with sheds := { d.sheds with dumped := ks ++ d.sheds.dumped } }
  d.noteDrain.apuDump

/-! ### A shed boundary at time 0 -/

/-- The replays that R283 abandons at a shed boundary: 16 sheds after their shed, or when the dump that is due would wait for
a readout they hold: that of an ended period, or of the replayed shed's own. -/
def Device.abandonDue (d : Device) (m : Nat) : Device :=
  let blocked (r : Replay) : Bool := match d.sheds.cur with
    | none => false
    | some c => c.keeps &&
      (d.sheds.ended.any (fun e => e.base == c.base && !e.owns c && ahead (e.per.last + 1) r.shed.stop) ||
        (r.shed.keeps && r.shed.base == c.base && r.shed.num != c.num))
  let xs := d.jrn.replays.filter fun r => ahead m ((r.shed.start + 16 * 2 ^ r.shed.log2) % 2 ^ 64) || blocked r
  if xs.isEmpty then d else (xs.foldl Device.abandon d).startReplay

/-- Period `p` took effect at pick `m`: the ledger, PCK_TBASE and a notice say so (R43). -/
def Device.changePeriod (d : Device) (p m : Nat) : Device :=
  if p = d.period then d
  else
    let d := { d with tm := { d.tm with bases := (m, d.tm.pickStart, p) :: d.tm.bases } }
    let d := ((d.setPeriod p).setTbase m).ledger 4 m (be 2 p ++ be 8 m)
    d.eventNotice 0x20000 PCK_CFG.word.addr

/-- Open periods take note that the period changed after their first pick (06 R175). -/
def Device.markChanged (d : Device) : Device :=
  { d with sheds := { d.sheds with periods := d.sheds.periods.map fun e =>
    (e.1, if e.2.started < e.2.n then { e.2 with changed := true } else e.2) } }

/-- The stretch takes effect (R37): the period becomes 2,560 when it was less. -/
def Device.stretchNow (d : Device) (m : Nat) : Device :=
  let p := max d.period 2560
  let d := if p = d.period then d else (d.changePeriod p m).markChanged
  let d := (d.put PCK_CFG.stretched true).put CRL_CFG.stretch_wait false
  { d with tm := { d.tm with stretch := none }, sheds := { d.sheds with replaceDue := true } }

/-- The committed retire_req of looms that wait for a shed boundary (05 R143, R144). -/
def Device.wearRetirements (d : Device) : Device := d.sheds.retireReq.foldl Device.wearRetire d

/-- A shed boundary of the woven draft at pick `m`, where no weave takes effect (R38, R143 to R148, 10 R283). -/
def Device.shedBoundary (d : Device) (m : Nat) : Device :=
  let d := (d.genDue m).abandonDue m
  let d := match d.tm.stretch with
    | some w => if w.at_ = some m then d.stretchNow m else d
    | none => d
  let d := d.wearRetirements
  if d.sheds.replaceDue then d.replaceNow else d

/-! ### Weaves (12 R354, R357) -/

/-- Every open integration period is cut (06 R172): its records take the woven draft's queues. -/
def Device.cutPeriods (d : Device) : Device :=
  let m := d.draft
  let refs := d.recordRefs
  let cut := d.sheds.periods.filterMap fun e =>
    if e.2.started = 0 then none
    else
      let k := e.1 % 4096
      some ({ ent := k, chan := entChannel m k, base := entBuf m k (e.2.num % 2), log2 := d.get PCK_CFG.shed_log2,
              cut := decide (e.2.started < e.2.n), per := e.2, queues := refs, due := false } : EndedPeriod)
  { d with sheds := { d.sheds with ended := d.sheds.ended ++ cut, periods := [], nums := [] } }

/-- What a weave and an unweave have in common: replays are abandoned, looms that wait for retirement are retired, periods are
cut. -/
def Device.endDraft (d : Device) : Device :=
  ((d.jrn.replays.foldl Device.abandon d).replayStat.wearRetirements).cutPeriods

/-- The harness setter after a weave or an unweave at pick `w` (07 R205): bank A active, no request or switch; the sets of
sheds before `w` are done with. -/
def Device.resetSetter (d : Device) (w : Nat) : Device :=
  let x := d.setter
  let d := { d with setter := { x with pend := none, sw := none, latched := none, sets := x.sets.filter fun y => y.shed == w } }
  (d.put HST_STATE.active false).hstShow

/-- The journal at a weave (10 R261, 12 R349): it carries on in the same ring, else it starts anew. `was` says that a draft was
woven. -/
def Device.weaveJournal (d : Device) (was : Bool) (m : Sparse Byte) : Device :=
  let same := memF m 0 6 == d.jrnBase && memF m 10 6 == d.dirBase && memF m 6 2 == d.get JRN_CFG.n_seg
  let d := d.loadMemory m
  if same ∧ was then d
  else if same then { d with jrn := { d.jrn with reopen := true } }
  else d.clearJournal

/-- The staged draft takes effect at pick `w` (R354, R358). -/
def Device.applyWeave (d : Device) (w : Nat) : Device :=
  let was := d.woven
  let m := d.drafts.staging
  let id := rdN m 8 8
  let d := d.endDraft
  let d := d.changePeriod (secN m 1 0 2) w
  let d := (d.put PCK_CFG.stretched false).set PCK_CFG.shed_log2 (secN m 1 2 1)
  let d := { d with drafts := { d.drafts with woven1 := !d.drafts.woven1, written := [], armed := none } }
  let d := (d.put PCK_WEAVE_STAT.woven true).set PCK_WEAVE_STAT.stage 0
  let d := d.setPair PCK_STAGE_ID_LO.id_lo PCK_STAGE_ID_HI.id_hi 0
  let d := d.setPair PCK_DRAFT_ID_LO.id_lo PCK_DRAFT_ID_HI.id_hi id
  let d := (d.setPair PCK_WEAVE_PN_LO.wpn_lo PCK_WEAVE_PN_HI.wpn_hi w).inc PCK_WEAVE_CNT.done
  let d := d.ledger 11 w (be 8 id ++ be 8 w)
  let d := ((d.loadBlanks m).weaveQueues m).weaveJournal was m
  let d := (((d.loadChains m).loadLooms m).loadEngines m w).resetSetter w
  { d.set ZCH_GEN.gen 1 with chains := { d.chains with freshAt := some w, resetAt := none } }

/-- An engine stops, its FIFOs emptied (R357). -/
def Device.stopEngine (d : Device) (e : Nat) : Device :=
  let x := d.engine e
  let x := { x with ap := [], det := [], event := false, startAt := none, fifoFrom := none, busy := none, handed := none }
  let d := d.setEngine e { x with cfg := none }
  (d.set (TRD_STAT.state e) 0).fifoStat e

/-- The draft is removed at pick `w` (R357). DESIGN CHOICE (log 77): CRL_CFG.policy, CRL_PLACE, CRL_ORDER and LOM_PASS keep what
the removed draft left in them. -/
def Device.applyUnweave (d : Device) (w : Nat) : Device :=
  let d := d.endDraft
  let d := d.ledger 11 w (be 8 0 ++ be 8 w)
  let d := ((d.put PCK_WEAVE_STAT.woven false).put PCK_WEAVE_STAT.unweave_armed false).set PCK_CFG.shed_log2 0
  let d := d.setPair PCK_DRAFT_ID_LO.id_lo PCK_DRAFT_ID_HI.id_hi 0
  let d := (d.setPair PCK_WEAVE_PN_LO.wpn_lo PCK_WEAVE_PN_HI.wpn_hi w).inc PCK_WEAVE_CNT.done
  let d := d.put CRL_CFG.stretch_wait false
  let d := { d with drafts := { d.drafts with armed := none }, tm := { d.tm with stretch := none } }
  ((List.range 4).foldl Device.stopEngine d).resetSetter w

/-- The deadline D of an armed weave (R352): an incomplete preparation fails it. -/
def Device.weaveDue (d : Device) (m : Nat) : Device :=
  match d.drafts.armed with
  | none => d
  | some a =>
    if a.prepared ∨ a.deadline ≠ m then d
    else
      let d := ((d.put PCK_WEAVE_STAT.missed true).inc PCK_WEAVE_CNT.failed).disarm
      d.eventNotice 0x20000 PCK_WEAVE_STAT.word.addr

/-! ### The boundary -/

/-- Engine `e` at a boundary (09 R251): its pick event is set, and one still set has been missed. -/
def Device.pickEvent (d : Device) (e : Nat) : Device :=
  let st := d.trdState e
  if st < 2 ∨ 4 < st then d
  else
    let x := d.engine e
    let d := if x.event then (d.put (TRD_STAT.overrun e) true).inc (TRD_OVERRUN.count e) else d
    d.setEngine e { x with event := true }

/-- PERIOD words whose boundary has come are sent no more (04 R109). -/
def Device.dropPeriods (d : Device) (m : Nat) : Device :=
  (List.range 64).foldl (fun d p =>
    let x := d.port p
    if x.periods.isEmpty then d else d.setPort p { x with periods := x.periods.filter fun w => !ahead m w.boundary }) d

/-- PN advances: the interval of pick `m` begins at `now` (R40). -/
def Device.advance (d : Device) (m now : Nat) : Device :=
  { d with tm := { d.tm with pickStart := now } }.setPn m

/-- Sheds that ended before the boundary `m` while the blocks restarted are done with what they held, and the next ones begin; one
that ends at `m` itself is still in progress. -/
def Device.catchUp (d : Device) (m : Nat) : Nat → Device
  | 0 => d
  | fuel + 1 =>
    match d.sheds.cur with
    | none => d
    | some r =>
      if !ahead m (r.stop + 1) then d
      else
        let d := { d with sheds := { d.sheds with cur := none } }
        let d := if d.replayOf r.start then { d with sheds := { d.sheds with waiting := d.sheds.waiting ++ [r] } } else d.countShed r false
        (d.beginShed r.stop).catchUp m fuel

/-- The sheds that ended before the boundary `m`, however many they are. -/
def Device.catchUpTo (d : Device) (m : Nat) : Device :=
  match d.sheds.cur with
  | none => d
  | some r => { d with sheds := { d.sheds with work := d.workNow } }.catchUp m ((m + 2 ^ 64 - r.start) % 2 ^ 64 / d.shedLen + 1)

/-- The weight sets of the shed in progress at pick `m` and of the next one are made again (log 17). -/
def Device.remakeSets (d : Device) (m : Nat) : Device :=
  let a := m - m % 2 ^ 48 % d.shedLen
  [a, (a + d.shedLen) % 2 ^ 64].foldl (fun (d : Device) s =>
    let e := d.entOf s
    let (w, d) := d.newSet false s (d.bankBase false) (d.get HST_GEN.beam_limit)
      (d.gainBase (d.liveOf HST_GAIN_SEL.gain_set) (entChannel d.draft e)) (entNu d.draft e) (d.get PCK_CFG.shed_log2) (d.periodAt s)
    let (w, d) := d.fillSet w
    { d with setter := d.setter.addSet w }) d

/-- The device resumes at the boundary of pick `m` (10 R292): the shed that `m` lies in goes on, in the bank that accumulates by
now (06 R545). -/
def Device.resumeAt (d : Device) (m : Nat) : Device :=
  let d := { d with jrn := { d.jrn with quiesced := none, resumePick := none } }
  if !d.woven then d
  else
    let pos := m % 2 ^ 48 % d.shedLen
    let d := d.catchUpTo m
    let d := { d with sheds := { d.sheds with work := d.workNow } }
    let d := if d.sheds.cur.isNone ∧ pos ≠ 0 then d.beginShed (m - pos) else d
    let cur := d.sheds.cur.map fun (r : ShedRef) => { r with bank := d.sheds.bank }
    { d with sheds := { d.sheds with cur := cur, flipDue := pos == 0, work := [] } }.remakeSets m

/-- The device resumes at the boundary that firmware named (10 R292), and a fatal fault's rejections begin at the next
boundary after it (17 R477). -/
def Device.gates (d : Device) (m : Nat) : Device :=
  let d := if d.jrn.resumePick = some m then d.resumeAt m else d
  if d.flag GLB_FATAL.fatal then { d with sup := { d.sup with fatalReject := true } } else d

/-- The blocks are reset and wait to resume: the pick timer runs (18 R499, 02 R44). -/
def Device.restarting (d : Device) : Bool := d.jrn.quiesced == some true

/-- While the blocks restart, the bank that accumulates goes on changing at time 1 of every shed boundary (06 R545); `m` is the
pick that begins. -/
def Device.restartFlip (d : Device) (m : Nat) : Device :=
  if !d.woven ∨ (m + 2 ^ 48 - 1) % 2 ^ 48 % d.shedLen ≠ 0 then d else d.setBank (!d.sheds.bank)

/-- The weave that takes effect at pick `m`: none, a weave or an unweave. -/
def Device.weaveAtPick (d : Device) (m : Nat) : Option Armed :=
  match d.drafts.armed with
  | some a => if a.w = m then some a else none
  | none => none

/-- What takes effect at the boundary of pick `m`, whose instant is `now`, once PN has advanced. `gen` says that it is time 1
of a shed boundary. DESIGN CHOICE (log 71): the switch machine goes first, so a latched request whose pick E is that of a
weave starts there (07 R202) and is discarded at once (07 R205). -/
def Device.takeEffect (d : Device) (m now : Nat) (gen : Bool) : Device :=
  let arm := d.weaveAtPick m
  let weave : Bool := match arm with
    | some a => !a.unweave
    | none => false
  let shed := d.woven && m % 2 ^ 48 % d.shedLen == 0
  let d := if weave ∧ d.tm.commit.isSome then d.dropCommit.put PCK_COMMIT_STAT.weave_discard true else d
  let d := (d.switchStep m).commitBoundary m now
  let d := if gen ∧ d.woven then d.genStart m else d
  let d := match arm with
    | some a => if a.unweave then (d.genDue m).applyUnweave m else (d.genDue m).applyWeave m
    | none => if shed then d.shedBoundary m else d
  let d := (d.weaveDue m).syncBoundary m now weave
  let d := if shed ∨ weave then { d with sheds := { d.sheds with flipDue := true } } else d
  (List.range 4).foldl Device.pickEvent d

/-- The shed in progress ends with the draft at the weave boundary `m`, while the blocks restart. -/
def Device.endRestartShed (d : Device) (m : Nat) : Device :=
  let d := d.catchUpTo m
  match d.sheds.cur with
  | none => d
  | some r =>
    let d := { d with sheds := { d.sheds with cur := none, work := [] } }
    if d.replayOf r.start then { d with sheds := { d.sheds with waiting := d.sheds.waiting ++ [r] } } else d.countShed r false

/-- What takes effect at the boundary of pick `m` while the blocks restart: device time goes on (02 R44), and commits, a stretch,
synchronising resets and a weave armed since the reset wait for boundaries alone (02 R37, R47, R48, R52, 12 R354). -/
def Device.restartEffect (d : Device) (m now : Nat) : Device :=
  let arm := d.weaveAtPick m
  let weave : Bool := match arm with
    | some a => !a.unweave
    | none => false
  let d := if weave ∧ d.tm.commit.isSome then d.dropCommit.put PCK_COMMIT_STAT.weave_discard true else d
  let d := d.commitBoundary m now
  let d := match arm with
    | some a => if a.unweave then (d.endRestartShed m).applyUnweave m else (d.endRestartShed m).applyWeave m
    | none => match d.tm.stretch with
      | some w => if w.at_ = some m then d.stretchNow m else d
      | none => d
  (d.weaveDue m).syncBoundary m now weave

/-- The pick timer reaches the boundary of pick `m` at `now`, while RUNNING. -/
def Device.boundary (d : Device) (m now : Nat) : Device :=
  let d := d.at_ now
  if d.restarting then (((((d.advance m now).restartFlip m).restartEffect m now).dropPeriods m).gates m).firmwareTurn
  else
    let d := (d.endInterval m).startCompute m
    let gen := d.sheds.flipDue
    let d := if gen then d.shedSwitch ((m + 2 ^ 64 - 1) % 2 ^ 64) else d
    let d := ((d.advance m now).creelRead ((m + 2 ^ 64 - 1) % 2 ^ 64)).shedTwo
    let d := ((d.takeEffect m now gen).dropPeriods m).gates m
    ((d.setPn m).syncQueues).firmwareTurn

/-- PICK_BOUNDARY: the next pick begins P after the last. While PCK is not RUNNING there are no pick boundaries (R543): an arm
taken from RUNNING leaves the timer's grid of periods running (R29), and PN stands still until PCK is RUNNING again (log 27). -/
def execPickBoundary (s : State) : Host.Outcome State Fault Refusal :=
  s.act fun d =>
    let m := (d.pn + 1) % 2 ^ 64
    let now := d.tm.pickStart + d.period
    if d.running then d.boundary m now
    else if d.get PCK_STATE.state = 1 ∧ d.tm.armedFrom = 2 then 
      let base := (m, now + d.period, d.period)
      { d.at_ now with tm := { (d.at_ now).tm with
          pickStart := now, bases := base :: d.tm.bases.dropWhile fun b => b.1 == m } }
    else d

end Sys2Proof.Machine
end

