-- ==== Sys2Proof/Machine/RsqOps.lean ====
section
/-! DEFINITION. The management firmware's shared operations (15 R411 to R431): addresses, keys, messages and replies, the
sequence window, statuses, settings and their storage, and UPDATE notices (18 R516). -/

namespace Sys2Proof.Machine

/-! ### Addresses and keys -/

/-- A port's addresses before SET_NET (R411). -/
def defaultNet (m : Nat) : Net :=
  let h := sha256 fusedIdentity
  let b (i : Nat) : Nat := (h.getD i 0).toNat
  { mac := ofBe [0x02, 0x57, h.getD 0 0, h.getD 1 0, h.getD 2 0] * 256 + (b 3 / 2 * 2 + m)
    ip := 169 * 2 ^ 24 + 254 * 2 ^ 16 + (1 + b 0 % 254) * 256 + (b 2 / 2 * 2 + m)
    udp := 49312 }

/-- The addresses of heddle port `m` that settings `c` give. -/
def Settings.net (c : Settings) (m : Nat) : Net := ((if m = 0 then c.net0 else c.net1).getD (defaultNet m))

/-- The 32 bytes of the factory key. -/
def factoryKeyBytes : List Byte := (List.range 32).map Config.factoryKey

/-- The device has an installation key (R420). -/
def Device.provisioned (d : Device) : Bool := d.rsq.cfg.key.isSome

/-- The key that key_sel names; none for an installation key that does not exist. -/
def Device.keyOf (d : Device) (factory : Bool) : Option (List Byte) := if factory then some factoryKeyBytes else d.rsq.cfg.key

/-! ### Messages (R413 to R416) -/

/-- The header of R414. -/
def rsqHead (kind code len session seq ref keySel : Nat) : List Byte :=
  be 2 0x5253 ++ be 1 1 ++ be 1 kind ++ be 2 code ++ be 2 len ++ be 4 session ++ be 8 seq ++ be 8 ref ++ be 1 keySel ++
    be 3 0

/-- The UDP payload: header, body and tag (R415). -/
def rsqPayload (key : List Byte) (keySel kind code session seq ref : Nat) (body : List Byte) : List Byte :=
  let m := rsqHead kind code body.length session seq ref keySel ++ body
  m ++ (hmac key m).take 16

/-- A payload leaves on heddle port `m` for `dst` (R413), from the addresses `net`: the port's frames are kept, oldest first. -/
def Device.emitPayload (d : Device) (net : Net) (m : Nat) (dst : Endpoint) (payload : List Byte) : Device :=
  let h : UdpHead :=
    { dmac := dst.mac.toNat, smac := net.mac, tag := dst.tag.map BitVec.toNat, dscp := 0, ttl := 64, sip := net.ip,
      dip := dst.ip.toNat, sport := net.udp, dport := dst.udp.toNat }
  let f := withFcs (udpFrame h payload)
  let r := d.rsq
  { d with rsq := if m = 0 then { r with tx0 := r.tx0 ++ [f] } else { r with tx1 := r.tx1 ++ [f] } }

/-- A device message other than a notice: its seq is the device's own counter, from 1 in each session (R419). `key` and
`net` are those in force when the message it answers arrived. -/
def Device.answer (d : Device) (key : List Byte) (net : Net) (h : HostHdr) (kind code : Nat) (body : List Byte) (cache : Bool) :
    Device :=
  let r := d.rsq
  let n := r.devSeq + 1
  let pay := rsqPayload key (if h.factory then 1 else 0) kind code r.cfg.session n h.seq.toNat body
  let reply : Reply := { hdr := h, payload := pay }
  let d := { d with rsq := { r with devSeq := n, cache := if cache then (reply :: r.cache).take 256 else r.cache } }
  d.emitPayload net h.port.val h.src pay

/-- The key that authenticated message `h`, and its port's addresses, as it arrived: those kept with a message that waits, those
in force for one that is arriving (R415, R428). -/
def Device.arrivedUnder (d : Device) (h : HostHdr) : List Byte × Net :=
  match d.rsq.waiting.find? fun w => w.hdr == h with
  | some w => (w.key, w.net)
  | none => ((d.keyOf h.factory).getD [], d.rsq.cfg.net h.port.val)

/-- The reply to an accepted message: it enters the cache before it is sent (R418). -/
def Device.reply (d : Device) (h : HostHdr) (kind code : Nat) (body : List Byte) : Device :=
  d.answer (d.arrivedUnder h).1 (d.arrivedUnder h).2 h kind code body true

/-- A RESPONSE with status `code`. -/
def Device.respond (d : Device) (h : HostHdr) (code : Nat) (body : List Byte) : Device := d.reply h 2 code body

/-- The ACK of a BULK write (R433). -/
def Device.ack (d : Device) (h : HostHdr) (code : Nat) : Device := d.reply h 5 code []

/-- Counts one in STATS counter `n`, saturating at 32 bits (R427). -/
def Device.stat (d : Device) (n : Nat) : Device :=
  let c := Sparse.get (fun _ => 0) d.rsq.counters n
  { d with rsq := { d.rsq with counters := Sparse.put (fun _ => 0) d.rsq.counters n (satU 32 (c + 1)) } }

/-! ### The sequence window (R417) -/

/-- What the window says of a host message's seq. -/
inductive SeqVerdict where
  | fresh | cached (payload : List Byte) | stale
  deriving DecidableEq, Repr

/-- The verdict on seq `n`. -/
def Device.verdict (d : Device) (n : Nat) : SeqVerdict :=
  let r := d.rsq
  if r.h < n then .fresh
  else if r.h < n + 256 ∧ !r.accepted.contains n then .fresh
  else match r.cache.find? fun c => c.hdr.seq.toNat == n with
    | some c => .cached c.payload
    | none => .stale

/-- Seq `n` is accepted: H rises to it, and the record keeps the last 256 values. -/
def Device.acceptSeq (d : Device) (n : Nat) : Device :=
  let r := d.rsq
  let h := max r.h n
  { d with rsq := { r with h := h, accepted := (n :: r.accepted).filter fun x => decide (h < x + 256) } }

/-- The answer to a message that is not executed: a RESPONSE to a command, an ACK to a BULK write, nothing to a host ACK
(R416, R417, R425, R441). It is not cached. -/
def Device.turnAway (d : Device) (h : HostHdr) (kind code : Nat) (body : List Byte) : Device :=
  if kind = 5 then d
  else d.answer ((d.keyOf h.factory).getD []) (d.rsq.cfg.net h.port.val) h (if kind = 1 then 2 else 5) code body false

/-- A repeated message: its cached reply is sent again as the answer to it, or it is answered REPLAYED (R417). -/
def Device.repeated (d : Device) (h : HostHdr) (kind : Nat) : Device :=
  match d.verdict h.seq.toNat with
  | .cached p => if kind = 5 then d else d.emitPayload (d.rsq.cfg.net h.port.val) h.port.val h.src p
  | .stale => (d.stat 4).turnAway h kind 5 []
  | .fresh => d

/-- The read and write latches of the Rosesque host bridge are emptied (19 R524). Latches are keyed by master. -/
def Device.emptyLatches (d : Device) (m : Nat) : Device :=
  { d with rlatch := Sparse.put (fun _ => none) d.rlatch m none, wlatch := Sparse.put (fun _ => none) d.wlatch m none }

/-- Firmware runs the effect `f` of message `h`, which then waits no longer; a commit of its own comes after it (19 R526). -/
def Device.perform (d : Device) (h : HostHdr) (f : Device → Device) : Device :=
  let e := f d
  { e with rsq := { e.rsq with waiting := e.rsq.waiting.filter fun w => w.hdr != h } }.firmwareTurn.emptyLatches 3

/-- The message that waits is `h`, of this kind, code and body. -/
def Waiting.is (w : Waiting) (h : HostHdr) (kind code : Nat) (body : List Byte) : Bool :=
  w.hdr == h && w.kind == kind && w.code == code && w.body == body

/-- Firmware executes the message `h` of this kind, code and body: the one that has waited longest, or, when none waits, one
that arrives as it is executed (R417, R424; log 15). `f` is its effect. -/
def Device.execute (d : Device) (h : HostHdr) (kind code : Nat) (body : List Byte) (f : Device → Device) : Device :=
  if !d.fwUp then d
  else match d.rsq.waiting with
    | x :: _ => if x.is h kind code body then d.perform h f else d
    | [] =>
      if !h.factory ∧ !d.provisioned then d
      else match d.verdict h.seq.toNat with
        | .fresh => (d.acceptSeq h.seq.toNat).perform h f
        | .cached _ => d.repeated h kind
        | .stale => d.repeated h kind

/-- The key that a COMMAND arrived under does not serve for it (R420, R550): `open_` says that an unprovisioned device
executes it, under the factory key, and `factory` that a provisioned device takes it under the factory key instead of the
installation key. -/
def Device.wrongKey (d : Device) (h : HostHdr) (open_ factory : Bool) : Bool :=
  if d.provisioned then h.factory != factory else !(open_ && h.factory)

/-- A COMMAND of the protocol (R427): answered KEY where its key does not serve, else executed. -/
def Device.command (d : Device) (h : HostHdr) (code : Nat) (body : List Byte) (open_ factory : Bool) (f : Device → Device) :
    Device :=
  d.execute h 1 code body fun d => if d.wrongKey h open_ factory then d.respond h 10 [] else f d

/-! ### READ_DATA and busy clean slots (R435, 16 R458) -/

/-- The range of clean slot `s` while it is busy. -/
def Device.slotRange (d : Device) (s : Nat) : Option (Nat × Nat) :=
  if d.flag (HDL_CLEAN_CTL.busy s) then
    some (d.get (HDL_CLEAN_LO.base_lo s) + 2 ^ 32 * d.get (HDL_CLEAN_HI.base_hi s), d.get (HDL_CLEAN_LEN.length s))
  else none

/-- `[a, a + n)` meets the range of a busy clean slot. -/
def Device.inClean (d : Device) (a n : Nat) : Bool :=
  (List.range 4).any fun s => match d.slotRange s with
    | none => false
    | some (b, m) => meets a n b m

/-- A chunk that waits and that a busy clean slot now holds is counted, once (16 R458). -/
def Device.holdChunks (d : Device) : Device :=
  let now := d.rsq.held.filter fun c => !c.counted && d.inClean c.addr c.len
  let held := d.rsq.held.map fun c => { c with counted := c.counted || d.inClean c.addr c.len }
  { d.add HDL_BARRIER.held now.length with rsq := { d.rsq with held := held } }

/-- A READ_DATA message: poisoned lines as zeros, with mem_err. -/
def Device.readData (d : Device) (c : HeldChunk) : Device :=
  let flags := (if d.poisoned c.addr c.len then 1 else 0) + (if c.last then 2 else 0)
  let body := be 1 3 ++ be 1 flags ++ be 2 c.len ++ be 6 c.addr ++ be 14 0 ++ d.winBytes false c.addr c.len
  ((d.request 3 (bursts c.addr c.len)).readFor (.matrix 3) c.addr c.len).answer c.key c.net c.hdr 4 0 body false

/-- Sends what no busy clean slot holds, each read's chunks in ascending order. -/
def Device.sendChunks (d : Device) : Device :=
  let r := d.rsq.held.foldl (fun (a : Device × List HeldChunk) c =>
    if d.inClean c.addr c.len ∨ a.2.any (fun k => k.hdr == c.hdr) then (a.1, a.2 ++ [c]) else (a.1.readData c, a.2)) (d, [])
  { r.1 with rsq := { r.1.rsq with held := r.2 } }

/-! ### Settings (R428, 18 R512) -/

/-- A settings command that has been answered takes effect; its storage will be confirmed by a DONE notice (R428). -/
def Device.change (d : Device) (h : HostHdr) (x : SettingChange) : Device :=
  let d := d.setCfg x.apply
  { d with rsq := { d.rsq with dirty := d.rsq.dirty ++ [(h.seq.toNat, x)] } }

/-- A DONE notice for the message with seq `ref`: pair 0 holds the status in its value, at an address that the spec does not
name (R438, log 6). -/
def Device.done (d : Device) (ref status : Nat) : Device :=
  let a := Config.free d.freeN % 2 ^ 32
  d.nextFree.noticeRef 3 (Config.severity 3 0).val 0 (be 8 ref) [(a, status)]

/-- A domain's supply code; values above 80 are taken as 80 (17 R493). -/
def Device.domSet (d : Device) (k : Nat) : Nat := min 80 (d.get (WGE_DOM_SET.set_ k))

/-- The rail code: the highest set code of the 133 domains (20 R535). -/
def Device.railCode (d : Device) : Nat :=
  (List.range 133).foldl (fun a k => max a (d.domSet k)) 0

/-- The voltage of code `c`, in microvolts (17 R487, 20 R535). -/
def codeMicrovolts (c : Nat) : Nat := 620000 + 2500 * c

/-- Domain `k` runs in bypass: its code lies from r - 6 to the rail code r (20 R535). -/
def Device.bypass (d : Device) (k : Nat) : Bool := decide (d.railCode ≤ d.domSet k + 6)

/-- The supply of domain `k` in microvolts: VDD_CORE in bypass, its own code's voltage otherwise (20 R535). -/
def Device.domainMicrovolts (d : Device) (k : Nat) : Nat :=
  codeMicrovolts (if d.bypass k then d.railCode else d.domSet k)

/-- The regulator's address (20 R534): 0x40 by the image that the device is delivered with, else as the boot configuration part of
the running bank names it (log 95). -/
def Boot.vrAddress (x : Boot) : BitVec 7 :=
  let f := x.bankByte x.running
  let k := ((List.range 5).find? fun k => imgN f (64 + 48 * k) 2 == 5).getD 0
  if x.delivered.contains x.running then 0x40
  else Config.vrAddress (imgBytes f (imgN f (64 + 48 * k + 4) 4) (imgN f (64 + 48 * k + 8) 4))

/-- VOUT_COMMAND for rail code `c` goes out on the VR bus (20 R534). -/
def Device.sendVout (d : Device) (c : Nat) : Device :=
  { d with sup := { d.sup with vout := some (d.boot.vrAddress, Config.voutWord (codeMicrovolts c)) } }

/-- The rail code last commanded. -/
def Supply.sent (x : Supply) : Nat := match x.plan with
  | none => x.rail
  | some p => p.rail

/-- The rail is the highest code of the domains, no re-plan waits, and a code other than the last commanded one is commanded;
`watched`: READ_VOUT must then settle (20 R535, R537, R538). -/
def Device.commandRail (d : Device) (watched : Bool) : Device :=
  let c := d.railCode
  let e : Device := { d with sup := { d.sup with rail := c, plan := none } }
  if c = d.sup.sent then e
  else { e with sup := { e.sup with settling := if watched then some 1 else none } }.sendVout c

/-- A domain's code has been written: the rail follows the highest of them, above what a re-plan has commanded too (20 R535). -/
def Device.followCodes (d : Device) : Device :=
  match d.sup.plan with
  | none => d.commandRail true
  | some p =>
    if d.railCode ≤ p.rail then d
    else { d with sup := { d.sup with plan := some { p with rail := d.railCode, tries := 1 } } }.sendVout d.railCode

/-! ### Where notices go (R440, R444) -/

/-- The destination in use (R444, R445). -/
def Device.noticeDest (d : Device) : Option Dest :=
  let c := d.rsq.cfg
  match c.primary, c.alternate with
  | some p, some a => some (if d.rsq.onAlternate then a else p)
  | some p, none => some p
  | none, a => a

/-- A notice's message body (R437). -/
def Notice.body (n : Notice) : List Byte :=
  be 1 n.severity ++ be 1 n.pairs.length ++ be 2 n.count ++ be 8 n.firstPick ++ be 8 n.lastPick ++ be 4 n.subject ++
    (n.ref ++ List.replicate (8 - n.ref.length) 0) ++ n.pairs.flatMap fun p => be 4 p.1 ++ be 4 p.2

/-- A notice leaves for the destination in use, under the installation key (R415); a DONE notice's header names the command. -/
def Device.emitNotice (d : Device) (n : Notice) : Device :=
  match d.rsq.cfg.key, d.noticeDest with
  | some k, some x =>
    d.emitPayload (d.rsq.cfg.net x.port) x.port x.ep
      (rsqPayload k 0 3 n.ty d.rsq.cfg.session n.nseq (if n.ty = 3 then ofBe n.ref else 0) n.body)
  | _, _ => d

/-- Replaces the notice with `n`'s number. -/
def Device.setNotice (d : Device) (n : Notice) : Device :=
  { d with rsq := { d.rsq with queue := d.rsq.queue.map fun x => if x.nseq = n.nseq then n else x } }

/-- Every unacknowledged notice is sent again at `t` on the port now in use, in nseq order, its timeout back at rto (R444). -/
def Device.resendNotices (d : Device) (t : Nat) : Device :=
  (d.rsq.queue.filter fun n => n.sent).foldl (fun (d : Device) n =>
    let n := { n with timeout := d.rsq.cfg.rto, expiries := 0, sentAt := t }
    ((d.setNotice n).emitNotice n).stat 7) d

/-- Notices move to the alternate destination, where there is one. -/
def Device.toAlternate (d : Device) (t : Nat) : Device :=
  if d.rsq.onAlternate ∨ d.rsq.cfg.primary.isNone ∨ d.rsq.cfg.alternate.isNone then d
  else { d with rsq := { d.rsq with onAlternate := true } }.resendNotices t

/-- Notices leave the primary destination when its port's link is down (R444). -/
def Device.leavePrimary (d : Device) (t : Nat) : Device :=
  let r := d.rsq
  let down : Bool := match r.cfg.primary with
    | none => false
    | some p => !(if p.port = 0 then r.linkUp0 else r.linkUp1)
  if down then d.toAlternate t else d

/-- The token bucket at `t`: 64 tokens of 1.6 × 10^9 each, refilled at `rate` in each loom cycle (R440). -/
def Rosesque.refill (r : Rosesque) (t : Nat) : Rosesque :=
  { r with tokens := min 102400000000 (r.tokens + (t - r.tokensAt) * r.cfg.rate), tokensAt := max t r.tokensAt }

/-! ### UPDATE notices (18 R516) -/

/-- The severity of an UPDATE event. -/
def updateSeverity (event : Nat) : Nat := if event = 3 then 1 else if event < 6 then 0 else 2

/-- An UPDATE notice: the version running, the other version and its settings layout, the layout found, pieces stored. -/
def Device.update (d : Device) (event other otherLayout : Nat) : Device :=
  let x := d.boot
  let base := 0x80000000
  d.notice 0x30 (updateSeverity event) 0x7c0000
    [(base + event, x.version), (base + 0x100, other), (base + 0x200, x.found), (base + 0x300, otherLayout),
     (base + 0x400, x.stored.length + 65536 * x.pieceTotal)]

end Sys2Proof.Machine
end

