-- ==== Sys2Proof/Machine/Startup.lean ====
section
/-! DEFINITION. Reset, start-up and firmware activation (18 R494 to R516), the quiesce and the rebuild of a warm restart (10
R289 to R292), training of attached memory (13 R362 to R369). -/

namespace Sys2Proof.Machine

/-! ### Resets -/

/-- GLB_LAST_FATAL at a reset: a fatal fault in force is recorded (17 R478). -/
def Device.lastFatal (d : Device) : W32 :=
  if d.flag GLB_FATAL.fatal then
    BitVec.ofNat 32 (d.get GLB_FATAL.block + 2 ^ 11 * d.get GLB_FATAL.source + (if d.sup.fatalInj then 2 ^ 15 else 0) + 2 ^ 16)
  else d.word GLB_LAST_FATAL.word.addr

/-- A cold reset (18 R495, R496): reset values everywhere but in GLB_LAST_FATAL and the flash; the strap stays as sampled. What
has left the heddle ports and the state of their links are no state that a reset clears. -/
def Device.coldReset (d : Device) : Device :=
  let c := Device.cold
  let e : Device := { c with
    powered := d.powered, testen := d.testen, freeN := d.freeN, tm := { c.tm with now := d.tm.now }
    rsq := { c.rsq with
      store0 := d.rsq.store0, store1 := d.rsq.store1, tx0 := d.rsq.tx0, tx1 := d.rsq.tx1, linkUp0 := d.rsq.linkUp0
      linkUp1 := d.rsq.linkUp1, linkAt0 := d.rsq.linkAt0, linkAt1 := d.rsq.linkAt1 }
    boot := { d.boot with phase := .rom, warm := false, trialRun := false, usePrev := false, note := [], dramReady := false, found := 0 } }
  (e.setWord GLB_LAST_FATAL.word.addr d.lastFatal).put GLB_TEST.testen d.testen

/-! ### The boot ROM (R498, R509 to R511) -/

/-- Firmware of a bank is loaded: the active bank's, or the previous one's after a fallback. -/
def Device.loadBank (d : Device) (prev : Bool) : Device :=
  { d.set HDL_BOOT.stage (if prev then 4 else 3) with boot := { d.boot with phase := .loaded, usePrev := prev } }

/-- Changes the boot record. -/
def Device.bootWrite (d : Device) (f : BootRec → BootRec) : Device := { d with boot := d.boot.write (f d.boot.record) }

/-- Firmware is to report an UPDATE event. -/
def Device.noteEvent (d : Device) (event other : Nat) : Device :=
  { d with boot := { d.boot with note := d.boot.note ++ [(event, other)] } }

/-- The bank to run is verified and loaded; when the active bank fails, the previous one runs, and when that fails too, the
device stays in the boot ROM (R498). -/
def Device.runBank (d : Device) : Device :=
  let x := d.boot
  let r := x.record
  if r.run = 0 ∧ x.bankOk 0 then d.loadBank false
  else if x.bankOk 1 then
    if r.run = 1 then d.loadBank true
    else
      let d := d.bootWrite fun r => { r with state := 0, run := 1, reason := 3 }
      ({ d with boot := { d.boot with trialRun := false } }.loadBank true).noteEvent 8 r.vAct
  else { d.set HDL_BOOT.stage 0 with boot := { x with phase := .stuck } }

/-- The boot ROM falls back after FALLBACK: the previous bank runs from now on (R511, R514, R515). -/
def Device.fallBack (d : Device) : Device :=
  let r := d.boot.record
  let d := d.bootWrite fun r => { r with state := 0, run := 1 }
  let d := if r.reason = 1 then d.noteEvent 6 r.vAct else if r.reason = 2 then d.noteEvent 7 r.vAct else d
  { d with boot := { d.boot with trialRun := false } }.runBank

/-- A start in TRIAL: trials counts it, or would pass 3 and the boot ROM falls back (R511). -/
def Device.trialStart (d : Device) : Device :=
  if 3 ≤ d.boot.record.trials then (d.bootWrite fun r => { r with state := 5, reason := 2 }).fallBack
  else
    let d := d.bootWrite fun r => { r with trials := r.trials + 1 }
    { d with boot := { d.boot with trialRun := true } }.runBank

/-- The copy step that the boot record names begins, from its start (R509, R510). -/
def Device.copyStep (d : Device) (prev : Bool) : Device :=
  { d.set HDL_BOOT.stage 2 with boot := { d.boot with phase := if prev then .copyPrev else .copyAct } }

/-- The boot ROM runs (R509 to R511). -/
def Device.bootRom (d : Device) : Device :=
  let d := d.set HDL_BOOT.stage 0
  let r := d.boot.record
  match r.state with
  | 1 =>
    if !d.boot.bankOk 2 then ((d.bootWrite fun r => { r with state := 0 }).noteEvent 3 r.vStag).runBank
    else if r.run = 0 then (d.bootWrite fun r => { r with state := 2 }).copyStep true
    else (d.bootWrite fun r => { r with state := 3 }).copyStep false
  | 2 => d.copyStep true
  | 3 => d.copyStep false
  | 4 => d.trialStart
  | 5 => d.fallBack
  | _ => d.runBank

/-- A cold start at `t`: the identity is read (17 R490), the boot ROM runs, the channels train (13 R368). DEDUCED (log 72): the
warp ports' training that begins with it is not counted in train_count, whose value after a cold reset is 0 (03 R83). -/
def Device.coldBoot (d : Device) (t : Nat) : Device :=
  let d := d.at_ t
  let (_, d) := d.check .glb 2 (ofBe (fusedIdentity.drop 12) != crc32c (fusedIdentity.take 12)) 0
  let d := (List.range 24).foldl (fun d ch => d.set (DRM_STAT.state ch) 1) d
  { d with rsq := { d.rsq with coldAt := t } }.bootRom

/-- A cold reset while the rails and RST_N stay as they are: by RESET, a fatal fault, or a warm restart that cannot proceed. -/
def Device.coldRestart (d : Device) : Device := d.coldReset.coldBoot d.tm.now

/-- PWROK rises, or RST_N goes low (R494, R495): cold, and held until RST_N rises. -/
def execPowerOnReset (s : State) : Host.Outcome State Fault Refusal :=
  s.actRaw fun d => { d.coldReset with held := true, powered := true }

/-- PWROK falls (20 R540): everything is lost but what the flash holds. -/
def execPwrokFall (s : State) : Host.Outcome State Fault Refusal :=
  s.actRaw fun d =>
    let e := d.coldReset
    { e.setWord GLB_LAST_FATAL.word.addr 0 with held := true, powered := false }

/-- RST_N rises at `t`; `testen` is the level of TESTEN (17 R483). -/
def execColdStart (t : Nat) (testen : Bool) (s : State) : Host.Outcome State Fault Refusal :=
  s.actRaw fun d =>
    if !d.powered ∨ (!d.held ∧ d.boot.phase ≠ .rom) then d
    else ({ d with held := false, testen := testen }.put GLB_TEST.testen testen).coldBoot t

/-- A bank copy of the activation is complete and is checked (R509); a copy that fails its check is made again (log 14). -/
def execActivationCopyDone (s : State) : Host.Outcome State Fault Refusal :=
  s.act fun d =>
    let x := d.boot
    if x.phase = .copyPrev then
      let y := x.copyBank 0 1
      if y.bankOk 1 then
        ({ d with boot := y }.bootWrite fun r => { r with state := 3, vPrev := r.vAct }).copyStep false
      else { d with boot := y }
    else if x.phase = .copyAct then
      let y := x.copyBank 2 0
      if y.bankOk 0 then
        ({ d with boot := y }.bootWrite fun r => { r with state := 4, vAct := r.vStag, trials := 0, run := 0 }).trialStart
      else { d with boot := y }
    else d

/-- The start watchdog of TRIAL expires: a new start of the kind in progress (R511). -/
def execStartWatchdogExpiry (s : State) : Host.Outcome State Fault Refusal :=
  s.act fun d =>
    if !d.boot.trialRun ∨ d.boot.phase ≠ .loaded then d
    else if d.boot.warm then { d with boot := { d.boot with trialRun := false } }.bootRom
    else d.coldRestart

/-! ### Attached memory (13 R362, R363, R368, R369) -/

/-- The first byte lane whose window is narrower than 16/64 UI (R368). -/
def failedLane (ls : List LaneFit) : Option Nat :=
  (List.range ls.length).find? fun i => match ls[i]? with
    | some l => decide (l.rdWidth.val < 16) || decide (l.wrWidth.val < 16)
    | none => false

/-- A channel's training results stand in its registers. -/
def Device.showTraining (d : Device) (ch : Nat) (ls : List LaneFit) : Device :=
  (List.range ls.length).foldl (fun d i => match ls[i]? with
    | none => d
    | some l =>
      let d := (d.set (DRM_TRAIN.rd_centre ch i) l.rdCentre.val).set (DRM_TRAIN.rd_width ch i) l.rdWidth.val
      (d.set (DRM_TRAIN.wr_centre ch i) l.wrCentre.val).set (DRM_TRAIN.wr_width ch i) l.wrWidth.val) d

/-- The data rates of R361, descending. -/
def speedBins : List Nat := [8800, 8000, 7200, 6400, 6000, 5600]

/-- The highest bin that every module supports (R363). -/
def commonRate (ms : List Spd) : Nat :=
  (speedBins.find? fun b => ms.all fun x => decide (b ≤ x.bin)).getD 5600

/-- The module is one that R361 lists. -/
def spdSupported (x : Spd) : Bool :=
  x.registered && x.width == 4 && [16, 24, 32].contains x.dieGb && !x.stacked && [1, 2].contains x.ranks &&
    [32, 48, 64, 96, 128].contains x.capGb && speedBins.contains x.bin && x.modules == 1 && x.checked && x.i3c

/-- The supported module of a channel, if it has one. -/
def moduleOf (r : ModuleReport) : Option Spd := r.spd.filter spdSupported

/-- Two modules agree in capacity, rank count and die density (R362). -/
def moduleAgrees (a b : Spd) : Bool := a.capGb == b.capGb && a.ranks == b.ranks && a.dieGb == b.dieGb

/-- DRM_CFG shows the channel's module, 0 without a supported one (R386), and the controller takes its threshold of R378. -/
def Device.showModule (d : Device) (ch rate : Nat) (m : Option Spd) : Device :=
  let (ranks, density, cap) : Nat × Nat × Nat := match m with
    | none => (0, 0, 0)
    | some x => (x.ranks, (x.dieGb - 16) / 8, x.capGb)
  let d := d.setDram ch { d.dram ch with rfm := m.bind Spd.rfm }
  (((d.set (DRM_CFG.ranks ch) ranks).set (DRM_CFG.density ch) density).set (DRM_CFG.cap_gb ch) cap).set (DRM_CFG.rate ch) rate

/-- Training has ended: the memory is in use, or not at all (R362). `rs` reports the 24 channels. -/
def execDramTrainingDone (reports : List ModuleReport) (s : State) : Host.Outcome State Fault Refusal :=
  s.act fun d =>
    if !(List.range 24).all (fun ch => d.get (DRM_STAT.state ch) == 1) then d
    else
      let rate := commonRate (reports.filterMap moduleOf)
      let d := (List.range 24).foldl (fun d ch => match reports[ch]? with
        | none => d
        | some r => (d.showModule ch rate (moduleOf r)).showTraining ch r.lanes) d
      let first := reports.head?.bind moduleOf
      let good (r : ModuleReport) : Bool := (failedLane r.lanes).isNone && match (moduleOf r), first with
        | some x, some z => moduleAgrees x z
        | _, _ => false
      if reports.length = 24 ∧ reports.all good then
        { (List.range 24).foldl (fun (d : Device) ch => d.set (DRM_STAT.state ch) 2) d with
          boot := { d.boot with dramReady := true } }
      else
        (List.range 24).foldl (fun (d : Device) ch =>
          let lane : Nat := match reports[ch]? with
            | none => 15
            | some r => if (moduleOf r).isSome then (failedLane r.lanes).getD 15 else 15
          (d.set (DRM_STAT.state ch) 4).set (DRM_STAT.fail_lane ch) lane) d

/-- A channel leaves self-refresh (R369): its stored results hold, it trains again with the contents kept, or it fails and the
restart is cold. -/
def execSelfRefreshExit (ch : Fin 24) (r : ExitResult) (s : State) : Host.Outcome State Fault Refusal :=
  s.act fun d =>
    if d.get (DRM_STAT.state ch.val) ≠ 3 ∨ !d.boot.warm then d
    else match r with
      | .verified => d.set (DRM_STAT.state ch.val) 2
      | .retrained ls =>
        if (failedLane ls).isSome then d.coldRestart else (d.showTraining ch.val ls).set (DRM_STAT.state ch.val) 2
      | .failed => d.coldRestart

/-! ### The quiesce (10 R290, R291) -/

/-- The last accepted pick over every port. -/
def Device.lastPick (d : Device) : Nat := d.ports.foldl (fun a e => max a (e.2.lastAccepted.getD 0)) 0

/-- Every spill queue drains. -/
def Device.drainAll (d : Device) : Device :=
  let n := d.looms.foldl (fun n e => n + e.2.spills.length) 0
  (List.range 68).foldl (fun d k => (List.range n).foldl (fun d _ => d.drainSpill k) d) d

/-- A region of a bank is dumped as part of a shed, and cleared. -/
def Device.partDump (d : Device) (r : ShedRef) (k : Nat) (bank : Bool) (reg pass : Nat) : Device :=
  let d := d.bobbinChecks k bank reg pass
  let d := if r.keeps ∧ !r.absent.contains pass then d.dumpRegion r k bank reg pass none else d
  d.clearRegion k bank reg

/-- LOM_FRAY shows what the banks of the looms `ks` hold that are about to be dumped in part (06 R180). -/
def Device.showBanks (d : Device) (ks : List Nat) (bank : Bool) : Device :=
  ks.foldl (fun d k => d.showFrays k ((d.loom k).bank bank)) d

/-- The auto-power unit's open sums, as those of a shed that it closes. -/
def Apu.closing (a : Apu) : Apu :=
  { a with closedSums := a.sums, closedCounts := a.counts, closedFault := a.fault, closedFrayed := a.frayed }

/-- The sums of the shed in progress are dumped as a partial shed, the auto-power sums with them (log 17). -/
def Device.dumpCurrent (d : Device) : Device :=
  match d.sheds.cur with
  | none => d
  | some r =>
    let d := d.showBanks (r.map.map fun (e : Nat × Nat × Nat) => e.1).eraseDups r.bank
    let d := r.map.foldl (fun d e => d.partDump r e.1 r.bank e.2.1 e.2.2) d
    let a := d.apu
    let d := d.addApu r a.closing
    let parts := r.map.map fun (e : Nat × Nat × Nat) => 16 * e.1 + e.2.1
    { d with apu := { a with sums := [], counts := [], fault := false, frayed := [] },
             sheds := d.sheds.edit r.start fun x => { x with part := (x.part ++ parts).eraseDups } }

/-- A replaying loom's bank is dumped as part of its shed. -/
def Device.dumpReplays (d : Device) : Device :=
  d.jrn.replays.foldl (fun (d : Device) r => match r.spare with
    | none => d
    | some k =>
      let sh := (d.sheds.find r.shed.start).getD r.shed
      r.slots.foldl (fun d e => d.partDump sh k false e.1 e.2) (d.showBanks [k] false)) d

/-- Updates that the quiesce must make have to wait for a buffer's readout (06 R171): it cannot finish yet. -/
def Device.quiesceBlocked (d : Device) : Bool :=
  d.sheds.banked.any (fun r => d.bufferBusy r) ||
    d.looms.any fun e => !e.2.spills.isEmpty && (d.spillHead e.1).isNone

/-! ### The ledger's tables (10 R286, R288) -/

/-- The numbers that the header holds past its magic. -/
def Device.headerVal (d : Device) : List Nat :=
  let out := (List.range 68).filter fun k => d.role k == 3 || d.role k == 4
  [Config.ledgerLayout, d.pair PCK_DRAFT_ID_LO.id_lo PCK_DRAFT_ID_HI.id_hi,
   d.pair PCK_ANCHOR_LO.anchor_lo PCK_ANCHOR_HI.anchor_hi, d.get ZCH_GEN.gen] ++
    out.flatMap fun k => [k, d.get (LOM_ROLE.cause k)]

/-- What a segment's entry says: its state (in use), span, the capture slots holding it, the replays holding it, by their place in
the replay table. -/
def Device.segVal (d : Device) (g : Nat) : List Nat :=
  let x := d.jrn.seg g
  [if x.span.isSome then 1 else 0, x.span.getD 0, x.openPick, x.lastPick,
   (List.range 16).foldl (fun n k => if d.capState k ≠ 0 ∧ (d.capture k).segs.contains g then n + 2 ^ k else n) 0,
   d.jrn.replays.zipIdx.foldl (fun n e => if d.heldBy e.1 g then n + 2 ^ e.2 else n) 0]

/-- What a capture slot's entry says. -/
def Device.captureVal (d : Device) (n : Nat) : List Nat :=
  let c := d.capture n
  [d.capState n, c.first, c.last, c.trig, c.sources, d.get (JRN_CAP_PROG.pieces n), if c.autoRelease then 1 else 0]

/-- What a replay's entry says; the physical loom and the parking area are one more than their numbers, 0 for none. -/
def Replay.val (r : Replay) : List Nat :=
  [r.logical, match r.spare with | none => 0 | some k => k + 1, r.shed.number, r.staged, r.computed,
   match r.parked with | none => 0 | some i => i + 1]

/-- What a period's entry says of one period: its number, the sheds done, the buffer, whether a weave has cut it, and whether a pass
was ABSENT in it. -/
def Period.val (p : Period) (cut : Bool) : List Nat :=
  [p.num, p.done, p.num % 2, if cut then 1 else 0, if p.absent.isEmpty then 0 else 1]

/-- What the entry of channel-table entry `ent` says: the periods that have ended and are not read out, oldest first, then the
open one. -/
def Device.periodVal (d : Device) (ent : Nat) : List Nat :=
  ((d.sheds.inOrder.filter fun e => e.ent == ent).flatMap fun e => e.per.val e.cut) ++
    (d.sheds.periods.filter fun e => e.1 % 4096 == ent).flatMap fun e => e.2.val false

/-- What the table entry `key` says: of the header, a segment, a capture slot, a replay, a queue or a channel-table entry (10 R286). -/
def Device.tableVal (d : Device) (key : Nat) : List Nat :=
  let i := key % 65536
  match key / 65536 with
  | 0 => d.headerVal
  | 1 => d.segVal i
  | 2 => d.captureVal i
  | 3 => ((d.jrn.replays[i]?).map Replay.val).getD []
  | 4 => (d.queue i).val
  | _ => d.periodVal i

/-- The entries of the header and the five tables, by the sizes of R286. -/
def tableKeys : List Nat :=
  [(0, 1), (1, 3072), (2, 16), (3, 4), (4, 8192), (5, 4096)].flatMap fun e => (List.range e.2).map fun i => 65536 * e.1 + i

/-- Every table is written in full (10 R288). JRN source 4 is checked at the first write. -/
def Device.writeTables (d : Device) : Device :=
  if !d.boot.dramReady then d
  else
    let (bad, d) := d.ledgerCheck
    let all : Sparse LedEntry := tableKeys.zipIdx.map fun e =>
      (e.1, { seq := (d.jrn.tabSeq + 1 + e.2) % 2 ^ 64, at_ := d.tm.now, ok := true, val := d.tableVal e.1 })
    let other := all.map fun e => if e.1 = 0 then (0, { e.2 with ok := !bad }) else e
    { d with jrn := { d.jrn with tabSeq := (d.jrn.tabSeq + all.length) % 2 ^ 64, tab0 := all, tab1 := other } }

/-- The registers that firmware restores from the ledger's tables (10 R286, R292; 18 Warm restart): the placement, the
journal's and the captures' state. -/
def inTables (a : Nat) : Bool :=
  let off := a % 4096
  (decide (0x180000 ≤ a) && decide (a < 0x182000) && !(decide (0x180F00 ≤ a) && decide (a < 0x181000))) ||
  (decide (0x200000 ≤ a) && decide (a < 0x200000 + 68 * 4096) && (off == 4 || (decide (0x20 ≤ off) && decide (off < 0x44)))) ||
  (decide (0x500000 ≤ a) && decide (a < 0x501000) &&
    (off == 4 || off == 8 || off == 0x30 || off == 0x34 || off == 0x74 || off == 0x78 || off == 0x80 || off == 0x84 ||
     (decide (0x100 ≤ off) && decide (off < 0x240))))

/-- The register at `a` keeps its value through a warm restart: its description says so (00 R7), or it is REF's, of which
only the event registers of its faults are cleared (14 R403, 18 R496). -/
def survivesWarm (a : Nat) : Bool :=
  match descAt a with
  | none => false
  | some (r, _, _) => r.warm || ((r.id == .FMASK || r.id == .FINJ) && decide (blkBase .ref ≤ a) && decide (a < blkBase .pck))

/-- Fields that keep their values through a warm restart while others of their registers return to reset (00 R7): PCK's
state, with the pick timer (02 R44), the strap (17 R483), the accumulating bank (06 R545), the DRAM channels' counters and
what failed their training (13 R369, R386). The enables of the warp ports return to 1 (log 18). -/
def warmFields : List Fld :=
  [PCK_STATE.state, GLB_TEST.testen] ++ (List.range 68).map LOM_STAT.acc_bank ++
    (List.range 24).flatMap fun ch => [DRM_REF.urgent ch, DRM_DEV.same_dev ch, DRM_SCRUB.passes ch, DRM_STAT.fail_lane ch] ++
      (List.range 8).map fun p => DRM_PWAIT.held ch p

/-- The reset of a warm restart: every block but REF, the pick timer and the self-refresh state (18 R496, Warm restart).
Attached memory and what it holds stays. -/
def Device.warmReset (d : Device) : Device :=
  let woven := d.woven
  let stage := d.stage
  let regs := warmFields.foldl (fun (x : Sparse W32) f =>
    Sparse.put resetWord x f.addr (f.into (Sparse.get resetWord x f.addr) (d.get f))) (Sparse.keep survivesWarm d.regs)
  let c := Device.cold
  let e : Device := { d with
    tm := { d.tm with commit := none, syncFrom := none, fwCommit := false }
    regs := regs, hot := [], live := [], rlatch := [], wlatch := [], lanes := []
    ports := d.ports.map fun e => (e.1, { WarpPort.cold with lastAccepted := e.2.lastAccepted, periods := e.2.periods })
    creel := [], looms := d.looms.map fun e => (e.1, { Loom.cold with eccU := e.2.eccU })
    sheds := { d.sheds with work := [], flipDue := false, dumping := [], drainEnd := none, bufHeld := false, worn := [] }
    jrn := { d.jrn with replays := d.jrn.replays.map fun r => { r with staged := r.computed, computing := false } }
    setter := c.setter, beams := none, apBuf := none
    chains := { c.chains with saved := d.chains.saved }
    engines := [], cloth := d.cloth.map fun e => (e.1, { Cloth.cold with failedOnce := e.2.failedOnce })
    hdl := { d.hdl with kick0 := 0, kick1 := 0, desc := none, waitSlots := [] }, trigAck := none
    sup := { d.sup with fatalReject := false, rejSeen := [], rail := d.sup.sent, plan := none, settling := none } }
  let e := (List.range 24).foldl (fun (e : Device) ch => match d.get (DRM_STAT.state ch) with
    | 2 => e.set (DRM_STAT.state ch) 3
    | 4 => e.set (DRM_STAT.state ch) 4
    | _ => e) e
  (e.put PCK_WEAVE_STAT.woven woven).set PCK_WEAVE_STAT.stage stage

/-- What the quiesce does before its record is written (R290): accepted memory requests and the journal's writes complete, spills drain, dumps in progress end,
banks are dumped in part; an armed weave ends. -/
def Device.quiesceWork (d : Device) : Device :=
  let d := (d.settleMemory.landed fun _ => true).drainAll
  let d := match d.sheds.ending with
    | none => d
    | some r => ((d.owing r).foldl (fun (d : Device) k => d.dumpLoom r k) d).apuDump
  d.dumpCurrent.dumpReplays.disarm

/-- The quiesce records its outcome: a QUIESCE entry with the last accepted pick. -/
def Device.quiesceEntry (d : Device) (outcome : Nat) : Device := d.ledger 13 d.lastPick (be 1 outcome ++ be 8 d.lastPick)

/-- The blocks are reset after a quiesce that has succeeded, attached memory is in self-refresh, and the boot ROM runs (18 Warm
restart). -/
def Device.warmRestart (d : Device) : Device :=
  let d := { d with jrn := { d.jrn with table := Sparse.keep inTables d.regs, quiesced := some true, reopen := true } }
  let d := d.warmReset.put HDL_BOOT.warm true
  { d with boot := { d.boot with warm := true, phase := .rom }, rsq := { d.rsq with hdrUp := false, waiting := [] } }.bootRom

/-- The quiesce finishes (R290, R291): the ledger's tables and a QUIESCE entry are written. One that has met an uncorrectable
error in a bank or a ledger write records failure, and the restart is cold, as it is when a fatal fault has come (17 R477); one that
must still wait for a readout does not finish. -/
def Device.finishQuiesce (d : Device) : Device :=
  if d.flag GLB_FATAL.fatal then d.coldRestart
  else if d.quiesceBlocked then d
  else
    let d := d.quiesceWork.writeTables
    let d := if d.jrn.quiesceBad then d else d.quiesceEntry 0
    if d.jrn.quiesceBad then (d.quiesceEntry 1).coldRestart else d.warmRestart

/-- QUIESCE_COMPLETE. -/
def execQuiesceComplete (s : State) : Host.Outcome State Fault Refusal :=
  s.act fun d => if d.jrn.quiesced = some false then d.finishQuiesce else d

/-- The quiesce has not finished within 5 ms: it records failure, and the restart is cold (R291). -/
def execQuiesceTimeout (s : State) : Host.Outcome State Fault Refusal :=
  s.act fun d =>
    if d.jrn.quiesced = some false then (d.quiesceEntry 1).coldRestart else d

/-! ### RESET (R429, R495) -/

/-- A warm reset begins, or a cold one when a fatal fault is in force (17 R477) or an image that may not be activated warm
waits (R509). -/
def Device.warmRequest (d : Device) : Device :=
  let r := d.boot.record
  if d.flag GLB_FATAL.fatal ∨ (r.state = 1 ∧ r.warmOk = 0) then d.coldRestart
  else if d.jrn.quiesced = some false then d
  else { d with jrn := { d.jrn with quiesced := some false, quiesceBad := false, resumePick := none } }

/-- RESET with body byte 0. -/
def execResetWarm (h : HostHdr) (t : Nat) (s : State) : Host.Outcome State Fault Refusal :=
  s.act fun d => (d.at_ t).command h 0x50 [0] false false fun d => (d.respond h 0 []).warmRequest

/-- RESET with body byte 1. -/
def execResetCold (h : HostHdr) (t : Nat) (s : State) : Host.Outcome State Fault Refusal :=
  s.act fun d => (d.at_ t).command h 0x50 [1] false false fun d => (d.respond h 0 []).coldRestart

/-! ### The firmware starts (R497, R513) -/

/-- What the firmware makes of the settings store (R513, R514): a copy to use, with the layout it was read in, none when both
copies are invalid, or settings that it cannot read. -/
inductive SettingsFound where
  | use (c : StoreCopy) (migrated : Bool) | empty | incompatible (layout : Nat)
  deriving DecidableEq, Repr

/-- A copy is one that the running firmware reads, migrated or not. -/
def Boot.reads (x : Boot) (c : StoreCopy) : SettingsFound :=
  if c.layout = x.layout then .use c false
  else if x.oldest ≤ c.layout ∧ c.layout < x.layout ∧ Config.migrates c.layout x.layout then .use c true
  else .incompatible c.layout

/-- The settings that the firmware finds. After a fallback it takes the newest copy that it reads. -/
def Device.findSettings (d : Device) : SettingsFound :=
  match d.rsq.store with
  | none => .empty
  | some c =>
    match d.boot.reads c with
    | .use c m => .use c m
    | .empty => .empty
    | .incompatible l =>
      if !d.boot.usePrev then .incompatible l
      else
        let others := (d.rsq.store0.toList ++ d.rsq.store1.toList).filterMap fun c => match d.boot.reads c with
          | .use c m => some (c, m)
          | .empty => none
          | .incompatible _ => none
        match others with
        | [] => .empty
        | (c, m) :: _ => .use c m

/-- Settings that later starts restore (R512, 17 R482, R487, 05 R139): at a cold start, retired looms, cleared bobbin_ok bits,
the domains' codes and histories. A loom retired again reads cause 3 (05 R151). -/
def Device.restoreHistory (d : Device) : Device :=
  let c := d.rsq.cfg
  let d := c.retired.foldl (fun (d : Device) e => (d.set (LOM_ROLE.role e.1) 3).set (LOM_ROLE.cause e.1) 3) d
  let d := if c.retired.isEmpty then d else d.provisional
  let d := c.bobOff.foldl (fun (d : Device) k =>
    (d.put (LOM_ROLE.bobbin_ok k) false).setBit (WGE_BOB_OFF.off (k / 32)) (k % 32)) d
  let d := c.domSet.foldl (fun (d : Device) e => d.set (WGE_DOM_SET.set_ e.1) e.2) d
  let d := c.domHist.foldl (fun (d : Device) e => d.setWord (WGE_DOM_HIST.word e.1).addr e.2) d
  let d := d.commandRail true
  if c.bobOff.isEmpty then d else d.crlStat

/-- The woven draft's values return to the blocks (12 R359, 18 Warm restart), the queues resume (11 R322), enabled warp ports
train from their snapshots (03 R78). The bank that accumulates (06 R545) and a stretch that waits (02 R37) have gone on. -/
def Device.restoreBlocks (d : Device) : Device :=
  let m := d.draft
  let d := { d with regs := d.jrn.table.foldl (fun (x : Sparse W32) (e : Nat × W32) => Sparse.put resetWord x e.1 e.2) d.regs }
  let d := ((d.setBank d.sheds.bank).put CRL_CFG.stretch_wait d.tm.stretch.isSome).commandRail true
  let d := if d.woven then
      let d := ((d.loadBlanks m).loadMemory m).loadChains m
      let d := { (d.loadQueues m) with queues := d.queues.map fun (e : Nat × Queue) => (e.1, { e.2.resend with port := none }) }
      d.rehomeAll fun q => some (d.qHome q)
    else d
  let d := d.genUp
  (List.range 64).foldl (fun (d : Device) p =>
    if d.liveOf (WRP_CTL.enable p) = 0 then d
    else
      let d := (List.range 4).foldl (fun (d : Device) k => d.set (WRP_LEQ.word p k) (d.get (WRP_LSNAP.word p k))) d
      d.startTraining p) d

/-- The last event of the ledger's ring: it ends at the highest sequence number that either copy holds validly (R289). -/
def Device.lastEvent (d : Device) : Option LedEvent :=
  ((d.jrn.copy0.filter fun e => d.eventOk 0 e) ++ (d.jrn.copy1.filter fun e => d.eventOk 1 e)).foldl
    (fun (b : Option LedEvent) e => match b with
      | none => some e
      | some x => if x.seq < e.seq then some e else some x) none

/-- The outcome of the quiesce, whose entry is the ring's last: none when that entry is missing (R289). -/
def Device.quiesceOutcome (d : Device) : Option Byte :=
  (d.lastEvent.filter fun e => e.ty == 13).map fun e => e.body.getD 0 1

/-- The sequence numbers of the events, and the keys of the table entries, that a copy holds invalidly. -/
def Device.ledgerBad (d : Device) (copy : Nat) : List Nat × List Nat :=
  let (es, ts) := if copy = 0 then (d.jrn.copy0, d.jrn.tab0) else (d.jrn.copy1, d.jrn.tab1)
  ((es.filter fun e => !d.eventOk copy e).map LedEvent.seq, (ts.filter fun e => !d.entryOk copy e.1).map Prod.fst)

/-- What a table entry that neither copy holds validly would have restored is lost. DESIGN CHOICE (log 9): it starts anew. -/
def Device.forget (d : Device) (key : Nat) : Device :=
  let i := key % 65536
  match key / 65536 with
  | 1 => { d with jrn := d.jrn.setSeg i Seg.cold }
  | 2 => { (d.setCapture i Capture.cold) with
      jrn := { (d.setCapture i Capture.cold).jrn with table := Sparse.keep (fun a => a / 16 != 0x500100 / 16 + i) d.jrn.table } }
  | 3 => { d with jrn := { d.jrn with replays := d.jrn.replays.eraseIdx i } }
  | 4 => d.setQueue i Queue.cold
  | 5 => { d with sheds := { d.sheds with periods := Sparse.keep (fun k => k % 4096 != i) d.sheds.periods } }
  | _ => d

/-- Firmware rebuilds from the ledger (10 R289): the entries that fail in each copy and in both are counted, and what is in
neither is lost. -/
def Device.rebuild (d : Device) : Device :=
  let d := (d.delivered 0x040000000000 0x20000000).delivered 0x040020000000 0x20000000
  let d := d.ledgerEnters 0 (4096 + 64 * d.jrn.copy0.length) false
  let d := d.ledgerEnters 268439552 887040 false
  let (e0, t0) := d.ledgerBad 0
  let (e1, t1) := d.ledgerBad 1
  let lostE := e0.filter fun n => e1.contains n
  let lostT := t0.filter fun k => t1.contains k
  let d := (d.set JRN_LEDGER_ERR.copy0 (satU 16 (e0.length + t0.length))).set JRN_LEDGER_ERR.copy1 (satU 16 (e1.length + t1.length))
  let d := d.set JRN_LEDGER_LOST.lost (satU 32 (lostE.length + lostT.length))
  lostT.foldl Device.forget d

/-- A new session with an empty window (15 R416, R417); a cold start empties the notice queue (R446). The session, and at a cold
start SPL_INCARN, are kept in the settings store (11 R313). -/
def Device.newSession (d : Device) : Device :=
  let warm := d.boot.warm
  let c := d.rsq.cfg
  let c := { c with session := (c.session + 1) % 2 ^ 32, incarn := if warm then c.incarn else (c.incarn + 1) % 2 ^ 32 }
  let r := d.rsq
  let r := { r with cfg := c, dirty := [], h := 0, accepted := [], cache := [], waiting := [], devSeq := 0, held := [],
                    pieces := [], programming := [], released := c.primary.isSome || c.alternate.isSome, tokens := 102400000000,
                    tokensAt := d.tm.now, onAlternate := false, ackSinceUp := false }
  let r := if warm then r else { r with queue := [], nseq := 1, dropped := 0, counters := [] }
  let d := { d with rsq := r }.saveSettings
  if warm then d else d.set SPL_INCARN.value c.incarn

/-- HELLO (15 R438), then the UPDATE events that wait; the settings store keeps the versions of a rejection (R512). -/
def Device.hello (d : Device) : Device :=
  let pair (f : Fld) : Nat × Nat := (f.addr, (d.word f.addr).toNat)
  let d := d.noticeRef 1 (Config.severity 1 0).val 0 (be 1 (if d.boot.warm then 1 else 0) ++ be 7 0)
    [pair PCK_STATE.word, pair REF_STAT.word, pair PCK_WEAVE_STAT.word]
  let layoutOf (e : Nat) : Nat := imgN (d.boot.bankByte (if e = 3 then 2 else 0)) 12 2
  let d := d.boot.note.foldl (fun (d : Device) e =>
    let d := d.update e.1 e.2 (layoutOf e.1)
    if e.1 = 6 ∨ e.1 = 7 then
      d.keepSetting fun c => { c with rejected := (d.boot.version, e.2, d.boot.found, layoutOf e.1) }
    else d) d
  { d with boot := { d.boot with note := [] } }

/-- The firmware of a TRIAL confirms (R511): IDLE, the piece bitmap erased, the settings store completed, ACTIVATED. -/
def Device.confirmTrial (d : Device) (migrated : Bool) : Device :=
  if !d.boot.trialRun then d
  else
    let d := d.bootWrite fun r => { r with state := 0 }
    let d := { d with boot := { d.boot with trialRun := false, stored := [], sha0 := [] } }
    let d := if migrated then d.saveSettings else d
    d.update 4 d.boot.version d.boot.layout

/-- The heddle firmware runs with the settings that it has read. -/
def Device.startFirmware (d : Device) (t : Nat) (migrated : Bool) : Device :=
  let d := { d with boot := { d.boot with phase := .running } }
  let d := (d.set HDL_FW_VER.version d.boot.version).put GLB_TEST.jtag_locked d.provisioned
  let d := { d with hdl := { d.hdl with kick0 := t, kick1 := t } }.newSession
  let d := if d.boot.warm then d.restoreBlocks else d.restoreHistory
  let d := { d with rsq := { d.rsq with hdrUp := true } }.hello
  let d := d.confirmTrial migrated
  (if migrated then d.update 5 0 0 else d).leavePrimary t

/-- The firmware starts at `t` (R513). Settings that it cannot read send it back in the kind of start in progress, before it has
rebuilt anything (R514); a warm restart whose quiesce is not in
the ledger proceeds as a cold reset (10 R289). -/
def execFirmwareStart (t : Nat) (s : State) : Host.Outcome State Fault Refusal :=
  s.act fun d =>
    let d := d.at_ t
    if d.boot.phase ≠ .loaded then d
    else if d.boot.warm ∧ d.quiesceOutcome ≠ some 0 then d.coldRestart
    else
      let rebuilt (found : Nat) : Device :=
        let d := if d.boot.warm then d.rebuild else d
        { d with boot := { d.boot with found := found } }
      match d.findSettings with
      | .incompatible _ =>
        let d := d.bootWrite fun r => { r with state := 5, reason := 1, run := 1 }
        if d.boot.warm then { d with boot := { d.boot with phase := .rom, trialRun := false } }.bootRom else d.coldRestart
      | .empty =>
        let d := rebuilt 0
        { d with rsq := { d.rsq with cfg := if d.boot.warm then d.rsq.cfg else Settings.default } }.startFirmware t false
      | .use c m =>
        let d := rebuilt c.layout
        { d with rsq := { d.rsq with cfg := c.body } }.startFirmware t m

/-! ### The resumption (10 R292) -/

/-- Firmware names the boundary of pick `pick`: the device accepts frames from it again, and RESUME is written (R292). The
engines load (09 R256). -/
def execResume (pick : Nat) (s : State) : Host.Outcome State Fault Refusal :=
  s.act fun d =>
    if !d.restarting ∨ d.boot.phase ≠ .running ∨ d.jrn.resumePick.isSome ∨ !ahead pick (d.pn + 1) then d
    else
      let d := d.ledger 14 d.pn (be 1 0 ++ be 8 pick)
      let d := { d with jrn := { d.jrn with resumePick := some pick } }
      if d.woven then d.loadEngines d.draft pick else d

end Sys2Proof.Machine
end

