-- ==== Sys2Proof/Machine/Attached.lean ====
section
/-! DEFINITION. Attached memory at work (13 R370 to R376, R386): refresh and temperature, delay tracking, the patrol scrub. -/

namespace Sys2Proof.Machine

/-- Refreshes owed by a rank. -/
def owed (ch rank : Nat) : Fld := if rank = 0 then DRM_REF.owed_r0 ch else DRM_REF.owed_r1 ch

/-- The channel has that rank. -/
def Device.hasRank (d : Device) (ch rank : Nat) : Bool := rank == 0 || d.get (DRM_CFG.ranks ch) == 2

/-! ### Refresh and temperature (R374 to R376) -/

/-- A refresh interval of a rank elapses: one more refresh is owed, and the controller has issued `issued` since the last, for
which it precharged the rank's banks. It postpones no refresh past 4 (R375). -/
def execRefreshDue (ch : Fin 24) (rank : Fin 2) (issued : Nat) (s : State) : Host.Outcome State Fault Refusal :=
  s.act fun d =>
    if !d.chanRuns ch.val ∨ !d.hasRank ch.val rank.val then d
    else
      let n := d.get (owed ch.val rank.val) + 1
      let d := if n ≤ 4 ∧ issued = 0 then d else (d.closeRows ch.val fun b => b % 2 == rank.val).serveMarks ch.val
      (d.set (owed ch.val rank.val) (min 4 (n - issued))).caCheck ch.val 0

/-- A reading crosses 85 °C upwards: what each rank owes doubles, and beyond 4 the rank stalls until 4 are owed. -/
def Device.crossUp (d : Device) (ch : Nat) : Device :=
  [0, 1].foldl (fun d r =>
    let n := 2 * d.get (owed ch r)
    let d := if 4 < n then ((d.closeRows ch fun b => b % 2 == r).serveMarks ch).inc (DRM_REF.urgent ch) else d
    d.set (owed ch r) (min 4 n)) (d.put (DRM_STAT.hot ch) true)

/-- A reading crosses 83 °C downwards: what each rank owes halves, rounded up. -/
def Device.crossDown (d : Device) (ch : Nat) : Device :=
  [0, 1].foldl (fun d r => d.set (owed ch r) ((d.get (owed ch r) + 1) / 2)) (d.put (DRM_STAT.hot ch) false)

/-- Firmware reads a module's sensor; none is a reading that failed. Above 95 °C it raises a notice (R376). -/
def execThermalRead (ch : Fin 24) (temp : Option (BitVec 16)) (s : State) : Host.Outcome State Fault Refusal :=
  s.act fun d =>
    let k := ch.val
    if !d.chanRuns k ∨ d.svcHeld then d
    else
      let x := d.dram k
      let hot := d.flag (DRM_STAT.hot k)
      match temp with
      | none =>
        let n := min 3 (x.sensorFails + 1)
        let d := d.setDram k { x with sensorFails := n }
        if n < 3 then d
        else
          let d := d.put (DRM_STAT.sensor_fail k) true
          if hot then d else d.crossUp k
      | some t =>
        let v := t.toInt
        let d := (d.setDram k { x with sensorFails := 0 }).set (DRM_STAT.temp k) t.toNat
        let d := if 340 < v ∧ !hot then d.crossUp k else if v < 332 ∧ hot then d.crossDown k else d
        if 380 < v then (d.put (DRM_STAT.over_95 k) true).eventNotice (blkBase (drmBlk k)) (DRM_STAT.word k).addr else d

/-! ### Delay tracking (R370) -/

/-- A delay moved by `m`, at most one step of 1/64 UI, within the 8 bits of its field. -/
def moved (x : Nat) (m : Int) : Nat := min 255 ((x : Int) + max (-1) (min 1 m)).toNat

/-- A channel follows the DQS oscillators: each lane's read and write delays move. -/
def execDqsOscTrack (ch : Fin 24) (moves : List (Int × Int)) (s : State) : Host.Outcome State Fault Refusal :=
  s.act fun d =>
    if !d.chanRuns ch.val then d
    else (List.range 10).foldl (fun d i =>
      let m := moves.getD i (0, 0)
      let d := d.set (DRM_TRAIN.rd_centre ch.val i) (moved (d.get (DRM_TRAIN.rd_centre ch.val i)) m.1)
      d.set (DRM_TRAIN.wr_centre ch.val i) (moved (d.get (DRM_TRAIN.wr_centre ch.val i)) m.2)) d

/-! ### The patrol scrub (R373) -/

/-- The patrol scrubber of a channel reads the line at `addr` (R373), one of the channel's own (R365): a corrected line is written
back corrected. An address that no window of attached memory holds stands for a line of the system area without a bulk
address. -/
def execDramPatrolScrub (ch : Fin 24) (addr : BitVec 48) (ecc : LineEcc) (endOfPass : Bool) (progress : BitVec 16) (s : State) :
    Host.Outcome State Fault Refusal :=
  s.act fun d =>
    if !d.chanRuns ch.val ∨ (d.inMemory addr.toNat ∧ lineChannel addr.toNat ≠ ch.val) then d
    else
      let p := d.placeOf addr.toNat
      let d := ((d.caCheck ch.val (addr.toNat % 2 ^ 32)).openRow ch.val p.1 p.2).lineFound ch.val addr.toNat ecc
      let d := d.set (DRM_SCRUB.progress ch.val) progress.toNat
      if endOfPass then d.inc (DRM_SCRUB.passes ch.val) else d

/-! ### Accesses (R371, R379 to R382) -/

/-- A poisoned line that a heddle pair reads is answered with an error (17 R481): firmware writes a line of the ledger anew from the
other copy, and restarts warm for any other, whose content the ledger does not hold (log 91). -/
def Device.firmwareRead (d : Device) (x : MemAsk) : Device :=
  let mine : Bool := match x.user, x.req with
    | .matrix m, .read _ _ => m.val < 2 && d.issues m.val
    | _, _ => false
  let (a, n) := memSpan x.req
  if !mine ∨ !d.poisoned a n ∨ d.boot.phase ≠ .running then d
  else match d.window true a with
    | some (.ledger _ _) => (d.renew a n).ledgerEnters (a % 0x20000000) n true
    | _ => d.warmRequest

/-- A controller serves an access at a command slot at `t` (R382); `asks` have come to the controllers since the last slot, `busy`
are the banks that cannot take a command in this one, and `younger` is the choice that R382 leaves the controller (log 79). -/
def execMemoryAccess (ch : Fin 24) (asks : List MemAsk) (busy : List Nat) (younger : Bool) (t : Nat) (s : State) :
    Host.Outcome State Fault Refusal :=
  s.act fun d =>
    let d := asks.foldl (fun d x => (d.accept x).firmwareRead x) (d.at_ t)
    if !d.boot.dramReady ∨ !d.chanRuns ch.val then d else (d.commandSlot ch.val busy younger t).acceptWaiting

/-- Firmware's daily reading of a module's on-die error count. -/
def execEcsReading (ch : Fin 24) (count : W32) (s : State) : Host.Outcome State Fault Refusal :=
  s.act fun d => if d.chanRuns ch.val ∧ !d.svcHeld then d.set (DRM_ECS.count ch.val) count.toNat else d

/-- DRM_CLR of a channel (R386). -/
def Device.drmClr (d : Device) (ch : Nat) : Device :=
  let d := ((d.set (DRM_REF.urgent ch) 0).set (DRM_DRFM_CNT.word ch) 0).set (DRM_ECC_CNT.word ch) 0
  let d := ((d.set (DRM_DEV.word ch) 0).set (DRM_UE_ADDR_LO.word ch) 0).set (DRM_UE_ADDR_HI.word ch) 0
  (List.range 8).foldl (fun d n => d.set (DRM_PWAIT.word ch n) 0) d

/-- DRM_CLR. -/
def execDrmClr (ch : Fin 24) (s : State) : Host.Outcome State Fault Refusal :=
  s.act fun d => d.drmClr ch.val

end Sys2Proof.Machine
end

