-- ==== Sys2Proof/Machine/Heddle.lean ====
section
/-! DEFINITION. The heddle pairs, clean slots and doorbells, the matrix's counters, and the shuttle engine (16). -/

namespace Sys2Proof.Machine

/-! ### Pairs (R447 to R449) -/

/-- Pair `p` is held in reset. -/
def pairHeld (p : Nat) : Fld := if p = 0 then HDL_ROLE.pair0_held else HDL_ROLE.pair1_held

/-- Pair `p` is held in reset: its latches are emptied (19 R524), its dirty lines are lost, and the matrix completes the bursts that
its master has been granted and withdraws its other requests (R454). Beside the accesses that the memory controllers hold, how many
there are, 16 at most together, is a free value (log 60). -/
def Device.holdPair (d : Device) (p : Nat) : Device :=
  let k := min 16 (d.outstanding p)
  let d := (d.put (pairHeld p) true).emptyLatches p
  let d := (d.disown p).nextFree.add MTX_CNT.reset_bursts (k + Config.free d.freeN % (17 - k))
  let mine (s : Nat) : Bool := d.flag (HDL_CLEAN_CTL.busy s) && d.get (HDL_CLEAN_CTL.pair s) == p
  { d with hdl := { d.hdl with dirty := Sparse.keep (fun s => !mine s) d.hdl.dirty } }

/-- Pair `p` fails, a contained fault; the failure of the surviving pair is fatal. -/
def Device.failPair (d : Device) (p : Nat) : Device :=
  if d.flag (pairHeld p) then d
  else
    let other := d.flag (pairHeld (1 - p))
    ((d.holdPair p).check .hdl (if other then 3 else 2) true 0).2.tookAway .hdl

/-- PAIR_FAIL: a lockstep mismatch, or an uncorrectable error in a dirty line. -/
def execPairFail (pair : Fin 2) (mismatch : Bool) (s : State) : Host.Outcome State Fault Refusal :=
  s.act fun d =>
    let f : Fld := if pair.val = 0 then HDL_PAIR_ERR.mismatch0 else HDL_PAIR_ERR.mismatch1
    let d := if mismatch ∧ !d.flag (pairHeld pair.val) then d.inc f else d
    d.failPair pair.val

/-- HEDDLE_WATCHDOG_EXPIRY: 50 ms, 80,000,000 loom cycles, have passed since the pair's last kick. -/
def execHeddleWatchdogExpiry (pair : Fin 2) (s : State) : Host.Outcome State Fault Refusal :=
  s.act fun d => (d.at_ ((if pair.val = 0 then d.hdl.kick0 else d.hdl.kick1) + 80000000)).failPair pair.val

/-- CONTROL_TAKEOVER: the surviving pair takes both roles, and notices leave a primary port that went down meanwhile (15 R444). -/
def execControlTakeover (s : State) : Host.Outcome State Fault Refusal :=
  s.act fun d =>
    let a := d.flag HDL_ROLE.pair0_held
    let b := d.flag HDL_ROLE.pair1_held
    let p : Nat := if a then 1 else 0
    if a = b ∨ (d.get HDL_ROLE.ctl = p ∧ d.get HDL_ROLE.svc = p) then d
    else
      let d := ((d.set HDL_ROLE.ctl p).set HDL_ROLE.svc p).inc HDL_ROLE.takeovers
      if d.fwUp then d.leavePrimary d.tm.now else d

/-- A write of kick by pair `m` at `t`. -/
def Device.kick (d : Device) (m t : Nat) : Device :=
  { d with hdl := if m = 0 then { d.hdl with kick0 := t } else if m = 1 then { d.hdl with kick1 := t } else d.hdl }

/-- HDL_KICK. -/
def execHdlKick (m : Master) (t : Nat) (s : State) : Host.Outcome State Fault Refusal :=
  s.actReg m.val fun d => (d.at_ t).kick m.val t

/-- A write of `v` to HDL_DOORBELL by master `m` (R469): a pair sets the other's bell and clears its own; any other master's
write of 1 clears, as the fields are W1C (00 R5). -/
def Device.doorbell (d : Device) (m v : Nat) : Device :=
  if m = 0 then
    let d := if bit v 0 then d.put HDL_DOORBELL.to_pair0 false else d
    if bit v 1 then d.put HDL_DOORBELL.to_pair1 true else d
  else if m = 1 then
    let d := if bit v 0 then d.put HDL_DOORBELL.to_pair0 true else d
    if bit v 1 then d.put HDL_DOORBELL.to_pair1 false else d
  else
    let d := if bit v 0 then d.put HDL_DOORBELL.to_pair0 false else d
    if bit v 1 then d.put HDL_DOORBELL.to_pair1 false else d

/-- HDL_DOORBELL_WRITE. -/
def execHdlDoorbellWrite (m : Master) (value : W32) (s : State) : Host.Outcome State Fault Refusal :=
  s.actReg m.val fun d => d.doorbell m.val value.toNat

/-! ### Clean slots (R457 to R459) -/

/-- Every clean slot is busy. -/
def Device.allSlotsBusy (d : Device) : Bool := (List.range 4).all fun s => d.flag (HDL_CLEAN_CTL.busy s)

/-- The bytes `bs`, in ascending order, as runs of consecutive ones. -/
def byteRuns (bs : List (Nat × Byte)) : List (Nat × List Byte) :=
  bs.foldr (fun c rs => match rs with
    | (a, xs) :: rest => if a = c.1 + 1 then (c.1, c.2 :: xs) :: rest else (c.1, [c.2]) :: rs
    | [] => [(c.1, [c.2])]) []

/-- The dirty lines of slot `s` that its range touches (R457), each as the runs of its dirty bytes. -/
def Device.dirtyLines (d : Device) (s : Nat) : List (List (Nat × List Byte)) :=
  let base := d.get (HDL_CLEAN_LO.base_lo s) + 2 ^ 32 * d.get (HDL_CLEAN_HI.base_hi s)
  let stop := base + d.get (HDL_CLEAN_LEN.length s)
  let dirty := (Sparse.get (fun _ => []) d.hdl.dirty s).filter fun c => decide (base < c.1 / 64 * 64 + 64) && decide (c.1 / 64 * 64 < stop)
  (dirty.map fun c => c.1 / 64).eraseDups.map fun l =>
    byteRuns ((dirty.filter fun c => c.1 / 64 == l).mergeSort fun a b => decide (a.1 ≤ b.1))

/-- Pair `m` writes back one line: one request of the matrix, refused or made whole. -/
def Device.writeBackLine (d : Device) (m : Nat) : List (Nat × List Byte) → Device
  | [] => d
  | r :: rs => match d.winWrite m true r.1 r.2 with
    | (.ok, d) => rs.foldl (fun d r => (d.winWrite m true r.1 r.2).2) d
    | (_, d) => d

/-- Clean slot `s` completes: its lines have reached memory, and what it held back goes on (R458, R463). -/
def Device.slotDone (d : Device) (s : Nat) : Device :=
  if !d.flag (HDL_CLEAN_CTL.busy s) then d
  else
    let m := d.get (HDL_CLEAN_CTL.pair s)
    let ls := d.dirtyLines s
    let d := ls.foldl (fun d l => d.writeBackLine m l) (if ls.isEmpty then d else d.request m ls.length)
    let d := (d.put (HDL_CLEAN_CTL.busy s) false).put (HDL_CLEAN_CTL.done s) true
    let d := d.set HDL_BARRIER.busy (d.get HDL_BARRIER.busy &&& (15 - 2 ^ s))
    let h := d.hdl
    { d with hdl := { h with dirty := Sparse.put (fun _ => []) h.dirty s [], waitSlots := h.waitSlots.filter fun x => x != s } }.sendChunks

/-- An op written to slot `s` by master `m`; `dirty` are the bytes of the dirty lines in its range, for an op that writes back.
A write by a master that is no heddle pair is ignored; a fifth clean is refused; length 0 completes at once. -/
def Device.slotOp (d : Device) (m s : Nat) (op : Nat) (dirty : List (Nat × Byte)) : Device :=
  if 2 ≤ m ∨ op = 0 then d
  else if d.flag (HDL_CLEAN_CTL.busy s) then (if d.allSlotsBusy then d.put HDL_BARRIER.clean_refused true else d)
  else
    let d := d.set (HDL_CLEAN_CTL.pair s) m
    if d.get (HDL_CLEAN_LEN.length s) = 0 then d.put (HDL_CLEAN_CTL.done s) true
    else
      let d := (d.put (HDL_CLEAN_CTL.busy s) true).set HDL_BARRIER.busy (d.get HDL_BARRIER.busy ||| 2 ^ s)
      { d with hdl := { d.hdl with dirty := Sparse.put (fun _ => []) d.hdl.dirty s (if op = 3 then [] else dirty) } }.holdChunks

/-- CLEAN: op 1. -/
def execClean (m : Master) (sl : Fin 4) (dirty : List (Nat × Byte)) (s : State) : Host.Outcome State Fault Refusal :=
  s.actReg m.val fun d => d.slotOp m.val sl.val 1 dirty

/-- CLEAN_INV: op 2. -/
def execCleanInv (m : Master) (sl : Fin 4) (dirty : List (Nat × Byte)) (s : State) : Host.Outcome State Fault Refusal :=
  s.actReg m.val fun d => d.slotOp m.val sl.val 2 dirty

/-- INV: op 3. -/
def execInv (m : Master) (sl : Fin 4) (s : State) : Host.Outcome State Fault Refusal :=
  s.actReg m.val fun d => d.slotOp m.val sl.val 3 []

/-- CLEAN_SLOT_DONE. -/
def execCleanSlotDone (sl : Fin 4) (s : State) : Host.Outcome State Fault Refusal :=
  s.act fun d => d.slotDone sl.val

/-! ### The shuttle engine (R460 to R466) -/

/-- The state code of channel `n`. -/
def Device.shtState (d : Device) (n : Nat) : Nat := d.get (SHT_CH_STAT.state n)

/-- A write of `v` to SHT_CH_CTL of channel `n` by master `m`: the heddle bit is a pair's to write; a start with a stop is
ignored with it. -/
def Device.shtCtl (d : Device) (m n v : Nat) : Device :=
  let d := if m < 2 then d.put (SHT_CH_CTL.heddle n) (bit v 2) else d
  let st := d.shtState n
  match bit v 0, bit v 1 with
  | true, false =>
    if st = 1 ∨ st = 2 then d
    else ((d.set (SHT_CH_STAT.state n) 1).put (SHT_CH_STAT.stop_pending n) false).set (SHT_CH_STAT.cause n) 0
  | false, true =>
    if st = 2 then d.put (SHT_CH_STAT.stop_pending n) true
    else if st = 1 then d.set (SHT_CH_STAT.state n) 3
    else d
  | _, _ => d

/-- SHT_START. -/
def execShtStart (m : Master) (n : Fin 16) (alsoStop heddle : Bool) (s : State) : Host.Outcome State Fault Refusal :=
  s.actReg m.val fun d => d.shtCtl m.val n.val (1 + (if alsoStop then 2 else 0) + (if heddle then 4 else 0))

/-- SHT_STOP. -/
def execShtStop (m : Master) (n : Fin 16) (heddle : Bool) (s : State) : Host.Outcome State Fault Refusal :=
  s.actReg m.val fun d => d.shtCtl m.val n.val (2 + (if heddle then 4 else 0))

/-- The first READY channel after the one that last ran (R464). -/
def Device.nextChannel (d : Device) : Option Nat :=
  ((List.range 16).map fun i => (d.get SHT_STAT.last + 1 + i) % 16).find? fun n => d.shtState n == 1

/-- CHANNEL_RUN_START. -/
def execChannelRunStart (s : State) : Host.Outcome State Fault Refusal :=
  s.act fun d =>
    if d.flag SHT_STAT.busy then d
    else match d.nextChannel with
      | none => d
      | some n => ((d.set (SHT_CH_STAT.state n) 2).set SHT_STAT.running n).put SHT_STAT.busy true

/-- The running channel ends in state `st`. -/
def Device.endChannel (d : Device) (n st : Nat) : Device :=
  let d := (d.set (SHT_CH_STAT.state n) st).put (SHT_CH_STAT.stop_pending n) false
  let d := (d.put SHT_STAT.busy false).set SHT_STAT.last n
  { d with hdl := { d.hdl with desc := none, waitSlots := [] } }

/-- The running channel stops in ERROR with `cause` (R466). -/
def Device.shtError (d : Device) (n cause : Nat) : Device :=
  ((d.set (SHT_CH_STAT.cause n) cause).setBit SHT_EVENT.error n).endChannel n 5

/-- The descriptor of 32 bytes (R460), and whether its reserved bits and bytes are zero. -/
def readDesc (bs : List Byte) : Desc × Bool :=
  let n (o k : Nat) : Nat := beAt bs o k
  ({ src := n 0 6, dst := n 6 6, len := n 12 4, srcW := n 16 1 % 8, dstW := n 17 1 % 8, inc := n 18 1 % 4, flags := n 19 1 % 8,
     next := n 20 6 },
   decide (n 16 1 < 8) && decide (n 17 1 < 8) && decide (n 18 1 < 4) && decide (n 19 1 < 8) && n 26 6 == 0)

/-- A descriptor is in error (R461). -/
def Desc.bad (x : Desc) : Bool :=
  decide (5 < x.srcW) || decide (5 < x.dstW) || x.src % 2 ^ x.srcW != 0 || x.dst % 2 ^ x.dstW != 0 ||
    x.len % 2 ^ max x.srcW x.dstW != 0

/-- The descriptor of channel `n` has completed (R463 to R465). -/
def Device.descDone (d : Device) (n : Nat) (x : Desc) : Device :=
  let d := (d.set (SHT_CH_REMAIN.value n) 0).incMod (SHT_CH_COUNT.value n)
  let d := if bit x.flags 0 then d.setBit SHT_EVENT.done n else d
  if bit x.flags 1 then d.endChannel n 4
  else
    let d := (d.set (SHT_CH_NEXT_LO.lo n) (x.next % 2 ^ 32)).set (SHT_CH_NEXT_HI.hi n) (x.next / 2 ^ 32)
    if d.flag (SHT_CH_STAT.stop_pending n) then d.endChannel n 3 else { d with hdl := { d.hdl with desc := none } }

/-- DESCRIPTOR_START: the running channel fetches the descriptor at SHT_CH_NEXT. With barrier set it waits for the clean slots
now busy (R463); one of length 0 that need not wait completes at once. -/
def execDescriptorStart (s : State) : Host.Outcome State Fault Refusal :=
  s.act fun d =>
    if !d.flag SHT_STAT.busy ∨ d.hdl.desc.isSome then d
    else
      let n := d.get SHT_STAT.running
      let a := d.get (SHT_CH_NEXT_LO.lo n) + 2 ^ 32 * d.get (SHT_CH_NEXT_HI.hi n)
      let heddle := d.flag (SHT_CH_CTL.heddle n)
      let d := (d.request 2 1).set (SHT_CH_CUR_LO.lo n) (a % 2 ^ 32)
      let d := d.set (SHT_CH_CUR_HI.hi n) (a / 2 ^ 32)
      if (d.decodes heddle a 32).isNone then (d.missed 2 heddle a false).shtError n 1
      else if d.poisoned a 32 then (d.readFor (.matrix 2) a 32).shtError n 4
      else
        let (x, clean) := readDesc (d.winBytes heddle a 32)
        let d := d.readFor (.matrix 2) a 32
        if !clean ∨ x.bad then d.shtError n 5
        else
          let wait := if bit x.flags 2 then (List.range 4).filter (fun k => d.flag (HDL_CLEAN_CTL.busy k)) else []
          if x.len = 0 ∧ wait.isEmpty then d.descDone n x
          else { d.set (SHT_CH_REMAIN.value n) x.len with hdl := { d.hdl with desc := some x, waitSlots := wait } }

/-- Source and destination both increment, and the destination starts inside the source range (R462). -/
def Desc.descending (x : Desc) : Bool := x.inc == 3 && decide (x.src < x.dst) && decide (x.dst < x.src + x.len)

/-- The fill at offset `off`, of `n` bytes: one source burst, then one destination burst (R461). It answers the cause of an
error; a poisoned line stops it before anything is written (R466). -/
def Device.fill (d : Device) (heddle : Bool) (x : Desc) (off n : Nat) : Option Nat × Device :=
  let sw := 2 ^ x.srcW
  let dw := 2 ^ x.dstW
  let a := if bit x.inc 0 then x.src + off else x.src
  let k := if bit x.inc 0 then n else sw
  let d := d.request 2 1
  if (d.decodes heddle a k).isNone then (some 2, d.missed 2 heddle a false)
  else
    let bad := d.poisoned a k
    let bs := d.winBytes heddle a k
    let d := d.readFor (.matrix 2) a k
    if bad then (some 4, d)
    else
      let bs := if bit x.inc 0 then bs else (List.replicate (n / sw) bs).flatten
      let b := if bit x.inc 1 then x.dst + off else x.dst
      let (st, d) := (d.request 2 1).winWrite 2 heddle b (if bit x.inc 1 then bs else bs.drop (n - dw))
      if st = .ok then (none, d) else (some 3, d)

/-- `k` fills of the descriptor of channel `n`, from fill `i` on; REMAIN follows what has been written. -/
def Device.fills (d : Device) (n : Nat) (heddle : Bool) (x : Desc) : Nat → Nat → Option Nat × Device
  | _, 0 => (none, d)
  | i, k + 1 =>
    let size := min 64 (x.len - 64 * i)
    let off := if x.descending then x.len - 64 * i - size else 64 * i
    match d.fill heddle x off size with
    | (some c, d) => (some c, d)
    | (none, d) => (d.set (SHT_CH_REMAIN.value n) (x.len - 64 * i - size)).fills n heddle x (i + 1) k

/-- DESCRIPTOR_COMPLETE: the move is made whole, or stops at the first error (R466). -/
def execDescriptorComplete (s : State) : Host.Outcome State Fault Refusal :=
  s.act fun d =>
    match d.hdl.desc with
    | none => d
    | some x =>
      if !d.hdl.waitSlots.isEmpty then d
      else
        let n := d.get SHT_STAT.running
        match d.fills n (d.flag (SHT_CH_CTL.heddle n)) x 0 ((x.len + 63) / 64) with
        | (some c, d) => d.shtError n c
        | (none, d) => d.descDone n x

/-- SHT_BUS_ERROR: an error response or a poisoned read stops the running channel with `cause` + 1. An error in the middle of a
move leaves what was written before it; where the error falls is the bus's own matter (log 6). -/
def execShtBusError (cause : Fin 5) (s : State) : Host.Outcome State Fault Refusal :=
  s.act fun d =>
    if !d.flag SHT_STAT.busy then d
    else
      let n := d.get SHT_STAT.running
      match d.hdl.desc with
      | none =>
        let lo := d.get (SHT_CH_NEXT_LO.lo n)
        let hi := d.get (SHT_CH_NEXT_HI.hi n)
        ((d.set (SHT_CH_CUR_LO.lo n) lo).set (SHT_CH_CUR_HI.hi n) hi).shtError n (cause.val + 1)
      | some x =>
        if !d.hdl.waitSlots.isEmpty then d
        else
          let k := Config.free d.freeN % ((x.len + 63) / 64 + 1)
          match d.nextFree.fills n (d.flag (SHT_CH_CTL.heddle n)) x 0 k with
          | (some c, d) => d.shtError n c
          | (none, d) => d.shtError n (cause.val + 1)

/-! ### The matrix (R467) -/

/-- What MTX_CLR clears. -/
def Device.mtxClr (d : Device) : Device :=
  ((d.set MTX_CNT.word 0).set MTX_PEAK.word 0).put MTX_DEFAULT_HI.valid false

/-- MTX_CLR. -/
def execMtxClr (s : State) : Host.Outcome State Fault Refusal := s.act fun d => d.mtxClr

end Sys2Proof.Machine
end

