-- ==== Sys2Proof/Machine/Faults.lean ====
section
/-! DEFINITION. Fault sources and their consequences, fault and event notices, injection, the IEEE 1149.1 port (17 R470 to
R485), wear readings and re-planning (17 R486 to R488), the core supply (20 R534 to R538), the SRAM patrol (13 R385). -/

namespace Sys2Proof.Machine

/-- Every block instance. -/
def allBlks : List Blk :=
  [.glb, .ref, .pck, .crl, .apu, .hst, .btn, .zch, .pwd, .jrn, .spl, .sht, .mtx, .hdl, .wge] ++ (List.finRange 64).map Blk.wrp ++
    (List.finRange 68).map Blk.lom ++ (List.finRange 64).map Blk.hrn ++ (List.finRange 4).map Blk.trd ++
    (List.finRange 32).map Blk.clo ++ (List.finRange 24).map Blk.drm

/-! ### Consequences (R479, R481) -/

/-- The frame that port `p` is receiving fails its checks with code 11. -/
def Device.spoilFrame (d : Device) (p : Nat) : Device :=
  let x := d.port p
  match x.frame with
  | none => d
  | some f => d.setPort p { x with frame := some { f with faulty := true } }

/-- A creel word is lost (R542): found by the write check, it spoils the frame being written; found at a read, its bytes count
as zero and, in slot 0 or 1, the pick's beams carry partial; a replay reads slots 2 and 3. -/
def Device.creelLost (d : Device) (detail : Nat) : Device :=
  let w := detail % 131072
  if bit detail 31 then
    let n := detail % 2 ^ 31 / 131072 % 4
    let c := Sparse.get (fun _ => CreelSlot.cold) d.creel n
    let d := d.setCreel n { c with damaged := (w :: c.damaged).eraseDups }
    if n < 2 then d.partialPick else d
  else d.spoilFrame (w % 512 / 8)

/-- A treadle word is lost (09 R257). -/
def Device.treadleLost (d : Device) (e detail : Nat) : Device :=
  let x := d.engine e
  match bits detail 16 2 with
  | 0 => d.setEngine e { x with badData := (detail % 65536 :: x.badData).eraseDups }
  | 1 => if d.trdState e = 0 then d else (d.set (TRD_STAT.state e) 6).set (TRD_PC.pc e) x.pc
  | _ => d

/-- A loom's fault (05 R123, R141, 06 R169): a bobbin word, a counter, an operand, the spill queue, a late dump. -/
def Device.loomConsequence (d : Device) (k src detail : Nat) : Device :=
  match src with
  | 0 => if bit detail 31 then d else d.inc (LOM_BOBBIN_ECC.corrected k)
  | 1 => d.bobbinFault k (bit detail 17) (bits detail 14 3) (bits detail 0 14)
  | 5 => match d.sheds.ending with
    | some r => if d.sheds.dumping.contains k then d.lateDump r k else d.lateFault k
    | none => d.lateFault k
  | n =>
    if !d.canFault k ∧ n ≠ 4 then d
    else (if n = 2 then d.inc (LOM_CHK.count_err k) else d).loomFault k

/-- A weight set is late (07 R198): the shed whose sets are being generated, else the current one. -/
def Device.setsLate (d : Device) : Device :=
  let s := match d.setter.job with
    | some j => j.shed
    | none => d.pn - d.pn % 2 ^ 48 % d.shedLen
  { d with setter := { d.setter with late := (s :: d.setter.late).eraseDups } }

/-- The last ledger write completed in one copy only; a quiesce that meets it fails (10 R291). -/
def Device.copyLost (d : Device) : Device :=
  let d := if d.jrn.quiesced = some false then { d with jrn := { d.jrn with quiesceBad := true } } else d
  match d.jrn.copy1 with
  | [] => d
  | e :: es => { d with jrn := { d.jrn with copy1 := { e with ok := false } :: es } }

/-- Cloth port `c` fails by a fault, from any state in which it does not stand FAILED or OFF (11 R318). The link of a DOWN port is
lost already: its next coming up ends the cause. -/
def Device.clothFault (d : Device) (c : Nat) : Device :=
  let st := d.get (CLO_STAT.state c)
  if st = 1 then (d.portFails c 3 1).tookAway (.clo (Fin.ofNat 32 c))
  else if st = 2 ∨ st = 4 then (d.portFails c 3 2).tookAway (.clo (Fin.ofNat 32 c))
  else d

/-- What a source's event does beside its fault registers (R479). `subject` is what FDETAIL does not name: the unit of a ZCH or
PWD source, the pair of an HDL source, the upper bits of an address. -/
def Device.consequence (d : Device) (b : Blk) (src detail subject : Nat) : Device :=
  match b, src with
  | .wrp p, 1 => d.spoilFrame p.val
  | .crl, 1 => d.creelLost detail
  | .lom k, n => d.loomConsequence k.val n detail
  | .apu, 2 => { d with apu := { d.apu with fault := true, frayed := List.range 4096 } }
  | .hrn h, 0 => d.inc (HRN_WECC.corrected h.val)
  | .hrn h, 1 => d.hrnLost h.val detail
  | .hrn _, 2 => d.partialPick
  | .btn, 2 => d.partialPick
  | .hst, 2 => d.setsLate
  | .hst, 3 => if bit detail 31 then d.stagingLost else d.poisonLine (detail + 2 ^ 32 * subject)
  | .zch, 2 => (d.put ZCH_STAT.load_late true).recordLost (subject % 128)
  | .zch, 3 => (d.put ZCH_STAT.state_err true).recordLost (subject % 128)
  | .zch, 4 => d.unitFault (subject % 128)
  | .pwd, 2 => (d.put PWD_STAT.load_late true).recordLost (128 + subject % 512)
  | .pwd, 3 => (d.put PWD_STAT.state_err true).recordLost (128 + subject % 512)
  | .pwd, 4 => d.unitFault (128 + subject % 512)
  | .trd e, 1 => d.treadleLost e.val detail
  | .jrn, 2 => if d.woven then d.noSegment ((d.pn + 2 ^ 64 - 1) % 2 ^ 64) else d
  | .jrn, 3 => d.poisonLine (detail + 2 ^ 32 * subject)
  | .jrn, 4 => d.copyLost
  | .clo c, 1 => d.clothFault c.val
  | .clo c, 2 => d.clothFault c.val
  | .spl, 1 => if bit detail 31 then d else (d.resetQueue (detail % 8192)).splStat
  | .spl, 2 => d.poisonLine (detail + 2 ^ 32 * subject)
  | .drm k, 1 => d.linePoisoned k.val (detail + 2 ^ 32 * subject)
  | .sht, 1 => if d.flag SHT_STAT.busy then d.shtError (d.get SHT_STAT.running) 2 else d
  | _, _ => d

/-- A check of source `src` and, where it finds or is made to find an error, the consequence (R483). -/
def Device.checkAct (d : Device) (b : Blk) (src : Nat) (found : Bool) (detail subject : Nat) : Device :=
  let detail := if hasDetail b src then detail else 0
  match d.check b src found detail with
  | (true, d) => d.consequence b src detail subject
  | (false, d) => d

/-- The model's own rows check the source at each access that it examines (17 R483): an injection of it waits for such a row. -/
def checkedByRows : Blk → Nat → Bool
  | .hst, n => n == 3
  | .jrn, n => n == 3
  | .spl, n => n == 2
  | .glb, n => n == 2
  | _, _ => false

/-- A fault of a heddle pair, real or injected (16 R449, 17 R483): a real one fails pair `p`; an injected one, with no real one
beside it, fails `p` or, where that is in reset, the other pair, as a real event would. -/
def Device.pairFault (d : Device) (p : Nat) (real : Bool) : Device :=
  if real then d.failPair p
  else
    let p := if d.flag (pairHeld p) then 1 - p else p
    if d.flag (pairHeld p) then d
    else
      let src := if d.flag (pairHeld (1 - p)) then 3 else 2
      ((d.holdPair p).takeInjection .hdl src false 0).tookAway .hdl

/-- FAULT_RAISED: a real event, or the moment at which an armed injection acts (R472, R483). fuse_crc is checked only at
reset, which empties an armed injection. -/
def execFaultRaised (b : Blk) (src : Fin 16) (real inj : Bool) (detail : W32) (place : FaultPlace) (s : State) :
    Host.Outcome State Fault Refusal :=
  s.act fun d =>
    let d := d.at_ place.t
    let acts := inj && d.armed b src.val && !checkedByRows b src.val
    if faultClass b src.val = 0 ∨ (!real ∧ !acts) then d
    else if b = .hdl ∧ 2 ≤ src.val then d.pairFault (place.subject % 2) real
    else d.checkAct b src.val real detail.toNat place.subject

/-- An uncorrectable word of HDL's SRAM (16 R449, 17 R479): of a dirty line, whose pair fails, or of a clean line, which is
invalidated and fetched again. What the word held is internal to the device (R542): a free choice (log 81). -/
def Device.heddleWordLost (d : Device) (detail : Nat) : Device :=
  let k := Config.free d.freeN % 3
  if k = 2 then d.nextFree.checkAct .hdl 0 true detail 0 else d.nextFree.failPair k

/-- The patrol scrubber reads a word of `b`: corrected words and uncorrectable ones go to the owning block (13 R384, R385).
The words of LOM are its spill queues; an uncorrectable word of HST is raised as table_poison with bit 31 of its detail set
(17 R479, R542). -/
def execSramPatrolScrub (b : Blk) (corrected uncorrectable : Bool) (detail : W32) (s : State) :
    Host.Outcome State Fault Refusal :=
  s.act fun d =>
    let bad : Nat := match b with
      | .lom _ => 4
      | .hst => 3
      | _ => 1
    let patrolled : Bool := match b with
      | .lom _ => bit detail.toNat 31
      | .crl => false
      | _ => faultClass b 0 == 1
    if !patrolled then d
    else
      let d := d.checkAct b 0 corrected detail.toNat 0
      let word := if b = .hst then detail.toNat % 2 ^ 31 + 2 ^ 31 else detail.toNat
      if b = .hdl then (if uncorrectable then d.heddleWordLost word else d)
      else if faultClass b bad = 0 then d else d.checkAct b bad uncorrectable word 0

/-! ### Injection (R483) -/

/-- A write of `v` to FINJ of block `b`: nothing while testen is 0; go arms the source named, unless the block lists none. -/
def Device.finjWrite (d : Device) (b : Blk) (v : Nat) : Device :=
  if !d.testen then d
  else
    let base := blkBase b
    let d := d.set (FINJ.source base) (v % 16)
    if bit v 8 then
      { d.put (FINJ.pending base) (faultClass b (v % 16) != 0) with
        sup := { d.sup with armedSrc := Sparse.put (fun _ => 0) d.sup.armedSrc base (v % 16) } }
    else d

/-- FINJ_GO. -/
def execFinjGo (b : Blk) (src : Fin 16) (s : State) : Host.Outcome State Fault Refusal :=
  s.act fun d => d.finjWrite b (src.val + 256)

/-! ### Reports (R474 to R476, 15 R438) -/

/-- The sources set in FSTAT. -/
def Device.raisedSources (d : Device) (b : Blk) : List Nat :=
  let m := d.get (FSTAT.real (blkBase b)) ||| d.get (FSTAT.injected (blkBase b))
  (List.range 16).filter fun n => bit m n

/-- A class U source that can retire a loom, fail a cloth port or fail a heddle pair. -/
def takesAway : Blk → Nat → Bool
  | .lom _, n => decide (2 ≤ n) && decide (n ≤ 5)
  | .clo _, n => n == 1 || n == 2
  | .hdl, n => n == 2
  | _, _ => false

/-- The severity of a FAULT notice (R475): ALARM where the block's fault has retired, failed or held something. -/
def Device.faultSeverity (d : Device) (b : Blk) : Nat :=
  let ns := d.raisedSources b
  if ns.any fun n => faultClass b n == 3 then 3
  else if d.sup.took.contains (blkBase b) && ns.any (fun n => takesAway b n) then 2
  else if ns.any fun n => faultClass b n == 2 then 1
  else 0

/-- FAULT_NOTICE: firmware queues the notice of an asserted interrupt and clears the C and U bits it reports. -/
def execFaultNotice (b : Blk) (s : State) : Host.Outcome State Fault Refusal :=
  s.act fun d =>
    if !d.fwUp ∨ !d.irq b then d
    else
      let base := blkBase b
      let pair (f : Fld) : Nat × Nat := (f.addr, (d.word f.addr).toNat)
      let fatal := ((List.range 16).filter fun n => faultClass b n == 3).foldl (fun a n => a + 2 ^ n) 0
      let d := d.notice 0x10 (d.faultSeverity b) base
        [pair (FSTAT.word base), pair (FFIRST.word base), pair (FDETAIL.word base), pair (FPN_LO.word base), pair (FPN_HI.word base)]
      let d := { d with sup := { d.sup with took := d.sup.took.filter fun x => x != base } }
      (d.set (FSTAT.real base) (d.get (FSTAT.real base) &&& fatal)).set (FSTAT.injected base)
        (d.get (FSTAT.injected base) &&& fatal)

/-- REJECT_POLL: ports whose WRP_REJ counters have increased since the last poll (R476). -/
def execRejectPoll (s : State) : Host.Outcome State Fault Refusal :=
  s.act fun d =>
    if !d.fwUp then d
    else (List.range 64).foldl (fun (d : Device) p =>
      let ns := ((List.range 11).map (· + 1)).filter fun n =>
        decide (Sparse.get (fun _ => 0) d.sup.rejSeen (16 * p + n) < d.get (WRP_REJ.count p n))
      let seen := ((List.range 11).map (· + 1)).foldl (fun (m : Sparse Nat) n =>
        Sparse.put (fun _ => 0) m (16 * p + n) (d.get (WRP_REJ.count p n))) d.sup.rejSeen
      let pairs := (ns.take 8).map fun n => ((WRP_REJ.count p n).addr, d.get (WRP_REJ.count p n))
      let d := { d with sup := { d.sup with rejSeen := seen } }
      if ns.isEmpty then d else d.notice 0x11 0 (0x100000 + 0x1000 * p) pairs) d

/-- The base address of the block instance that `addr` lies in. -/
def instanceBase (addr : Nat) : Nat := match locate addr with
  | none => 0
  | some (_, _, off) => addr - off

/-- The enables of an event register (07 R211, 10 R293, 11 R325, 14 R409, 16 R468). -/
def eventEnable (a : Nat) : Option Fld :=
  if a = REF_EVENT.word.addr then some REF_EVT_EN.enable
  else if a = HST_EVENT.word.addr then some HST_EVT_EN.enable
  else if a = JRN_EVENT.word.addr then some JRN_EVT_EN.enable
  else if a = SPL_EVENT.word.addr then some SPL_EVT_EN.enable
  else if a = SHT_EVENT.word.addr then some SHT_EVT_EN.enable
  else none

/-- The event interrupt of an event register: some set bit is enabled. -/
def Device.eventIrq (d : Device) (a : Nat) : Bool := match eventEnable a with
  | none => false
  | some f => (d.word a).toNat &&& d.get f != 0

/-- The event registers that can interrupt the heddle cores. -/
def eventRegs : List Nat := [REF_EVENT.word, HST_EVENT.word, JRN_EVENT.word, SPL_EVENT.word, SHT_EVENT.word].map Fld.addr

/-- Pair `p` receives an interrupt (16 R448, 17 R474): the blocks' fault and event interrupts go to the pair that holds the control
role, a pair's doorbell to that pair; a pair in reset takes none. -/
def Device.interrupted (d : Device) (p : Nat) : Bool :=
  !d.flag (pairHeld p) && ((d.get HDL_ROLE.ctl == p && (allBlks.any d.irq || eventRegs.any d.eventIrq)) ||
    d.flag (if p = 0 then HDL_DOORBELL.to_pair0 else HDL_DOORBELL.to_pair1))

/-- EVENT_NOTICE (15 R438): an enabled bit of an event register, which interrupts the control pair, or a set bit of a status register
without enables. -/
def execEventNotice (addr : W32) (s : State) : Host.Outcome State Fault Refusal :=
  s.act fun d =>
    let a := addr.toNat
    let shown := match eventEnable a with
      | some _ => d.eventIrq a
      | none => (fieldsAt a).any fun f => f.acc == .w1c && d.get ⟨a, f.lo, f.w⟩ != 0
    if d.fwUp && shown && decide (a % 4096 < 0xF00) then d.eventNotice (instanceBase a) a else d

/-- FATAL_RESET_TIMER at `t`: 1 s after the fatal fault, with fatal_hold 0 (R477). -/
def execFatalResetTimer (t : Nat) (s : State) : Host.Outcome State Fault Refusal :=
  s.act fun d =>
    match d.sup.fatalAt with
    | none => d
    | some f =>
      if !d.flag GLB_FATAL.fatal ∨ d.flag GLB_CTL.fatal_hold ∨ t < f + 1600000000 then d else (d.at_ t).coldRestart

/-- TAP_INSTRUCTION: `standard` says that it is one of BYPASS, IDCODE, SAMPLE/PRELOAD, EXTEST, CLAMP, HIGHZ; while the port is
locked every other one acts as BYPASS (R485). -/
def execTapInstruction (code : BitVec 16) (standard : Bool) (s : State) : Host.Outcome State Fault Refusal :=
  s.act fun d =>
    { d with sup := { d.sup with tap := if d.flag GLB_TEST.jtag_locked ∧ !standard then none else some (code.toNat, standard) } }

/-! ### Wear (R486 to R488) -/

/-- A WEAR notice about a domain or the supply. -/
def Device.wearNotice (d : Device) (sev : Nat) (regs : List Fld) : Device :=
  d.notice 0x20 sev 0x7e0000 (regs.map fun f => (f.addr, (d.word f.addr).toNat))

/-- A write of `v` to WGE_START_n. -/
def Device.wgeStart (d : Device) (n v : Nat) : Device :=
  (List.range 32).foldl (fun (d : Device) j =>
    if bit v j ∧ 32 * n + j < 133 then d.setBit (WGE_BUSY.busy n) j else d) d

/-- WGE_START_WRITE. -/
def execWgeStartWrite (n : Fin 5) (value : W32) (s : State) : Host.Outcome State Fault Refusal :=
  s.act fun d => d.wgeStart n.val value.toNat

/-- GAUGE_DONE: a reading ends. A gauge search is the check of WGE source 2. -/
def execGaugeDone (dom : Fin 133) (path sram : Byte) (temp : BitVec 16) (s : State) : Host.Outcome State Fault Refusal :=
  s.act fun d =>
    let k := dom.val
    let f := WGE_BUSY.busy (k / 32)
    if !bit (d.get f) (k % 32) then d
    else
      let (_, d) := d.check .wge 2 false 0
      let d := d.set f (d.get f &&& (2 ^ 32 - 1 - 2 ^ (k % 32)))
      ((d.set (WGE_DOM_READ.path_code k) path.toNat).set (WGE_DOM_READ.sram_code k) sram.toNat).set
        (WGE_DOM_READ.temp k) temp.toNat

/-- A write of `v` to WGE_BOB_OFF_n: each 1 clears bobbin_ok of its loom, which may stop its lending (R482). -/
def Device.bobOffWrite (d : Device) (n v : Nat) : Device :=
  let on := (List.range 32).filter fun j => bit v j && decide (32 * n + j < 68)
  let d := d.set (WGE_BOB_OFF.off n) (on.foldl (fun a j => a + 2 ^ j) 0)
  on.foldl (fun (d : Device) j =>
    let k := 32 * n + j
    if d.flag (LOM_ROLE.bobbin_ok k) then (d.put (LOM_ROLE.bobbin_ok k) false).stopLending k else d) d

/-- WGE_BOB_OFF_WRITE. -/
def execWgeBobOffWrite (n : Fin 3) (value : W32) (s : State) : Host.Outcome State Fault Refusal :=
  s.act fun d => d.bobOffWrite n.val value.toNat

/-- Domains that exceed the limit (R488): a loom's retire_req is set and committed, any other domain is to run at code 80, which
the re-plan gives it; each is reported. -/
def Device.wearLimits (d : Device) (ks : List Nat) : Device :=
  let d := ks.foldl (fun (d : Device) k =>
    if k < 68 then
      (d.set (LOM_RETIRE.retire_req k) 1).wearNotice 2 [WGE_DOM_READ.word k, WGE_DOM_SET.word k, LOM_ROLE.word k]
    else d.wearNotice 2 [WGE_DOM_READ.word k, WGE_DOM_SET.word k]) d
  if ks.any fun k => decide (k < 68) then d.firmwareCommit else d

/-- What the last reading of domain `k` requires (R487). -/
def Device.need (d : Device) (k : Nat) : Nat :=
  (max (d.get (WGE_DOM_READ.path_code k)) (d.get (WGE_DOM_READ.sram_code k)) + 12) % 256

/-- The history of domain `k` takes a daily reading (R493). -/
def Device.wearHistory (d : Device) (k : Nat) : Device :=
  let n := d.need k
  let d := if d.get (WGE_DOM_HIST.days k) = 0 then d.set (WGE_DOM_HIST.first k) n else d
  (d.peak (WGE_DOM_HIST.peak k) n).inc (WGE_DOM_HIST.days k)

/-- The settings store takes the domains' codes and histories (R487). -/
def Device.keepWear (d : Device) : Device :=
  let sets := (List.range 133).map fun k => (k, d.get (WGE_DOM_SET.set_ k))
  let hist := (List.range 133).map fun k => (k, d.word (WGE_DOM_HIST.word k).addr)
  d.keepSetting fun c => { c with domSet := sets, domHist := hist }

/-- The codes of a re-plan are written, increases before decreases; a change by 4 codes or more is reported (R487, R488). -/
def Device.applyCodes (d : Device) (codes : List (Nat × Nat)) : Device :=
  let up := codes.filter fun e => decide (d.domSet e.1 < e.2)
  let down := codes.filter fun e => decide (e.2 < d.domSet e.1)
  (up ++ down).foldl (fun (d : Device) e =>
    let old := d.domSet e.1
    let d := d.set (WGE_DOM_SET.set_ e.1) e.2
    if 4 ≤ e.2 - old ∨ 4 ≤ old - e.2 then d.wearNotice 0 [WGE_DOM_READ.word e.1, WGE_DOM_SET.word e.1] else d) d

/-- The re-plan goes on once the rail is high enough: the domains' codes, then the rail to the highest of them (20 R537). -/
def Device.finishPlan (d : Device) (codes : List (Nat × Nat)) : Device :=
  ((d.applyCodes codes).commandRail true).keepWear

/-- WEAR_REPLAN: the service pair plans from the domains' readings, retires and reports; a rail that must rise is commanded
first (20 R537). -/
def execWearReplan (s : State) : Host.Outcome State Fault Refusal :=
  s.act fun d =>
    if d.boot.phase ≠ .running ∨ d.svcHeld then d
    else
      let ks := List.range 133
      let d := ks.foldl (fun (d : Device) k => d.wearHistory k) d
      let d := (ks.filter fun k => decide (k < 68) && decide (52 ≤ d.get (WGE_DOM_READ.sram_code k))).foldl
        (fun (d : Device) k =>
          (d.bobOffWrite (k / 32) (d.get (WGE_BOB_OFF.off (k / 32)) ||| 2 ^ (k % 32))).wearNotice 1
            [WGE_DOM_READ.word k, WGE_BOB_OFF.word (k / 32)]) d
      let codes := ks.map fun k =>
        (k, if d.need k ≤ 80 then max (d.need k) (d.domSet k - 2) else if k < 68 then d.domSet k else 80)
      let d := d.wearLimits (ks.filter fun k => decide (80 < d.need k))
      let rail := codes.foldl (fun a e => max a e.2) 0
      if d.sup.rail < rail then
        ({ d with sup := { d.sup with plan := some { codes := codes, rail := rail, tries := 1 }, settling := none } }.sendVout rail).keepWear
      else d.finishPlan codes

/-- VOUT_SETTLED: VDD_CORE is within 5 mV of the command. -/
def execVoutSettled (s : State) : Host.Outcome State Fault Refusal :=
  s.act fun d =>
    let d := { d with sup := { d.sup with settling := none } }
    match d.sup.plan with
    | none => d
    | some p => d.finishPlan p.codes

/-- VR_SETTLE_TIMEOUT: the command is repeated twice; then it is given up for the day with an ALARM, and loom domains whose code
had to rise are handled as exceeding the limit (20 R538). DEDUCED (log 95): of a raise given up, the rail is commanded back to
the highest code, without a further attempt. -/
def execVrSettleTimeout (s : State) : Host.Outcome State Fault Refusal :=
  s.act fun d =>
    match d.sup.plan, d.sup.settling with
    | none, none => d
    | none, some n =>
      if n < 3 then { d with sup := { d.sup with settling := some (n + 1) } }.sendVout d.sup.rail
      else { d with sup := { d.sup with settling := none } }.wearNotice 2 []
    | some p, _ =>
      if p.tries < 3 then { d with sup := { d.sup with plan := some { p with tries := p.tries + 1 } } }.sendVout p.rail
      else
        let d := d.commandRail false
        let up := p.codes.filter fun e => decide (e.1 < 68) && decide (d.domSet e.1 < e.2)
        (d.wearLimits (up.map Prod.fst)).wearNotice 2 []

/-- VR_ALERT: firmware reports STATUS_WORD in a WEAR notice (20 R538). The pair's address is not a register's: the spec names
none (log 6). -/
def execVrAlert (statusWord : BitVec 16) (s : State) : Host.Outcome State Fault Refusal :=
  s.act fun d =>
    if d.boot.phase ≠ .running then d
    else d.nextFree.notice 0x20 2 0x7e0000 [(Config.free d.freeN % 2 ^ 32, statusWord.toNat)]

end Sys2Proof.Machine
end

