-- ==== Sys2Proof/Machine/Reference.lean ====
section
/-! DEFINITION. The references, their qualification and selection, holdover, phase steps and the outputs (14). Frequency
offsets are in units of 10^-11, the limits of REF_LIMITS in units of 10^-10; phases are in ps. -/

namespace Sys2Proof.Machine

/-! ### Conditions (R393, R394) -/

/-- What a reference shows until an event says otherwise (log 21). -/
def RefCond.all : RefCond := { clock := true, nominal := true, pulse := true, window := true }

/-- The conditions of reference `x`. -/
def Device.refCond (d : Device) (x : Nat) : RefCond := Sparse.get (fun _ => RefCond.all) d.ref.cond x

/-- Sets the conditions of reference `x`. -/
def Device.setCond (d : Device) (x : Nat) (c : RefCond) : Device :=
  { d with ref := { d.ref with cond := Sparse.put (fun _ => RefCond.all) d.ref.cond x c } }

/-- Reference `x` is qualified. -/
def Device.qualified (d : Device) (x : Nat) : Bool := bit (d.get REF_STAT.qualified) x

/-- The agreement threshold; 0 is taken as 1 (R409). -/
def Device.agreeThr (d : Device) : Nat := max 1 (d.get REF_LIMITS.agree_thr)

/-- The qualification window; a value below agree_thr is taken as agree_thr (R409). -/
def Device.qualWin (d : Device) : Nat := max d.agreeThr (d.get REF_LIMITS.qual_win)

/-- The reported frequency offset of reference `x`. -/
def Device.refOfs (d : Device) (x : Nat) : Int := sx 32 (d.get (REF_OFS.value x))

/-- The reason field of reference `x`. -/
def reasonField (x : Nat) : Fld :=
  match x with
  | 0 => REF_DQ.reason0
  | 1 => REF_DQ.reason1
  | 2 => REF_DQ.reason2
  | _ => REF_DQ.reason3

/-- The first condition of R393 that reference `x` fails, as REF_DQ codes it. -/
def Device.failing (d : Device) (x : Nat) : Option Nat :=
  let c := d.refCond x
  if !d.flag (REF_PRIO.enable x) then some 6
  else if !c.clock then some 1
  else if !c.nominal then some 2
  else if !c.pulse then some 3
  else if !c.window then some 4
  else none

/-- The reason of a reference that is not qualified: what it fails, or that its qualification time runs. A disagreement
stays shown until then (R397). -/
def Device.showReason (d : Device) (x : Nat) : Device :=
  if d.qualified x then d.set (reasonField x) 0
  else match d.failing x with
    | some n => d.set (reasonField x) n
    | none => if d.get (reasonField x) = 5 then d else d.set (reasonField x) 7

/-- Reference `x` is disqualified for `reason` (R394). -/
def Device.disqualify (d : Device) (x reason : Nat) : Device :=
  let d := d.set REF_STAT.qualified (d.get REF_STAT.qualified &&& (15 - 2 ^ x))
  let d := d.set REF_STAT.eligible (d.get REF_STAT.eligible &&& (15 - 2 ^ x))
  (d.set (reasonField x) reason).put REF_EVENT.disqualified true

/-! ### Switching (R395 to R400) -/

/-- The rank of reference `x`. -/
def Device.rank (d : Device) (x : Nat) : Nat := d.get (REF_PRIO.rank x)

/-- What a switch has still to slew is `x`. -/
def Device.setSlew (d : Device) (x : Int) : Device := { d with ref := { d.ref with slewLeft := x, slewPart := 0 } }

/-- The device second moves by `x` ps. -/
def Device.moveSecond (d : Device) (x : Int) : Device := { d with ref := { d.ref with moved := d.ref.moved + x } }

/-- The phase of reference `x` now: as measured, less what the device second has moved since (R400). -/
def Device.phaseNow (d : Device) (x : Nat) : Int :=
  sx 32 (d.get (REF_PHASE.value x)) - (d.ref.moved - Sparse.get (fun _ => 0) d.ref.seenAt x)

/-- A switch ends: LOCKED, nothing left to slew, and every candidate's wait-to-restore runs from now (R395). -/
def Device.switchEnds (d : Device) : Device :=
  let d := ((d.moveSecond d.ref.slewLeft).setSlew 0).set REF_STAT.state 1
  d.set REF_STAT.eligible (if d.get REF_CFG.wtr = 0 then d.get REF_STAT.qualified else 0)

/-- A switch to `x` starts, from the point that a slew under way has reached (R400). With a draft woven, a phase error up to 500 ns is slewed out, a larger one stays (R398, R399);
without, the device second is reloaded at the next mark plus θ, and one exists from now on (R402). -/
def Device.switchTo (d : Device) (x : Nat) : Device :=
  let e := d.phaseNow x
  let d := ((d.setSlew 0).put REF_EVENT.switched true).inc REF_SW_CNT.switches
  let d := (d.set REF_STAT.active x).put REF_STAT.active_valid true
  if !d.woven then (((d.moveSecond e).put REF_STAT.phase_far false).put REF_STAT.second_valid true).switchEnds
  else if e.natAbs ≤ 500000 then ((d.setSlew e).put REF_STAT.phase_far false).set REF_STAT.state 2
  else ((d.put REF_STAT.phase_far true).put REF_EVENT.phase_far true).switchEnds

/-- FREE_RUN begins: the window is not tested there (R393), so that no reference fails by it until it is measured again. -/
def Device.freeRun (d : Device) : Device :=
  let d := (List.range 4).foldl (fun (d : Device) x => d.setCond x { d.refCond x with window := true }) d
  (List.range 4).foldl Device.showReason ((d.set REF_STAT.state 0).put REF_EVENT.free_run true)

/-- The active reference is lost and there is no candidate (R396, R401); a slew under way ends where it is (R400). -/
def Device.loseReference (d : Device) : Device :=
  let d := (d.setSlew 0).put REF_STAT.active_valid false
  if d.flag REF_STAT.hist_valid then
    (((d.set REF_STAT.state 3).put REF_EVENT.holdover true).inc REF_SW_CNT.holdovers).set REF_HOLD_TIME.value 0
  else d.freeRun

/-- The best rank among `xs`, then the lowest letter. -/
def Device.bestRef (d : Device) (xs : List Nat) : Option Nat :=
  xs.foldl (fun a x => match a with
    | none => some x
    | some y => if d.rank x < d.rank y then some x else some y) none

/-- The DPLL output's own offset from 16 × LOCLK: the holdover estimate in HOLDOVER, none in FREE_RUN (R401, R402), else as last
measured (log 82). -/
def Device.dpllOfs (d : Device) : Int :=
  let st := d.get REF_STAT.state
  if st = 3 then sx 32 (d.get REF_HOLD_EST.value) else if st = 0 then 0 else d.ref.dpll

/-- How far the frequency of reference `x` lies from the holdover estimate (R397). -/
def Device.fromEstimate (d : Device) (x : Nat) : Nat := (d.refOfs x + d.dpllOfs - sx 32 (d.get REF_HOLD_EST.value)).natAbs

/-- Two of `xs` of the best rank whose offsets differ by more than qual_win: the one to disqualify lies farther from the holdover
estimate, and on a tie has the higher letter (R397). -/
def Device.outlier (d : Device) (xs : List Nat) : Option Nat :=
  match d.bestRef xs with
  | none => none
  | some b =>
    let ys := xs.filter fun x => d.rank x == d.rank b
    (ys.flatMap fun x => (ys.filter fun y => decide (x < y)).map fun y => (x, y)).findSome? fun (p : Nat × Nat) =>
      if (d.refOfs p.1 - d.refOfs p.2).natAbs ≤ 10 * d.qualWin then none
      else some (if d.fromEstimate p.2 < d.fromEstimate p.1 then p.1 else p.2)

/-- The candidates that a switch may now choose among: none while the active reference is to stay (R396, R400). -/
def Device.choices (d : Device) : List Nat :=
  let cand := (List.range 4).filter fun x => d.qualified x
  if !d.flag REF_STAT.active_valid then cand
  else
    let a := d.get REF_STAT.active
    if !d.qualified a then cand
    else if d.get REF_STAT.state = 2 ∨ !d.flag REF_CFG.revertive then []
    else cand.filter fun x => bit (d.get REF_STAT.eligible) x && decide (d.rank x < d.rank a)

/-- Two of `xs` have the same best rank and disagree (R397). -/
def Device.disagreement (d : Device) (xs : List Nat) : Bool :=
  xs.any fun x => xs.any fun y => d.rank x == d.rank y && decide (10 * d.agreeThr < (d.refOfs x - d.refOfs y).natAbs)

/-- Selection (R396); it runs again after a disqualification by R397. -/
def Device.selectRef (d : Device) : Nat → Device
  | 0 => d
  | fuel + 1 =>
    let xs := d.choices
    match d.bestRef xs with
    | none =>
      if d.flag REF_STAT.active_valid ∧ !d.qualified (d.get REF_STAT.active) then d.loseReference else d
    | some x =>
      match d.outlier xs with
      | some y => (d.disqualify y 5).selectRef fuel
      | none => d.switchTo x

/-- Selection among the four references. -/
def Device.select (d : Device) : Device := d.selectRef 5

/-- The conditions of reference `x` have changed: a qualified one that fails is disqualified at once, and selection runs
(R394, R396). -/
def Device.recheck (d : Device) (x : Nat) : Device :=
  match d.qualified x, d.failing x with
  | true, some n => (d.disqualify x n).select
  | _, _ => d.showReason x

/-- REF_CLOCK_LOSS: no clock for more than 10 µs. -/
def execRefClockLoss (x : Fin 4) (s : State) : Host.Outcome State Fault Refusal :=
  s.act fun d => (d.setCond x.val { d.refCond x.val with clock := false }).recheck x.val

/-- REF_CLOCK_RETURN: the clock is present again; the qualification time starts from zero when every condition holds. -/
def execRefClockReturn (x : Fin 4) (s : State) : Host.Outcome State Fault Refusal :=
  s.act fun d => (d.setCond x.val { d.refCond x.val with clock := true }).recheck x.val

/-- The phase of reference `x` is measured now. -/
def Device.seenNow (d : Device) (x : Nat) : Device :=
  { d with ref := { d.ref with seenAt := Sparse.put (fun _ => 0) d.ref.seenAt x d.ref.moved } }

/-- PPS_EDGE: `phase` is the edge's time relative to the device second, in ps; the mark is comp_x earlier (R390), and
REF_PHASE_x adds θ. A reference that is phase_far while no draft is woven has the device second reloaded at its mark (R399). -/
def execPpsEdge (x : Fin 4) (seen : PulseSeen) (phase : BitVec 32) (s : State) : Host.Outcome State Fault Refusal :=
  s.act fun d =>
    let k := x.val
    let e := sx 32 phase.toNat - sx 20 (d.get (REF_COMP.comp k)) + sx 32 (d.get REF_THETA_APP.theta)
    let d := if seen = .missing ∨ !d.flag REF_STAT.second_valid then d else (d.set (REF_PHASE.value k) (low 32 (satS 32 e))).seenNow k
    let d := (d.setCond k { d.refCond k with pulse := seen == .good }).recheck k
    if seen = .good ∧ d.flag REF_STAT.active_valid ∧ d.get REF_STAT.active = k ∧ d.flag REF_STAT.phase_far ∧ !d.woven then
      (((d.put REF_STAT.phase_far false).moveSecond (d.phaseNow k)).set (REF_PHASE.value k) 0).seenNow k
    else d

/-- OFFSET_MEASUREMENT: the offset from the DPLL output, the DPLL output's own offset from 16 × LOCLK, and whether the clock lies
off its nominal frequency by more than 50 ppm. The window is not tested in FREE_RUN (R393); candidates of one rank are compared (R397). -/
def execOffsetMeasurement (x : Fin 4) (m : Offsets) (offNominal : Bool) (s : State) :
    Host.Outcome State Fault Refusal :=
  s.act fun d =>
    let k := x.val
    let d : Device := { d.set (REF_OFS.value k) m.ofs.toNat with ref := { d.ref with dpll := m.dpll.toInt } }
    let window := d.get REF_STAT.state == 0 || decide ((d.refOfs k).natAbs ≤ 10 * d.qualWin)
    let d := (d.setCond k { d.refCond k with nominal := !offNominal, window := window }).recheck k
    let rivals := (List.range 4).filter fun y => d.qualified y && d.rank y == d.rank k
    if d.qualified k ∧ rivals.any (fun y => decide (10 * d.agreeThr < (d.refOfs y - d.refOfs k).natAbs)) then
      d.put REF_EVENT.disagree true
    else d

/-- QUALIFICATION_TIMER: qual_time has passed with every condition held. -/
def execQualificationTimer (x : Fin 4) (s : State) : Host.Outcome State Fault Refusal :=
  s.act fun d =>
    let k := x.val
    if d.qualified k ∨ (d.failing k).isSome then d
    else
      let d := ((d.setBit REF_STAT.qualified k).put REF_EVENT.qualified true).set (reasonField k) 0
      let d := if d.get REF_CFG.wtr = 0 then d.setBit REF_STAT.eligible k else d
      let rivals := (List.range 4).filter fun y => d.qualified y && d.rank y == d.rank k
      let d := if d.disagreement rivals then d.put REF_EVENT.disagree true else d
      d.select

/-- WTR_EXPIRY: a candidate's wait-to-restore has run since it qualified and since the last switch ended (R395). -/
def execWtrExpiry (x : Fin 4) (s : State) : Host.Outcome State Fault Refusal :=
  s.act fun d =>
    if !d.qualified x.val ∨ bit (d.get REF_STAT.eligible) x.val ∨ d.get REF_STAT.state = 2 then d
    else (d.setBit REF_STAT.eligible x.val).select

/-- SWITCH_SLEW_END. With a wait-to-restore of 0, candidates are eligible at once, and selection follows. -/
def execSwitchSlewEnd (s : State) : Host.Outcome State Fault Refusal :=
  s.act fun d =>
    if d.get REF_STAT.state ≠ 2 then d
    else
      let d := d.switchEnds
      if d.get REF_CFG.wtr = 0 then d.select else d

/-! ### Holdover (R401) -/

/-- HOLDOVER_HISTORY_VALID: 60 s of history, taken while a reference was active and not SWITCHING, give the estimate. -/
def execHoldoverHistoryValid (est : BitVec 32) (s : State) : Host.Outcome State Fault Refusal :=
  s.act fun d =>
    if d.get REF_STAT.state ≠ 1 then d
    else (d.set REF_HOLD_EST.value est.toNat).put REF_STAT.hist_valid true

/-- HOLDOVER_EXPIRY: hold_limit minutes of holdover have passed; 0 is no limit. -/
def execHoldoverExpiry (s : State) : Host.Outcome State Fault Refusal :=
  s.act fun d =>
    if d.get REF_STAT.state ≠ 3 ∨ d.get REF_TIMES.hold_limit = 0 then d
    else
      ((d.put REF_STAT.hist_valid false).put REF_EVENT.hold_expired true).freeRun

/-- LOCLK_LOSS: REF source 2, fatal (R388; 17 R479). -/
def execLoclkLoss (s : State) : Host.Outcome State Fault Refusal :=
  s.act fun d => (d.check .ref 2 true 0).2

/-! ### Phase steps and compensation (R404, R405) -/

/-- A write of `v` to step. -/
def Device.stepWrite (d : Device) (v : Nat) : Device :=
  let step := sx 20 v
  let goal := sx 32 (d.get REF_THETA.theta) + step
  if 500000 < step.natAbs ∨ 500000 < (goal - sx 32 (d.get REF_THETA_APP.theta)).natAbs ∨ 1000000000 < goal.natAbs then
    d.put REF_EVENT.step_refused true
  else d.set REF_THETA.theta (low 32 goal)

/-- REF_STEP_WRITE. -/
def execRefStepWrite (step : BitVec 20) (s : State) : Host.Outcome State Fault Refusal := s.act fun d => d.stepWrite step.toNat

/-- A write of `v` to comp_x; the active reference's is ignored. -/
def Device.compWrite (d : Device) (x v : Nat) : Device :=
  if d.flag REF_STAT.active_valid ∧ d.get REF_STAT.active = x then d.put REF_EVENT.comp_refused true
  else d.set (REF_COMP.comp x) v

/-- REF_COMP_WRITE. -/
def execRefCompWrite (x : Fin 4) (comp : BitVec 20) (s : State) : Host.Outcome State Fault Refusal :=
  s.act fun d => d.compWrite x.val comp.toNat

/-! ### Outputs (R407, R408) -/

/-- CLKOUT is driven. -/
def Device.clkout (d : Device) : Bool := !d.held && d.flag REF_OUT.clkout_en

/-- The loom cycles since CLKOUT's last rising edge at `t` (R407): an edge every 16 cycles, 10 ns, one of them on each device second. -/
def Device.clkoutAge (d : Device) (t : Nat) : Nat := match d.tm.second with
  | some x => (t + 16 - x % 16) % 16
  | none => (t + Config.clkPhase) % 16

/-- The level of CLKOUT_P at `t`, while it is driven: high for 8 cycles, 5 ns, from each edge. -/
def Device.clkoutPin (d : Device) (t : Nat) : Option Bool := if d.clkout then some (decide (d.clkoutAge t < 8)) else none

/-- The level of PPSOUT. -/
def Device.ppsoutPin (d : Device) : Bool :=
  d.ref.ppsOut && d.flag REF_OUT.ppsout_en && d.flag REF_STAT.second_valid

/-- The level of PICKOUT. -/
def Device.pickoutPin (d : Device) : Bool := d.ref.pickOut && d.flag REF_OUT.pickout_en && d.running

/-- A write of `v` to ppsout_ofs at `t`: it takes effect 1 ms later at the earliest. -/
def Device.ppsOfsWrite (d : Device) (v t : Nat) : Device :=
  let d := d.set REF_PPSOUT_OFS.ppsout_ofs v
  { d with ref := { d.ref with newPps := d.ref.newPps ++ [(sx 24 v, t + 1600000)] } }

/-- A write of `v` to pickout_ofs at `t`. -/
def Device.pickOfsWrite (d : Device) (v t : Nat) : Device :=
  let d := d.set REF_PICKOUT_OFS.pickout_ofs v
  { d with ref := { d.ref with newPick := d.ref.newPick ++ [(sx 12 v, t + 1600000)] } }

/-- REF_PPSOUT_OFS_WRITE. -/
def execRefPpsoutOfsWrite (ofs : BitVec 24) (t : Nat) (s : State) : Host.Outcome State Fault Refusal :=
  s.act fun d => (d.at_ t).ppsOfsWrite ofs.toNat t

/-- REF_PICKOUT_OFS_WRITE. -/
def execRefPickoutOfsWrite (ofs : BitVec 12) (t : Nat) (s : State) : Host.Outcome State Fault Refusal :=
  s.act fun d => (d.at_ t).pickOfsWrite ofs.toNat t

/-- The offset of the edge that the second or boundary at `x` brings (R408), and the writes still to come after it: the last written
whose edge lies at least 1 ms after its write, else the one in force. -/
def offsetFor (cur : Int) (ws : List (Int × Nat)) (x : Nat) : Int × List (Int × Nat) :=
  let due (w : Int × Nat) : Bool := decide ((w.2 : Int) ≤ x + w.1)
  match ws.reverse.dropWhile (fun w => !due w) with
  | [] => (cur, ws)
  | w :: _ => (w.1, (ws.reverse.takeWhile fun w => !due w).reverse)

/-- The second or boundary whose edge falls at `t`: of the one at `x`, the one before and the one after, `period` cycles apart, one that
has had no pulse yet. A slew moves them by less than half a period between pulses. -/
def edgeOf (x period : Nat) (done : Option Nat) (cur : Int) (ws : List (Int × Nat)) (t : Nat) : Option Nat :=
  [x - period, x, x + period].find? fun b =>
    (t : Int) == b + (offsetFor cur ws b).1 && (match done with
      | none => true
      | some y => decide (y + period / 2 ≤ b))

/-- The second whose PPSOUT edge falls at `t`. -/
def Device.ppsEdge (d : Device) (t : Nat) : Option Nat :=
  d.tm.second.bind fun x => edgeOf x 1600000000 d.ref.ppsDone d.ref.ppsOfs d.ref.newPps t

/-- The boundary whose PICKOUT edge falls at `t`. -/
def Device.pickEdge (d : Device) (t : Nat) : Option Nat :=
  edgeOf d.tm.pickStart d.period d.ref.pickDone d.ref.pickOfs d.ref.newPick t

/-- The offset that applies from the edge of `x` on is in force. -/
def Device.takeOffset (d : Device) (pick : Bool) (x : Nat) : Device :=
  let r := d.ref
  if pick then
    let (o, ws) := offsetFor r.pickOfs r.newPick x
    { d with ref := { r with pickOfs := o, newPick := ws } }
  else
    let (o, ws) := offsetFor r.ppsOfs r.newPps x
    { d with ref := { r with ppsOfs := o, newPps := ws } }

/-- OUTPUT_OFFSET_TAKES_EFFECT, at the output edge at `t`. -/
def execOutputOffsetTakesEffect (pick : Bool) (t : Nat) (s : State) : Host.Outcome State Fault Refusal :=
  s.act fun d =>
    let d := d.at_ t
    match if pick then d.pickEdge t else d.ppsEdge t with
    | none => d
    | some x => d.takeOffset pick x

/-- OUTPUT_EDGE: a rising edge at `t`, a pick boundary plus pickout_ofs of PICKOUT, 64 cycles high, or a device second plus
ppsout_ofs of PPSOUT, 100 µs high. Each second and each boundary has one; one that falls into the running pulse is skipped (R408). -/
def execOutputEdge (pick : Bool) (t : Nat) (s : State) : Host.Outcome State Fault Refusal :=
  s.act fun d =>
    let d := d.at_ t
    let drives := if pick then d.flag REF_OUT.pickout_en && d.running else d.flag REF_OUT.ppsout_en && d.flag REF_STAT.second_valid
    match if pick then d.pickEdge t else d.ppsEdge t with
    | none => d
    | some x =>
      if !drives then d
      else
        let d := d.takeOffset pick x
        let r := d.ref
        if pick then
          let r := { r with pickDone := some x }
          { d with ref := if r.pickOut ∧ t < r.pickEnd then r else { r with pickOut := true, pickEnd := t + 64 } }
        else
          let r := { r with ppsDone := some x }
          { d with ref := if r.ppsOut ∧ t < r.ppsEnd then r else { r with ppsOut := true, ppsEnd := t + 160000 } }

/-- OUTPUT_PULSE_END: the high time has passed. -/
def execOutputPulseEnd (pick : Bool) (t : Nat) (s : State) : Host.Outcome State Fault Refusal :=
  s.act fun d =>
    let d := d.at_ t
    let r := d.ref
    if pick then (if t < r.pickEnd then d else { d with ref := { r with pickOut := false } })
    else if t < r.ppsEnd then d
    else { d with ref := { r with ppsOut := false } }

end Sys2Proof.Machine
end

