-- ==== Sys2Proof/Machine/Registers.lean ====
section
/-! DEFINITION. Register accesses by a matrix master (00 R5 to R9, 16 R452, R453, 19 R517 to R524): what each register reads as,
what a write does, 64-bit pairs and their latches. -/

namespace Sys2Proof.Machine

/-- The block instance whose fault registers `addr` is one of. -/
def blkAt (addr : Nat) : Option Blk := allBlks.find? fun b => decide (blkBase b + 0xF00 ≤ addr) && decide (addr < blkBase b + 0xF20)

/-- What a read of the register at `addr` returns: its word, or what the block computes for the read (09 R258, 08 R237, 17
R492). -/
def Device.readVal (d : Device) (addr : Nat) : W32 :=
  match descAt addr with
  | none => 0
  | some (r, i, k) => match r.id with
    | .GLB_ID => BitVec.ofNat 32 (ofBe ((fusedIdentity.drop (4 * k)).take 4))
    | .TRD_DDATA => BitVec.ofNat 32 ((d.engine i).load (d.get (TRD_DADDR.addr i)))
    | .ZCH_COEF_DATA =>
      BitVec.ofNat 32 (low 19 (coefOf (d.get ZCH_COEF_SEL.set_) (d.get ZCH_COEF_SEL.phase) (d.get ZCH_COEF_SEL.tap)))
    | _ => d.word addr

/-- The masters that have a request outstanding, as master `m` reads MTX_STAT (16 R467): its own read is one. -/
def Device.activeMasters (d : Device) (m : Nat) : Nat :=
  ((List.range 5).filter fun j => j == m || decide (0 < d.outstanding j)).foldl (fun n j => n + 2 ^ j) 0

/-- What master `m` reads at `addr`. -/
def Device.readAs (d : Device) (m addr : Nat) : W32 :=
  if addr = MTX_STAT.word.addr then BitVec.ofNat 32 (d.activeMasters m) else d.readVal addr

/-- Sets the read latch of master `m`. -/
def Device.setRlatch (d : Device) (m : Nat) (x : Option (Nat × W32)) : Device :=
  { d with rlatch := Sparse.put (fun _ => none) d.rlatch m x }

/-- Sets the write latch of master `m`. -/
def Device.setWlatch (d : Device) (m : Nat) (x : Option (Nat × W32)) : Device :=
  { d with wlatch := Sparse.put (fun _ => none) d.wlatch m x }

/-- A read by master `m` (R522): none is the default target's error response. -/
def Device.regRead (d : Device) (m addr : Nat) : Option W32 × Device :=
  match locate addr with
  | none => (none, d.defaultHit m addr false true)
  | some _ =>
    match descAt addr with
    | none => (some 0, d)
    | some (r, _, _) => match r.half with
      | .single => (some (d.readAs m addr), d)
      | .lo => (some (d.readVal addr), d.setRlatch m (some (addr + 4, d.readVal (addr + 4))))
      | .hi => match Sparse.get (fun _ => none) d.rlatch m with
        | some (a, v) => if a = addr then (some v, d.setRlatch m none) else (some (d.readVal addr), d)
        | none => (some (d.readVal addr), d)

/-- A register that a write changes. -/
def RegDesc.writable (r : RegDesc) : Bool := r.fields.any fun f => f.acc != .ro && f.acc != .roh

/-- The registers that a write acts on as their descriptions say, rather than by access codes alone. -/
def Reg.acts (r : Reg) : Bool :=
  ([.PCK_LOAD, .PCK_COMMIT, .PCK_SYNC, .PCK_WEAVE, .WRP_CNT_CLR, .WRP_FCNT_CLR, .LOM_CHK, .LOM_BB_CLR, .HRN_CLR, .BTN_CLR,
    .ZCH_CLR, .PWD_CLR, .TRD_CLR, .JRN_CLR, .CLO_CLR, .SPL_CLR, .DRM_CLR, .MTX_CLR, .SPL_QSEL, .JRN_CAP_CMD, .REF_STEP,
    .REF_COMP, .REF_PRIO, .REF_PPSOUT_OFS, .REF_PICKOUT_OFS, .SHT_CH_CTL, .SHT_CH_NEXT_LO, .SHT_CH_NEXT_HI, .HDL_PAIR_ERR,
    .HDL_DOORBELL, .HDL_CLEAN_LO, .HDL_CLEAN_HI, .HDL_CLEAN_LEN, .HDL_CLEAN_CTL, .WGE_START, .WGE_BOB_OFF, .WGE_DOM_SET, .FINJ,
    .FMASK] : List Reg).contains r

/-- The write of `v` to the register `r` at `addr` takes effect at `t`: by its access codes, or as its description says. `i` and
`k` are the block instance and the index. -/
def Device.applyWrite (d : Device) (m : Nat) (r : RegDesc) (i k addr : Nat) (v : W32) (t : Nat) : Device :=
  let n := v.toNat
  let plain (d : Device) : Device := d.setWord addr (applyAccess r.fields (d.hotAt addr) (d.word addr) v)
  let clear (f : Device) : Device := if bit n 0 then f else d
  if !r.id.acts then plain d
  else match r.id with
  | .PCK_LOAD => d.loadWrite n
  | .PCK_COMMIT => d.commitWrite n t
  | .PCK_SYNC => clear (d.syncRequest 1 t)
  | .PCK_WEAVE => d.weaveOp (n % 8)
  | .WRP_CNT_CLR => clear (d.wrpCntClr i)
  | .WRP_FCNT_CLR => clear (d.wrpFcntClr i)
  | .LOM_CHK => if bit n 31 then d.lomChkClear i else d
  | .LOM_BB_CLR => clear (d.lomBbClr i)
  | .HRN_CLR => clear (d.hrnClr i)
  | .BTN_CLR => clear d.btnClr
  | .ZCH_CLR => clear d.zchClr
  | .PWD_CLR => clear d.pwdClr
  | .TRD_CLR => clear (d.trdClr i)
  | .JRN_CLR => clear d.jrnClr
  | .CLO_CLR => clear (d.cloClr i)
  | .SPL_CLR => clear d.splClr
  | .DRM_CLR => clear (d.drmClr i)
  | .MTX_CLR => clear d.mtxClr
  | .SPL_QSEL => d.qsel (n % 8192)
  | .JRN_CAP_CMD =>
    match n % 4 with
    | 1 => d.capTrigger (bit n 2) t
    | 2 => d.capRead (bits n 4 4) (bit n 3)
    | 3 => d.releaseCapture (bits n 4 4)
    | _ => d
  | .REF_STEP => d.stepWrite n
  | .REF_COMP => d.compWrite k n
  | .REF_PRIO => (plain d).recheck k
  | .REF_PPSOUT_OFS => d.ppsOfsWrite n t
  | .REF_PICKOUT_OFS => d.pickOfsWrite n t
  | .SHT_CH_CTL => d.shtCtl m k n
  | .SHT_CH_NEXT_LO => if d.shtState k = 1 ∨ d.shtState k = 2 then d else plain d
  | .SHT_CH_NEXT_HI => if d.shtState k = 1 ∨ d.shtState k = 2 then d else plain d
  | .HDL_PAIR_ERR => clear (d.kick m t)
  | .HDL_DOORBELL => d.doorbell m n
  | .HDL_CLEAN_LO => if m < 2 then plain d else d
  | .HDL_CLEAN_HI => if m < 2 then plain d else d
  | .HDL_CLEAN_LEN => if m < 2 then plain d else d
  | .HDL_CLEAN_CTL => if m < 2 then (plain d).slotOp m k (n % 4) [] else d
  | .WGE_START => d.wgeStart k n
  | .WGE_BOB_OFF => d.bobOffWrite k n
  | .WGE_DOM_SET => (plain d).followCodes
  | .FINJ => match blkAt addr with
    | none => d
    | some b => d.finjWrite b n
  | .FMASK => match blkAt addr with
    | none => d
    | some b =>
      let mask := ((List.range 16).filter fun j => faultClass b j == 1 || faultClass b j == 2).foldl (fun a j => a + 2 ^ j) 0
      d.set ⟨addr, 0, 16⟩ (n % 2 ^ 16 &&& mask)
  | _ => plain d

/-- A write of `v` at `addr` by master `m` at `t` (R517 to R523): false is the default target's error response. -/
def Device.regWrite (d : Device) (m addr : Nat) (v : W32) (t : Nat) : Bool × Device :=
  match locate addr with
  | none => (false, d.defaultHit m addr true true)
  | some _ =>
    match descAt addr with
    | none => (true, d)
    | some (r, i, k) =>
      if !r.writable then (true, d)
      else match r.half with
        | .single => (true, d.applyWrite m r i k addr v t)
        | .lo => (true, d.setWlatch m (some (addr, v)))
        | .hi => match Sparse.get (fun _ => none) d.wlatch m, descAt (addr - 4) with
          | some (a, lo), some (q, _, _) =>
            if a + 4 = addr then (true, ((d.setWlatch m none).applyWrite m q i k a lo t).applyWrite m r i k addr v t)
            else (true, d.applyWrite m r i k addr v t)
          | _, _ => (true, d.applyWrite m r i k addr v t)

/-- The half of a pair that `addr` is. -/
def halfAt (addr : Nat) : Half := match descAt addr with
  | none => .single
  | some (r, _, _) => r.half

/-- REGISTER_WRITE. A commit of firmware's own may follow one that ends the pending commit (R526). -/
def execRegisterWrite (m : Master) (addr value : W32) (t : Nat) (s : State) : Host.Outcome State Fault Refusal :=
  s.actReg m.val fun d =>
    let d := ((d.at_ t).regWrite m.val addr.toNat value t).2
    if addr.toNat = PCK_COMMIT.word.addr then d.firmwareTurn else d

/-- PAIR_LO_READ (R8, R522). -/
def execPairLoRead (m : Master) (addr : W32) (s : State) : Host.Outcome State Fault Refusal :=
  s.actReg m.val fun d => if halfAt addr.toNat = .lo then (d.regRead m.val addr.toNat).2 else d

/-- PAIR_LO_WRITE (R9, R523). -/
def execPairLoWrite (m : Master) (addr value : W32) (s : State) : Host.Outcome State Fault Refusal :=
  s.actReg m.val fun d => if halfAt addr.toNat = .lo then (d.regWrite m.val addr.toNat value d.tm.now).2 else d

/-- PAIR_HI_WRITE (R9, R523). -/
def execPairHiWrite (m : Master) (addr value : W32) (s : State) : Host.Outcome State Fault Refusal :=
  s.actReg m.val fun d => if halfAt addr.toNat = .hi then (d.regWrite m.val addr.toNat value d.tm.now).2 else d

end Sys2Proof.Machine
end

