-- ==== Sys2Proof/Machine/Rosesque.lean ====
section
/-! DEFINITION. The Rosesque messages (15): what a heddle port receives, the commands, bulk writes and reads, image pieces (18
R504 to R508), and notices. -/

namespace Sys2Proof.Machine

/-! ### Message bodies -/

/-- A COMMAND body meets the layout of its opcode (R427): none for an unknown opcode. -/
def bodyFits (op : Nat) (n : Nat) : Option Bool :=
  match op with
  | 0x01 => some (n == 0)
  | 0x02 => some (n % 4 == 0 && decide (1 ≤ n / 4) && decide (n / 4 ≤ 64))
  | 0x03 => some (n % 8 == 0 && decide (1 ≤ n / 8) && decide (n / 8 ≤ 64))
  | 0x10 => some (n == 12)
  | 0x20 => some (n == 40)
  | 0x21 => some (n == 6)
  | 0x30 => some (n == 13)
  | 0x31 => some (n == 16)
  | 0x32 => some (n == 4)
  | 0x40 => some (n == 48)
  | 0x41 => some (n == 48)
  | 0x42 => some (n == 0)
  | 0x43 => some (n == 33)
  | 0x44 => some (n == 1)
  | 0x50 => some (n == 1)
  | 0x51 => some (n == 0)
  | _ => none

/-- A BULK body from the host meets R432: MEMORY or IMAGE, 1 to 8,192 bytes, all of them there, no flag and no reserved bit
set. -/
def bulkFits (body : List Byte) : Bool :=
  (beAt body 0 1 == 1 || beAt body 0 1 == 2) && beAt body 1 1 == 0 && decide (1 ≤ beAt body 2 2) && decide (beAt body 2 2 ≤ 8192) &&
    beAt body 10 14 == 0 && body.length == 24 + beAt body 2 2

/-- A host ACK's body meets R441. -/
def ackFits (body : List Byte) : Bool := decide (beAt body 8 1 ≤ 16) && body.length == 9 + 8 * beAt body 8 1

/-- An accepted message that no command of the protocol takes up is answered at once: KEY where the key does not serve, else
OPCODE or FORMAT (R420, R431, R550). The code of a BULK message and of a host ACK is 0 (R414). -/
def Device.misfit (d : Device) (h : HostHdr) (kind code : Nat) (body : List Byte) : Option Device :=
  let known := d.provisioned && !h.factory
  match kind with
  | 1 =>
    let open_ := code == 0x01 || code == 0x40 || code == 0x51
    match bodyFits code body.length with
    | none => some (d.respond h (if known then 3 else 10) [])
    | some true => if code = 0x50 ∧ 1 < beAt body 0 1 then some (d.respond h (if known then 2 else 10) []) else none
    | some false => some (d.respond h (if d.wrongKey h open_ (code == 0x42) then 10 else 2) [])
  | 4 => if code = 0 ∧ bulkFits body then none else some (d.ack h (if known then 2 else 10))
  | _ => if code = 0 ∧ ackFits body then none else some d

/-! ### Receiving (R412 to R417, R425) -/

/-- A message that has passed the filter: `h` is what it carries. Tag, form, session, window and queue are checked in that order
(R415 to R417, R425). -/
def Device.rsqMessage (d : Device) (m : Fin 2) (src : Endpoint) (pay : List Byte) : Device :=
  if pay.length < 48 then d.stat 2
  else
    let sel := beAt pay 28 1
    let msg := pay.take (pay.length - 16)
    let key := if sel = 1 then some factoryKeyBytes else if sel = 0 then d.rsq.cfg.key else none
    match key with
    | none => d.stat 1
    | some k =>
      if (hmac k msg).take 16 != pay.drop (pay.length - 16) then d.stat 1
      else
        let kind := beAt pay 3 1
        let code := beAt pay 4 2
        let session := beAt pay 8 4
        let body := (pay.drop 32).take (pay.length - 48)
        let h : HostHdr := { port := m, src := src, seq := BitVec.ofNat 64 (beAt pay 12 8), factory := sel == 1 }
        if beAt pay 0 2 ≠ 0x5253 ∨ beAt pay 2 1 ≠ 1 ∨ (kind ≠ 1 ∧ kind ≠ 4 ∧ kind ≠ 5) ∨ beAt pay 6 2 ≠ body.length ∨
            h.seq = 0 then d.stat 2
        else if session ≠ d.rsq.cfg.session ∧ !(kind = 1 ∧ code = 1 ∧ session = 0) then
          (d.stat 3).turnAway h kind 4 (be 4 d.rsq.cfg.session)
        else match d.verdict h.seq.toNat with
          | .fresh =>
            let waiting := (d.rsq.waiting.filter fun w => w.kind != 5).length
            if kind ≠ 5 ∧ 64 ≤ waiting then (d.stat 5).turnAway h kind 9 []
            else
              let d := d.acceptSeq h.seq.toNat
              match d.misfit h kind code body with
              | some d => d
              | none =>
                let w : Waiting := { hdr := h, kind := kind, code := code, body := body, key := k, net := d.rsq.cfg.net m.val }
                { d with rsq := { d.rsq with waiting := d.rsq.waiting ++ [w] } }
          | _ => d.repeated h kind

/-- HEDDLE_RX_FRAME: `frame` runs to its last byte before the FCS, and `fcsOk` says that the FCS is valid. -/
def execHeddleRxFrame (m : Fin 2) (fcsOk : Bool) (frame : List Byte) (s : State) : Host.Outcome State Fault Refusal :=
  s.act fun d =>
    if d.boot.phase ≠ .running ∨ !d.rsq.hdrUp then d
    else
      let net := d.rsq.cfg.net m.val
      match if fcsOk then parseUdp frame else none with
      | none => d.stat 0
      | some (u, pay) =>
        if u.dmac ≠ net.mac ∨ u.dip ≠ net.ip ∨ u.dport ≠ net.udp then d.stat 0
        else if d.ctlHeld then d
        else
          let src : Endpoint :=
            { mac := BitVec.ofNat 48 u.smac, ip := BitVec.ofNat 32 u.sip, udp := BitVec.ofNat 16 u.sport,
              tag := u.tag.map (BitVec.ofNat 16) }
          d.rsqMessage m src pay

/-! ### Commands on the device (R427) -/

/-- PING. -/
def execPing (h : HostHdr) (s : State) : Host.Outcome State Fault Refusal :=
  s.act fun d => d.command h 0x01 [] true false fun d =>
    d.respond h 0 (fusedIdentity ++ be 4 d.rsq.cfg.session ++ be 8 d.rsq.h ++ be 4 (d.get HDL_FW_VER.version) ++
      be 1 (if d.provisioned then 1 else 0) ++ be 7 0)

/-- STATS. -/
def execStats (h : HostHdr) (s : State) : Host.Outcome State Fault Refusal :=
  s.act fun d => d.command h 0x51 [] true false fun d =>
    d.respond h 0 ((List.range 9).flatMap fun n => be 4 (Sparse.get (fun _ => 0) d.rsq.counters n))

/-- Reads a list of registers as the host bridge; none when one goes to the default target. -/
def Device.readList (d : Device) : List W32 → Option (List Byte) × Device
  | [] => (some [], d)
  | a :: as =>
    match d.regRead 3 a.toNat with
    | (none, d) => (none, d)
    | (some v, d) => match d.newCycle.readList as with
      | (none, d) => (none, d)
      | (some bs, d) => (some (be 4 v.toNat ++ bs), d)

/-- REG_READ (19 R520). -/
def execRegRead (h : HostHdr) (addrs : List W32) (s : State) : Host.Outcome State Fault Refusal :=
  s.act fun d => d.command h 0x02 (addrs.flatMap fun a => be 4 a.toNat) false false fun d =>
    if addrs.isEmpty ∨ 64 < addrs.length then d.respond h 2 []
    else match (d.request 3 addrs.length).readList addrs with
      | (none, d) => d.respond h 6 []
      | (some bs, d) => d.respond h 0 bs

/-- Performs register writes in order until one goes to the default target; how many were done (19 R520, R525). -/
def Device.writeList (d : Device) (t : Nat) : List (W32 × W32) → Nat × Device
  | [] => (0, d)
  | (a, v) :: ps =>
    match d.regWrite 3 a.toNat v t with
    | (false, d) => (0, d)
    | (true, d) => let (n, d) := d.newCycle.writeList t ps; (n + 1, d)

/-- REG_WRITE at `t`. -/
def execRegWrite (h : HostHdr) (pairs : List (W32 × W32)) (t : Nat) (s : State) : Host.Outcome State Fault Refusal :=
  s.act fun d => (d.at_ t).command h 0x03 (pairs.flatMap fun p => be 4 p.1.toNat ++ be 4 p.2.toNat) false false fun d =>
    if pairs.isEmpty ∨ 64 < pairs.length then d.respond h 2 []
    else
      let (n, d) := (d.request 3 pairs.length).writeList t pairs
      d.respond h (if n = pairs.length then 0 else 6) (be 2 n)

/-- The READ_DATA chunks of a MEM_READ that arrived under the key and the addresses `under`. -/
def chunksOf (h : HostHdr) (under : List Byte × Net) (addr len chunk : Nat) : List HeldChunk :=
  (List.range ((len + chunk - 1) / chunk)).map fun i =>
    { hdr := h, key := under.1, net := under.2, addr := addr + i * chunk, len := min chunk (len - i * chunk), last := decide (len ≤ (i + 1) * chunk),
      counted := false }

/-- MEM_READ (R435): chunks that meet a busy clean slot are held and counted (16 R458). -/
def execMemRead (h : HostHdr) (addr : BitVec 48) (len chunk : Nat) (s : State) : Host.Outcome State Fault Refusal :=
  s.act fun d => d.command h 0x10 (be 6 addr.toNat ++ be 4 len ++ be 2 chunk) false false fun d =>
    if len = 0 ∨ 65536 < len ∨ chunk < 64 ∨ 8192 < chunk then d.respond h 2 []
    else if (d.decodes false addr.toNat len).isNone then (d.missed 3 false addr.toNat false).respond h 6 []
    else
      let cs := chunksOf h (d.arrivedUnder h) addr.toNat len chunk
      let d := d.respond h 0 (be 2 cs.length)
      { d with rsq := { d.rsq with held := d.rsq.held ++ cs } }.holdChunks.sendChunks

/-! ### Settings (R428) -/

/-- SET_NET: its own response leaves from the old addresses. -/
def execSetNet (h : HostHdr) (port : Byte) (mac : BitVec 48) (ip : W32) (udp : BitVec 16) (s : State) :
    Host.Outcome State Fault Refusal :=
  s.act fun d => d.command h 0x30 (be 1 port.toNat ++ be 6 mac.toNat ++ be 4 ip.toNat ++ be 2 udp.toNat) false false fun d =>
    if 1 < port.toNat then d.respond h 2 []
    else
      (d.respond h 0 []).change h (.net port.toNat { mac := mac.toNat, ip := ip.toNat, udp := udp.toNat })

/-- The tag word of SET_HOST: 0 for none. -/
def tagWord (dst : Endpoint) : Nat := match dst.tag with
  | none => 0
  | some t => t.toNat

/-- SET_HOST: the first destination releases the notices that wait for one (R445); notices leave a primary port whose link is
down, and return to another port's only after an acknowledgement on it (R444). -/
def execSetHost (h : HostHdr) (port primary : Byte) (dst : Endpoint) (s : State) : Host.Outcome State Fault Refusal :=
  let body := be 1 port.toNat ++ be 1 primary.toNat ++ be 6 dst.mac.toNat ++ be 4 dst.ip.toNat ++ be 2 dst.udp.toNat ++
    be 2 (tagWord dst)
  s.act fun d => d.command h 0x31 body false false fun d =>
    if 1 < port.toNat ∨ 1 < primary.toNat then d.respond h 2 []
    else
      let x : Dest := { port := port.toNat, ep := { dst with tag := if tagWord dst = 0 then none else dst.tag } }
      let old := d.rsq.cfg.primary.map Dest.port
      let d := (d.respond h 0 []).change h (.host (primary == 1) x)
      let acked := d.rsq.ackSinceUp && (primary != 1 || old == some port.toNat)
      { d with rsq := { d.rsq with released := true, ackSinceUp := acked } }.leavePrimary d.tm.now

/-- NOTICE_CFG: the tokens of the time before it come at the rate that was in force (R440). -/
def execNoticeCfg (h : HostHdr) (rate rto : Nat) (s : State) : Host.Outcome State Fault Refusal :=
  s.act fun d => d.command h 0x32 (be 2 rate ++ be 2 rto) false false fun d =>
    if rate = 0 ∨ 10000 < rate ∨ rto < 10 ∨ 10000 < rto then d.respond h 2 []
    else
      let d := d.respond h 0 []
      { d with rsq := d.rsq.refill d.tm.now }.change h (.notices rate rto)

/-! ### Keys (R420 to R423) -/

/-- The IEEE 1149.1 port is locked or unlocked; an instruction that a locked port does not offer becomes BYPASS (17 R485). -/
def Device.lockTap (d : Device) (locked : Bool) : Device :=
  let tap := if locked then d.sup.tap.filter fun (x : Nat × Bool) => x.2 else d.sup.tap
  { d.put GLB_TEST.jtag_locked locked with sup := { d.sup with tap := tap } }

/-- The new key that a body of R421 carries under key `k`; none when its check value does not match. -/
def unwrapKey (k : List Byte) (seq : BitVec 64) (body : List Byte) : Option (List Byte) :=
  let mask := hmac k ([0x52, 0x53, 0x51, 0x4B] ++ be 8 seq.toNat)
  let new := ((body.take 32).zip mask).map fun p => p.1 ^^^ p.2
  if (hmac new [0x52, 0x53, 0x51, 0x43]).take 16 = body.drop 32 then some new else none

/-- Installs the key that `body` carries and answers under it. -/
def Device.installKey (d : Device) (h : HostHdr) (body : List Byte) : Device :=
  if body.length ≠ 48 then d.respond h 2 []
  else match unwrapKey (d.arrivedUnder h).1 h.seq body with
    | none => d.respond h 12 []
    | some k => ((d.answer k (d.arrivedUnder h).2 { h with factory := false } 2 0 [] true).change h (.key k)).lockTap true

/-- PROVISION: under the factory key while unprovisioned; while testen is 1 the device answers KEY (17 R483). -/
def execProvision (h : HostHdr) (body : List Byte) (s : State) : Host.Outcome State Fault Refusal :=
  s.act fun d => d.command h 0x40 body true false fun d =>
    if d.provisioned ∨ d.testen then d.respond h 10 [] else d.installKey h body

/-- SET_KEY: under the installation key. -/
def execSetKey (h : HostHdr) (body : List Byte) (s : State) : Host.Outcome State Fault Refusal :=
  s.act fun d => d.command h 0x41 body false false fun d => d.installKey h body

/-- DEPROVISION at `t`: under the factory key, within 600 s of a cold start. -/
def execDeprovision (h : HostHdr) (t : Nat) (s : State) : Host.Outcome State Fault Refusal :=
  s.act fun d => (d.at_ t).command h 0x42 [] false true fun d =>
    if !d.provisioned ∨ d.rsq.coldAt + 960000000000 < t then d.respond h 10 []
    else ((d.respond h 0 []).change h .deprovision).lockTap false

/-- Draft verification key slot `k` is named by the woven draft, or by a staging draft that is CHECKED or ARMED (R423). -/
def Device.keyInUse (d : Device) (k : Nat) : Bool :=
  let named (m : Sparse Byte) : Bool := (Sparse.get memDflt m 3).toNat % 4 == k
  (d.woven && named d.drafts.woven) || ((d.stage == 3 || d.stage == 5) && named d.drafts.staging)

/-- A draft-key command: `key` is the slot's new content. -/
def Device.draftKey (d : Device) (h : HostHdr) (slot : Nat) (key : List Byte) : Device :=
  if 3 < slot then d.respond h 2 []
  else if d.keyInUse slot then d.respond h 11 []
  else (d.respond h 0 []).change h (.draftKey slot key)

/-- SET_DRAFT_KEY. -/
def execSetDraftKey (h : HostHdr) (slot : Byte) (key : List Byte) (s : State) : Host.Outcome State Fault Refusal :=
  s.act fun d => d.command h 0x43 (be 1 slot.toNat ++ key) false false fun d =>
    if key.length ≠ 32 then d.respond h 2 [] else d.draftKey h slot.toNat key

/-- CLEAR_DRAFT_KEY. -/
def execClearDraftKey (h : HostHdr) (slot : Byte) (s : State) : Host.Outcome State Fault Refusal :=
  s.act fun d => d.command h 0x44 (be 1 slot.toNat) false false fun d => d.draftKey h slot.toNat []

/-- SETTINGS_STORED: the change of the settings command with seq `ref`, and no other that still waits, is in flash. Changes are
stored in the order of their commands (log 84). -/
def execSettingsStored (ref : BitVec 64) (s : State) : Host.Outcome State Fault Refusal :=
  s.act fun d =>
    match d.rsq.dirty with
    | [] => d
    | (seq, x) :: rest =>
      if d.boot.phase ≠ .running ∨ d.svcHeld ∨ seq ≠ ref.toNat then d
      else { d with rsq := { d.rsq with dirty := rest }.save d.boot.layout (x.apply d.rsq.stored) }.done ref.toNat 0

/-! ### Bulk writes (R432 to R434) -/

/-- The bulk body of a host's write. -/
def bulkBody (target addr : Nat) (data : List Byte) : List Byte :=
  be 1 target ++ be 1 0 ++ be 2 data.length ++ be 6 addr ++ be 14 0 ++ data

/-- The status of R431 for a write. -/
def WrStat.code : WrStat → Nat
  | .ok => 0
  | .address => 6
  | .readOnly => 7
  | .refused => 8

/-- A BULK write, answered by an ACK: KEY without the installation key (R420, R550). -/
def Device.bulk (d : Device) (h : HostHdr) (body : List Byte) (f : Device → Nat × Device) : Device :=
  d.execute h 4 0 body fun d =>
    if !d.provisioned ∨ h.factory then d.ack h 10
    else
      let (n, d) := f d
      d.ack h n

/-- MEMORY_WRITE. -/
def execMemoryWrite (h : HostHdr) (addr : BitVec 48) (data : List Byte) (s : State) : Host.Outcome State Fault Refusal :=
  s.act fun d => d.bulk h (bulkBody 1 addr.toNat data) fun d =>
    if data.isEmpty ∨ 8192 < data.length then (2, d)
    else
      let (st, d) := (d.request 3 (bursts addr.toNat data.length)).winWrite 3 false addr.toNat data
      (st.code, d)

/-- Piece buffer `k` (R434). -/
def Device.pieceBuf (d : Device) (k : Nat) : PieceBuf := d.rsq.pieces.getD k { piece := none, bytes := [], written := [] }

/-- Sets piece buffer `k` of the four. -/
def Device.setPieceBuf (d : Device) (k : Nat) (b : PieceBuf) : Device :=
  { d with rsq := { d.rsq with pieces := (List.range 4).map fun j => if j = k then b else d.pieceBuf j } }

/-- IMAGE_WRITE: the address is 65,536 × piece + offset; a buffer that holds another piece is cleared first. -/
def execImageWrite (h : HostHdr) (addr : BitVec 48) (data : List Byte) (s : State) : Host.Outcome State Fault Refusal :=
  s.act fun d => d.bulk h (bulkBody 2 addr.toNat data) fun d =>
    let p := addr.toNat / 65536
    let off := addr.toNat % 65536
    if data.isEmpty ∨ 8192 < data.length ∨ 65536 < off + data.length ∨ 256 ≤ p then (2, d)
    else
      let b := d.pieceBuf (p % 4)
      let b : PieceBuf := if b.piece = some p then b else { piece := some p, bytes := [], written := [] }
      (0, d.setPieceBuf (p % 4)
        { b with bytes := Sparse.putAll memDflt b.bytes off data, written := addRange b.written off (off + data.length) })

/-! ### Image pieces (18 R506 to R508) -/

/-- The length of piece `p` of an image of `n` bytes. -/
def pieceLen (n p : Nat) : Nat := min 65536 (n - 65536 * p)

/-- The bytes of stored piece `p`. -/
def Boot.piece (x : Boot) (p : Nat) : List Byte :=
  imgBytes (x.bankByte 2) (65536 * p) (pieceLen (imgN (x.bankByte 2) 8 4) p)

/-- Erases `n` bytes of flash from `a`. -/
def Boot.erase (x : Boot) (a n : Nat) : Boot :=
  { x with flash := Sparse.keep (fun k => !(decide (a ≤ k) && decide (k < a + n))) x.flash }

/-- A new image: the staging bank, the bitmap and any ACTIVATE state are erased; pieces still to be programmed are not. -/
def Device.newImage (d : Device) : Device :=
  let x := d.boot
  let d := { d with boot := { x.erase (flashBank 2) 0x1000000 with stored := [], sha0 := [], delivered := x.delivered.filter fun b => b != 2 } }
  let d := if d.boot.record.state = 1 ∨ d.boot.record.vStag ≠ 0 then d.bootWrite fun r => { r with state := 0, vStag := 0 } else d
  let jobs := d.rsq.programming
  jobs.foldl (fun (d : Device) j => d.done j.2.2 13) { d with rsq := { d.rsq with programming := [] } }

/-- PIECE_COMMIT of a piece whose buffer holds what it says: it is programmed from here on (R434). `fresh` begins a new image. -/
def Device.programPiece (d : Device) (h : HostHdr) (p : Nat) (bs : List Byte) (fresh : Bool) : Device :=
  let d := d.setPieceBuf (p % 4) { piece := none, bytes := [], written := [] }
  let d := if fresh then d.newImage else d
  let d := { d with rsq := { d.rsq with programming := d.rsq.programming ++ [(p, bs, h.seq.toNat)] } }
  d.respond h 1 []

/-- PIECE_COMMIT (R434, R506, R507). -/
def Device.pieceCommit (d : Device) (h : HostHdr) (p len : Nat) (sha : List Byte) : Device :=
  let x := d.boot
  let total := imgN (x.bankByte 2) 8 4
  let b := d.pieceBuf (p % 4)
  let bs := Sparse.getAll memDflt b.bytes 0 len
  let good := b.piece == some p && covers b.written 0 len && sha256 bs == sha
  if len = 0 ∨ 65536 < len ∨ sha.length ≠ 32 then d.respond h 2 []
  else if p = 0 then
    if x.stored.contains 0 ∧ x.sha0 = sha then d.respond h 0 []
    else if !good then (d.setPieceBuf 0 { piece := none, bytes := [], written := [] }).respond h 12 []
    else if !manifestOk (fun k => bs.getD k 0xFF) then d.respond h 2 []
    else d.programPiece h 0 bs true
  else if !x.stored.contains 0 then d.respond h 8 []
  else if x.pieceTotal ≤ p ∨ len ≠ pieceLen total p then d.respond h 2 []
  else if x.stored.contains p then d.respond h (if sha256 (x.piece p) = sha then 0 else 8) []
  else if !good then (d.setPieceBuf (p % 4) { piece := none, bytes := [], written := [] }).respond h 12 []
  else d.programPiece h p bs false

/-- PIECE_COMMIT. -/
def execPieceCommit (h : HostHdr) (piece : W32) (len : Nat) (sha : List Byte) (s : State) : Host.Outcome State Fault Refusal :=
  s.act fun d => d.command h 0x20 (be 4 piece.toNat ++ be 4 len ++ sha) false false fun d => d.pieceCommit h piece.toNat len sha

/-- The staging is complete: its checks decide (R508). -/
def Device.checkStaging (d : Device) : Device :=
  let x := d.boot
  let f := x.bankByte 2
  if imageOk f then
    (d.bootWrite fun r => { r with state := 1, vStag := imgN f 4 4, warmOk := imgN f 17 1 % 2 }).update 2 (imgN f 4 4) (imgN f 12 2)
  else ({ d with boot := { x with stored := [], sha0 := [] } }).update 3 (imgN f 4 4) (imgN f 12 2)

/-- PIECE_PROGRAM_DONE: the oldest piece in programming is stored, or the flash could not be written. DEDUCED (log 94):
STAGING_RESTARTED follows the programming of piece 0, whose count of pieces it gives. -/
def execPieceProgramDone (ok : Bool) (s : State) : Host.Outcome State Fault Refusal :=
  s.act fun d =>
    match d.rsq.programming with
    | [] => d
    | (p, bs, seq) :: rest =>
      if d.svcHeld then d else
      let d := { d with rsq := { d.rsq with programming := rest } }
      let x := d.boot.erase (flashBank 2 + 65536 * p) 65536
      let restarted (d : Device) : Device :=
        if p = 0 then d.update 1 (ofBe ((bs.drop 4).take 4)) (ofBe ((bs.drop 12).take 2)) else d
      if !ok then restarted ({ d with boot := x }.done seq 13)
      else
        let x := { x with
          flash := Sparse.putAll (fun _ => (0xFF : Byte)) x.flash (flashBank 2 + 65536 * p) bs
          stored := if x.stored.contains p then x.stored else p :: x.stored
          sha0 := if p = 0 then sha256 bs else x.sha0 }
        let d := restarted ({ d with boot := x }.done seq 0)
        if x.stored.length = x.pieceTotal then d.checkStaging else d

/-- PIECE_MAP: bit 7 of byte 0 is the first piece. -/
def execPieceMap (h : HostHdr) (first : W32) (count : Nat) (s : State) : Host.Outcome State Fault Refusal :=
  s.act fun d => d.command h 0x21 (be 4 first.toNat ++ be 2 count) false false fun d =>
    if count = 0 ∨ 4096 < count then d.respond h 2 []
    else
      let on (i : Nat) : Nat := if i < count ∧ d.boot.stored.contains (first.toNat + i) then 1 else 0
      d.respond h 0 ((List.range ((count + 7) / 8)).map fun j =>
        BitVec.ofNat 8 ((List.range 8).foldl (fun a b => 2 * a + on (8 * j + b)) 0))

/-! ### Notices (R436 to R446) -/

/-- Notices may be sent: the firmware runs, the device is provisioned, a destination has been set (R420, R445). -/
def Device.noticesFlow (d : Device) : Bool := d.fwUp && d.provisioned && d.rsq.released && d.noticeDest.isSome

/-- NOTICE_SEND at `t`: the first notice not yet sent. -/
def execNoticeSend (t : Nat) (s : State) : Host.Outcome State Fault Refusal :=
  s.act fun d =>
    let d := d.at_ t
    let d := { d with rsq := d.rsq.refill t }
    match d.rsq.queue.find? fun n => !n.sent with
    | none => d
    | some n =>
      let fatal := n.severity == 3
      if !d.noticesFlow ∨ 256 ≤ (d.rsq.queue.filter fun n => n.sent).length ∨ (!fatal ∧ d.rsq.tokens < 1600000000) then d
      else
        let n := { n with sent := true, timeout := d.rsq.cfg.rto, expiries := 0, sentAt := t }
        let d := { d with rsq := { d.rsq with tokens := if fatal then d.rsq.tokens else d.rsq.tokens - 1600000000 } }
        ((d.setNotice n).emitNotice n).stat 6

/-- NOTICE_TIMEOUT at `t` (R441); the fourth expiry in a row moves the notices to the alternate destination (R444). -/
def execNoticeTimeout (nseq : Nat) (t : Nat) (s : State) : Host.Outcome State Fault Refusal :=
  s.act fun d =>
    let d := d.at_ t
    match d.rsq.queue.find? fun n => n.nseq == nseq && n.sent with
    | none => d
    | some n =>
      if !d.noticesFlow ∨ t < n.sentAt + n.timeout * 1600000 then d
      else
        let rto := d.rsq.cfg.rto
        let n := { n with expiries := n.expiries + 1, timeout := min (2 * n.timeout) (64 * rto), sentAt := t }
        let d := d.setNotice n
        let away := decide (4 ≤ n.expiries) && !d.rsq.onAlternate && d.rsq.cfg.primary.isSome && d.rsq.cfg.alternate.isSome
        if away then d.toAlternate t else (d.emitNotice n).stat 7

/-- HOST_ACK (R441): the notices it names leave the queue, those not yet sent stay. A host ACK without the installation key is
ignored. -/
def execHostAck (h : HostHdr) (upTo : BitVec 64) (also : List (BitVec 64)) (s : State) : Host.Outcome State Fault Refusal :=
  let body := be 8 upTo.toNat ++ be 1 also.length ++ also.flatMap fun n => be 8 n.toNat
  s.act fun d => d.execute h 5 0 body fun d =>
    if !d.provisioned ∨ h.factory ∨ 16 < also.length then d
    else
      let named (n : Notice) : Bool := n.sent && (decide (n.nseq ≤ upTo.toNat) || also.any fun x => x.toNat == n.nseq)
      let r := d.rsq
      let onPrimary : Bool := match r.cfg.primary with
        | some p => p.port == h.port.val
        | none => false
      { d with rsq := { r with queue := r.queue.filter fun n => !named n, ackSinceUp := r.ackSinceUp || onPrimary } }.settleLost

/-- NOTICE_PRIMARY_RETURN at `t`: the primary port's link has been up for 10 s and an acknowledgement has arrived on it. -/
def execNoticePrimaryReturn (t : Nat) (s : State) : Host.Outcome State Fault Refusal :=
  s.act fun d =>
    let d := d.at_ t
    let r := d.rsq
    match r.cfg.primary with
    | none => d
    | some p =>
      let up := if p.port = 0 then r.linkUp0 else r.linkUp1
      let since := if p.port = 0 then r.linkAt0 else r.linkAt1
      if !r.onAlternate ∨ !d.fwUp ∨ !up ∨ t < since + 16000000000 ∨ !r.ackSinceUp then d
      else { d with rsq := { r with onAlternate := false } }.resendNotices t

/-- HEDDLE_LINK_CHANGE at `t`: a LINK notice (R438); notices leave a primary port whose link goes down (R444). -/
def execHeddleLinkChange (m : Fin 2) (up : Bool) (t : Nat) (s : State) : Host.Outcome State Fault Refusal :=
  s.act fun d =>
    let d := d.at_ t
    let r := d.rsq
    let r := if m.val = 0 then { r with linkUp0 := up, linkAt0 := t } else { r with linkUp1 := up, linkAt1 := t }
    let primary : Bool := match r.cfg.primary with
      | some p => p.port == m.val
      | none => false
    let d := { d with rsq := { r with ackSinceUp := r.ackSinceUp && !primary } }
    if !d.fwUp then d
    else
      (d.notice 0x12 (Config.severity 0x12 0).val 0 []).leavePrimary t

end Sys2Proof.Machine
end

