-- ==== Sys2Proof/Machine/Dispatch.lean ====
section
/-! DEFINITION. One arm per command, each a direct call of its meaning. -/

namespace Sys2Proof.Machine

/-- The command's effect on everything but the queue. -/
def exec (i : Instr) (s : State) : Host.Outcome State Fault Refusal :=
  match i with
  | .powerOnReset => Sys2Proof.Machine.execPowerOnReset s
  | .pwrokFall => Sys2Proof.Machine.execPwrokFall s
  | .coldStart t testen => Sys2Proof.Machine.execColdStart t testen s
  | .activationCopyDone => Sys2Proof.Machine.execActivationCopyDone s
  | .firmwareStart t => Sys2Proof.Machine.execFirmwareStart t s
  | .startWatchdogExpiry => Sys2Proof.Machine.execStartWatchdogExpiry s
  | .dramTrainingDone reports => Sys2Proof.Machine.execDramTrainingDone reports s
  | .resetWarm h t => Sys2Proof.Machine.execResetWarm h t s
  | .resetCold h t => Sys2Proof.Machine.execResetCold h t s
  | .quiesceComplete => Sys2Proof.Machine.execQuiesceComplete s
  | .quiesceTimeout => Sys2Proof.Machine.execQuiesceTimeout s
  | .selfRefreshExit ch r => Sys2Proof.Machine.execSelfRefreshExit ch r s
  | .resume pick => Sys2Proof.Machine.execResume pick s
  | .pickBoundary => Sys2Proof.Machine.execPickBoundary s
  | .weightSetComplete => Sys2Proof.Machine.execWeightSetComplete s
  | .passEnd slot => Sys2Proof.Machine.execPassEnd slot s
  | .spillDrainEntry loom => Sys2Proof.Machine.execSpillDrainEntry loom s
  | .shedDumpStart loom => Sys2Proof.Machine.execShedDumpStart loom s
  | .shedDumpEnd loom => Sys2Proof.Machine.execShedDumpEnd loom s
  | .periodEnd ent => Sys2Proof.Machine.execPeriodEnd ent s
  | .matrixReadoutEnd ent buf => Sys2Proof.Machine.execMatrixReadoutEnd ent buf s
  | .loomContainedFault loom src detail => Sys2Proof.Machine.execLoomContainedFault loom src detail s
  | .replayPickStaged => Sys2Proof.Machine.execReplayPickStaged s
  | .replayEnd => Sys2Proof.Machine.execReplayEnd s
  | .statePrefetchComplete unit ok => Sys2Proof.Machine.execStatePrefetchComplete unit ok s
  | .stateWritebackComplete unit => Sys2Proof.Machine.execStateWritebackComplete unit s
  | .commitStoppedApply t => Sys2Proof.Machine.execCommitStoppedApply t s
  | .commitRequest m t => Sys2Proof.Machine.execCommitRequest m t s
  | .commitAtRequest m t => Sys2Proof.Machine.execCommitAtRequest m t s
  | .commitCancel m => Sys2Proof.Machine.execCommitCancel m s
  | .loadArm m => Sys2Proof.Machine.execLoadArm m s
  | .loadCancel m alsoArm => Sys2Proof.Machine.execLoadCancel m alsoArm s
  | .deviceSecond t => Sys2Proof.Machine.execDeviceSecond t s
  | .syncInEdge t high low => Sys2Proof.Machine.execSyncInEdge t high low s
  | .syncGo m t => Sys2Proof.Machine.execSyncGo m t s
  | .trigInEdge t high low => Sys2Proof.Machine.execTrigInEdge t high low s
  | .trigAckEnd t => Sys2Proof.Machine.execTrigAckEnd t s
  | .captureTrigger m useAt t => Sys2Proof.Machine.execCaptureTrigger m useAt t s
  | .captureRead m slot autoRelease => Sys2Proof.Machine.execCaptureRead m slot autoRelease s
  | .captureRelease m slot => Sys2Proof.Machine.execCaptureRelease m slot s
  | .captureReadoutStart slot => Sys2Proof.Machine.execCaptureReadoutStart slot s
  | .captureReadoutEnd slot => Sys2Proof.Machine.execCaptureReadoutEnd slot s
  | .dataBlock p k u bits overflow => Sys2Proof.Machine.execDataBlock p k u bits overflow s
  | .idleBlock p k u bits => Sys2Proof.Machine.execIdleBlock p k u bits s
  | .trainBlock p k u bits => Sys2Proof.Machine.execTrainBlock p k u bits s
  | .markerBlock p k u bits => Sys2Proof.Machine.execMarkerBlock p k u bits s
  | .markerTimeout p k => Sys2Proof.Machine.execMarkerTimeout p k s
  | .forwardedClockDetect p ofs => Sys2Proof.Machine.execForwardedClockDetect p ofs s
  | .forwardedClockLoss p => Sys2Proof.Machine.execForwardedClockLoss p s
  | .trainTimeout p => Sys2Proof.Machine.execTrainTimeout p s
  | .eqAdaptUpdate p k settings => Sys2Proof.Machine.execEqAdaptUpdate p k settings s
  | .adaptWindowEnd p k disagree => Sys2Proof.Machine.execAdaptWindowEnd p k disagree s
  | .pickFrame p => Sys2Proof.Machine.execPickFrame p s
  | .tieWordSend p t => Sys2Proof.Machine.execTieWordSend p t s
  | .waitp e => Sys2Proof.Machine.execWaitp e s
  | .waitpReturn e => Sys2Proof.Machine.execWaitpReturn e s
  | .nop e => Sys2Proof.Machine.execNop e s
  | .halt e => Sys2Proof.Machine.execHalt e s
  | .br e => Sys2Proof.Machine.execBr e s
  | .brz e => Sys2Proof.Machine.execBrz e s
  | .brnz e => Sys2Proof.Machine.execBrnz e s
  | .brgt e => Sys2Proof.Machine.execBrgt e s
  | .brle e => Sys2Proof.Machine.execBrle e s
  | .djnz e => Sys2Proof.Machine.execDjnz e s
  | .seta e => Sys2Proof.Machine.execSeta e s
  | .adda e => Sys2Proof.Machine.execAdda e s
  | .setb e => Sys2Proof.Machine.execSetb e s
  | .setl e => Sys2Proof.Machine.execSetl e s
  | .geta e => Sys2Proof.Machine.execGeta e s
  | .lis e => Sys2Proof.Machine.execLis e s
  | .adds e => Sys2Proof.Machine.execAdds e s
  | .subs e => Sys2Proof.Machine.execSubs e s
  | .addis e => Sys2Proof.Machine.execAddis e s
  | .muls e => Sys2Proof.Machine.execMuls e s
  | .ands e => Sys2Proof.Machine.execAnds e s
  | .ors e => Sys2Proof.Machine.execOrs e s
  | .xors e => Sys2Proof.Machine.execXors e s
  | .shls e => Sys2Proof.Machine.execShls e s
  | .shrs e => Sys2Proof.Machine.execShrs e s
  | .gets e => Sys2Proof.Machine.execGets e s
  | .vext e => Sys2Proof.Machine.execVext e s
  | .vadd e => Sys2Proof.Machine.execVadd e s
  | .vsub e => Sys2Proof.Machine.execVsub e s
  | .vmul e => Sys2Proof.Machine.execVmul e s
  | .vmax e => Sys2Proof.Machine.execVmax e s
  | .vmin e => Sys2Proof.Machine.execVmin e s
  | .vabs e => Sys2Proof.Machine.execVabs e s
  | .vspl e => Sys2Proof.Machine.execVspl e s
  | .vins e => Sys2Proof.Machine.execVins e s
  | .vshl e => Sys2Proof.Machine.execVshl e s
  | .vshr e => Sys2Proof.Machine.execVshr e s
  | .vgt e => Sys2Proof.Machine.execVgt e s
  | .vand e => Sys2Proof.Machine.execVand e s
  | .aclr e => Sys2Proof.Machine.execAclr e s
  | .mac e => Sys2Proof.Machine.execMac e s
  | .maca e => Sys2Proof.Machine.execMaca e s
  | .accr e => Sys2Proof.Machine.execAccr e s
  | .asum e => Sys2Proof.Machine.execAsum e s
  | .ina e => Sys2Proof.Machine.execIna e s
  | .ind e => Sys2Proof.Machine.execInd e s
  | .maxi e => Sys2Proof.Machine.execMaxi e s
  | .mini e => Sys2Proof.Machine.execMini e s
  | .emit e => Sys2Proof.Machine.execEmit e s
  | .trig e t => Sys2Proof.Machine.execTrig e t s
  | .ldv e => Sys2Proof.Machine.execLdv e s
  | .stv e => Sys2Proof.Machine.execStv e s
  | .lds e => Sys2Proof.Machine.execLds e s
  | .sts e => Sys2Proof.Machine.execSts e s
  | .illegalOpcode e => Sys2Proof.Machine.execIllegalOpcode e s
  | .engineStart e => Sys2Proof.Machine.execEngineStart e s
  | .checkRequest m => Sys2Proof.Machine.execCheckRequest m s
  | .checkEnd => Sys2Proof.Machine.execCheckEnd s
  | .armRequest m t => Sys2Proof.Machine.execArmRequest m t s
  | .cancelRequest m => Sys2Proof.Machine.execCancelRequest m s
  | .unweaveRequest m t => Sys2Proof.Machine.execUnweaveRequest m t s
  | .stagingClear m => Sys2Proof.Machine.execStagingClear m s
  | .weavePreparationDone => Sys2Proof.Machine.execWeavePreparationDone s
  | .clothRxFrame c t line frame => Sys2Proof.Machine.execClothRxFrame c t line frame s
  | .boltFlushTimeout q t => Sys2Proof.Machine.execBoltFlushTimeout q t s
  | .portSendSlot c t => Sys2Proof.Machine.execPortSendSlot c t s
  | .retxTimeout q t => Sys2Proof.Machine.execRetxTimeout q t s
  | .heartbeatTimer q t => Sys2Proof.Machine.execHeartbeatTimer q t s
  | .clothLinkLoss c fec => Sys2Proof.Machine.execClothLinkLoss c fec s
  | .clothPortFail c t => Sys2Proof.Machine.execClothPortFail c t s
  | .clothLinkUp c t => Sys2Proof.Machine.execClothLinkUp c t s
  | .provingEnd c t => Sys2Proof.Machine.execProvingEnd c t s
  | .heddleRxFrame m fcsOk frame => Sys2Proof.Machine.execHeddleRxFrame m fcsOk frame s
  | .ping h => Sys2Proof.Machine.execPing h s
  | .regRead h addrs => Sys2Proof.Machine.execRegRead h addrs s
  | .regWrite h pairs t => Sys2Proof.Machine.execRegWrite h pairs t s
  | .memRead h addr len chunk => Sys2Proof.Machine.execMemRead h addr len chunk s
  | .pieceCommit h piece len sha => Sys2Proof.Machine.execPieceCommit h piece len sha s
  | .pieceProgramDone ok => Sys2Proof.Machine.execPieceProgramDone ok s
  | .pieceMap h first count => Sys2Proof.Machine.execPieceMap h first count s
  | .setNet h port mac ip udp => Sys2Proof.Machine.execSetNet h port mac ip udp s
  | .setHost h port primary dst => Sys2Proof.Machine.execSetHost h port primary dst s
  | .noticeCfg h rate rto => Sys2Proof.Machine.execNoticeCfg h rate rto s
  | .provision h body => Sys2Proof.Machine.execProvision h body s
  | .setKey h body => Sys2Proof.Machine.execSetKey h body s
  | .deprovision h t => Sys2Proof.Machine.execDeprovision h t s
  | .setDraftKey h slot key => Sys2Proof.Machine.execSetDraftKey h slot key s
  | .clearDraftKey h slot => Sys2Proof.Machine.execClearDraftKey h slot s
  | .stats h => Sys2Proof.Machine.execStats h s
  | .memoryWrite h addr data => Sys2Proof.Machine.execMemoryWrite h addr data s
  | .imageWrite h addr data => Sys2Proof.Machine.execImageWrite h addr data s
  | .hostAck h upTo also => Sys2Proof.Machine.execHostAck h upTo also s
  | .settingsStored ref => Sys2Proof.Machine.execSettingsStored ref s
  | .noticeSend t => Sys2Proof.Machine.execNoticeSend t s
  | .noticeTimeout nseq t => Sys2Proof.Machine.execNoticeTimeout nseq t s
  | .noticePrimaryReturn t => Sys2Proof.Machine.execNoticePrimaryReturn t s
  | .heddleLinkChange m up t => Sys2Proof.Machine.execHeddleLinkChange m up t s
  | .pairFail pair mismatch => Sys2Proof.Machine.execPairFail pair mismatch s
  | .heddleWatchdogExpiry pair => Sys2Proof.Machine.execHeddleWatchdogExpiry pair s
  | .controlTakeover => Sys2Proof.Machine.execControlTakeover s
  | .hdlKick m t => Sys2Proof.Machine.execHdlKick m t s
  | .hdlDoorbellWrite m value => Sys2Proof.Machine.execHdlDoorbellWrite m value s
  | .clean m sl dirty => Sys2Proof.Machine.execClean m sl dirty s
  | .cleanInv m sl dirty => Sys2Proof.Machine.execCleanInv m sl dirty s
  | .inv m sl => Sys2Proof.Machine.execInv m sl s
  | .cleanSlotDone sl => Sys2Proof.Machine.execCleanSlotDone sl s
  | .shtStart m n alsoStop heddle => Sys2Proof.Machine.execShtStart m n alsoStop heddle s
  | .shtStop m n heddle => Sys2Proof.Machine.execShtStop m n heddle s
  | .channelRunStart => Sys2Proof.Machine.execChannelRunStart s
  | .descriptorStart => Sys2Proof.Machine.execDescriptorStart s
  | .descriptorComplete => Sys2Proof.Machine.execDescriptorComplete s
  | .shtBusError cause => Sys2Proof.Machine.execShtBusError cause s
  | .matrixMemoryWrite m addr data => Sys2Proof.Machine.execMatrixMemoryWrite m addr data s
  | .registerWrite m addr value t => Sys2Proof.Machine.execRegisterWrite m addr value t s
  | .pairLoRead m addr => Sys2Proof.Machine.execPairLoRead m addr s
  | .pairLoWrite m addr value => Sys2Proof.Machine.execPairLoWrite m addr value s
  | .pairHiWrite m addr value => Sys2Proof.Machine.execPairHiWrite m addr value s
  | .wrpCntClr p => Sys2Proof.Machine.execWrpCntClr p s
  | .wrpFcntClr p => Sys2Proof.Machine.execWrpFcntClr p s
  | .lomChkClear k => Sys2Proof.Machine.execLomChkClear k s
  | .lomBbClr k => Sys2Proof.Machine.execLomBbClr k s
  | .hrnClr h => Sys2Proof.Machine.execHrnClr h s
  | .btnClr => Sys2Proof.Machine.execBtnClr s
  | .zchClr => Sys2Proof.Machine.execZchClr s
  | .pwdClr => Sys2Proof.Machine.execPwdClr s
  | .trdClr e => Sys2Proof.Machine.execTrdClr e s
  | .jrnClr => Sys2Proof.Machine.execJrnClr s
  | .cloClr c => Sys2Proof.Machine.execCloClr c s
  | .splClr => Sys2Proof.Machine.execSplClr s
  | .splQselWrite q => Sys2Proof.Machine.execSplQselWrite q s
  | .drmClr d => Sys2Proof.Machine.execDrmClr d s
  | .mtxClr => Sys2Proof.Machine.execMtxClr s
  | .refStepWrite step => Sys2Proof.Machine.execRefStepWrite step s
  | .refCompWrite x comp => Sys2Proof.Machine.execRefCompWrite x comp s
  | .refPpsoutOfsWrite ofs t => Sys2Proof.Machine.execRefPpsoutOfsWrite ofs t s
  | .refPickoutOfsWrite ofs t => Sys2Proof.Machine.execRefPickoutOfsWrite ofs t s
  | .outputOffsetTakesEffect pick t => Sys2Proof.Machine.execOutputOffsetTakesEffect pick t s
  | .refClockLoss x => Sys2Proof.Machine.execRefClockLoss x s
  | .ppsEdge x seen phase => Sys2Proof.Machine.execPpsEdge x seen phase s
  | .offsetMeasurement x m offNominal => Sys2Proof.Machine.execOffsetMeasurement x m offNominal s
  | .qualificationTimer x => Sys2Proof.Machine.execQualificationTimer x s
  | .wtrExpiry x => Sys2Proof.Machine.execWtrExpiry x s
  | .switchSlewEnd => Sys2Proof.Machine.execSwitchSlewEnd s
  | .holdoverHistoryValid est => Sys2Proof.Machine.execHoldoverHistoryValid est s
  | .holdoverExpiry => Sys2Proof.Machine.execHoldoverExpiry s
  | .loclkLoss => Sys2Proof.Machine.execLoclkLoss s
  | .faultRaised b src real inj detail place => Sys2Proof.Machine.execFaultRaised b src real inj detail place s
  | .faultNotice b => Sys2Proof.Machine.execFaultNotice b s
  | .fatalResetTimer t => Sys2Proof.Machine.execFatalResetTimer t s
  | .finjGo b src => Sys2Proof.Machine.execFinjGo b src s
  | .rejectPoll => Sys2Proof.Machine.execRejectPoll s
  | .wgeStartWrite n value => Sys2Proof.Machine.execWgeStartWrite n value s
  | .gaugeDone dom path sram temp => Sys2Proof.Machine.execGaugeDone dom path sram temp s
  | .wearReplan => Sys2Proof.Machine.execWearReplan s
  | .wgeBobOffWrite n value => Sys2Proof.Machine.execWgeBobOffWrite n value s
  | .vrAlert statusWord => Sys2Proof.Machine.execVrAlert statusWord s
  | .vrSettleTimeout => Sys2Proof.Machine.execVrSettleTimeout s
  | .refreshDue d rank issued => Sys2Proof.Machine.execRefreshDue d rank issued s
  | .thermalRead d temp => Sys2Proof.Machine.execThermalRead d temp s
  | .dqsOscTrack d moves => Sys2Proof.Machine.execDqsOscTrack d moves s
  | .dramPatrolScrub d addr ecc endOfPass progress => Sys2Proof.Machine.execDramPatrolScrub d addr ecc endOfPass progress s
  | .ecsReading d count => Sys2Proof.Machine.execEcsReading d count s
  | .sramPatrolScrub b corrected uncorrectable detail => Sys2Proof.Machine.execSramPatrolScrub b corrected uncorrectable detail s
  | .memoryAccess d asks busy younger t => Sys2Proof.Machine.execMemoryAccess d asks busy younger t s
  | .invalidTypeBlock p k u bits => Sys2Proof.Machine.execInvalidTypeBlock p k u bits s
  | .eventNotice addr => Sys2Proof.Machine.execEventNotice addr s
  | .refClockReturn x => Sys2Proof.Machine.execRefClockReturn x s
  | .voutSettled => Sys2Proof.Machine.execVoutSettled s
  | .tapInstruction code standard => Sys2Proof.Machine.execTapInstruction code standard s
  | .outputEdge pick t => Sys2Proof.Machine.execOutputEdge pick t s
  | .outputPulseEnd pick t => Sys2Proof.Machine.execOutputPulseEnd pick t s

end Sys2Proof.Machine
end

