-- ==== Sys2Proof/Safety.lean ====
section
/-! DEFINITION. What counts as a safe run, and the words in which the statements speak: every store of the device is in its
canonical form, so that equal contents are equal data; the pins agree; which fields of the register file an effect may
change; and what a Rosesque message finds and leaves. -/

namespace Sys2Proof.Machine

/-- The register files and attached memory are in canonical form. -/
def Device.canonical (d : Device) : Bool :=
  Sparse.wf resetWord d.regs && Sparse.wf resetWord d.live && Memory.wf d.mem

/-- The state's stores are canonical. -/
def State.canonical (s : State) : Bool := s.dev.canonical

/-- Attached memory is in its canonical form. -/
def Device.memWf (d : Device) : Prop := Memory.wf d.mem = true

/-- PWROK low holds the device in reset (18 R495): no state of the machine has power out of range and the device running. -/
def State.pinsAgree (s : State) : Prop := s.dev.powered = false → s.dev.held = true

/-- The parts of the device: the fields of `Device`. -/
inductive Part where
  | held | powered | testen | freeN | tm | regs | live | rlatch | wlatch | lanes | ports | creel | looms | apu |
  sheds | setter | beams | apBuf | chains | engines | jrn | queues | cloth | drafts | mem | poison | drm | ref | rsq
  | boot | hdl | sup | trigAck
  deriving DecidableEq, Repr

/-- `d` and `e` agree in a part. -/
def Device.agrees (d e : Device) : Part → Prop
  | .held => e.held = d.held
  | .powered => e.powered = d.powered
  | .testen => e.testen = d.testen
  | .freeN => e.freeN = d.freeN
  | .tm => e.tm = d.tm
  | .regs => e.regs = d.regs
  | .live => e.live = d.live
  | .rlatch => e.rlatch = d.rlatch
  | .wlatch => e.wlatch = d.wlatch
  | .lanes => e.lanes = d.lanes
  | .ports => e.ports = d.ports
  | .creel => e.creel = d.creel
  | .looms => e.looms = d.looms
  | .apu => e.apu = d.apu
  | .sheds => e.sheds = d.sheds
  | .setter => e.setter = d.setter
  | .beams => e.beams = d.beams
  | .apBuf => e.apBuf = d.apBuf
  | .chains => e.chains = d.chains
  | .engines => e.engines = d.engines
  | .jrn => e.jrn = d.jrn
  | .queues => e.queues = d.queues
  | .cloth => e.cloth = d.cloth
  | .drafts => e.drafts = d.drafts
  | .mem => e.mem = d.mem
  | .poison => e.poison = d.poison
  | .drm => e.drm = d.drm
  | .ref => e.ref = d.ref
  | .rsq => e.rsq = d.rsq
  | .boot => e.boot = d.boot
  | .hdl => e.hdl = d.hdl
  | .sup => e.sup = d.sup
  | .trigAck => e.trigAck = d.trigAck

/-- `e` is `d` in every part but those of `ps`; `hot`, which says of register bits only that hardware has just set them, is no part. -/
def Device.keeps (d e : Device) (ps : List Part) : Prop := ∀ p, p ∉ ps → d.agrees e p

/-- `e` is `d` but for the fields `fs` of the register file: every other field of every register, and everything that is no
register, is unchanged but for `hot`, which only says of bits that hardware has just set them. -/
def Device.onlyFields (d e : Device) (fs : List Fld) : Prop :=
  e = { d with regs := e.regs, hot := e.hot } ∧ ∀ g : Fld, (∀ f ∈ fs, g.addr ≠ f.addr ∨ f.apart g) → e.get g = d.get g

/-- Command `c` completes in `s` with a device that meets `post`, the queue untouched. -/
def State.runs (s : State) (c : Instr) (post : Device → Prop) : Prop :=
  ∃ e, exec c s = .next { s with dev := e } ∧ post e

/-- The next pick boundary of `d`, woven and RUNNING, is an ordinary one: no shed begins or ends at it and nothing waits for it. -/
def Device.plainBoundary (d : Device) : Prop :=
  d.held = false ∧ d.testen = false ∧ d.running = true ∧ d.woven = true ∧ d.jrn.quiesced = none ∧ d.jrn.resumePick = none ∧
  d.jrn.replays = [] ∧ d.drafts.armed = none ∧ d.tm.commit = none ∧ d.tm.fwCommit = false ∧ d.tm.syncFrom = none ∧
  d.sheds.flipDue = false ∧ d.sheds.ending = none ∧ d.setter.sw = none ∧ (d.pn + 1) % 2 ^ 64 % 2 ^ 48 % d.shedLen ≠ 0

/-- Treadle engine `e` is RUNNING and the word at its program counter, found intact, is `w`. -/
def Device.nextWord (d : Device) (e : Fin 4) (w : TWord) : Prop :=
  d.trdState e.val = 2 ∧ d.armed (.trd e) 0 = false ∧ d.armed (.trd e) 1 = false ∧ (d.engine e.val).fetch = w

/-- Command `c` sets the fields `zero` to 0 and changes nothing else. -/
def State.zeroes (s : State) (c : Instr) (zero : List Fld) : Prop :=
  s.runs c fun e => (∀ f ∈ zero, e.get f = 0) ∧ s.dev.onlyFields e zero

/-- Command `c` sets each field of `vals` to its value and changes nothing else. -/
def State.writes (s : State) (c : Instr) (vals : List (Fld × Nat)) : Prop :=
  s.runs c fun e => (∀ p ∈ vals, e.get p.1 = p.2) ∧ s.dev.onlyFields e (vals.map Prod.fst)

/-- Command `c`, a register request of master `m`, sets each field of `vals` to its value and changes nothing else but what the
request shows in MTX_PEAK (16 R467). -/
def State.writesBy (s : State) (m : Nat) (c : Instr) (vals : List (Fld × Nat)) : Prop :=
  s.runs c fun e => (∀ p ∈ vals, e.get p.1 = p.2) ∧ (s.dev.request m 1).onlyFields e (vals.map Prod.fst)

/-- Message `h` of this kind, code and body is the next that firmware executes in `d`: it has waited longest, or none waits and
it is fresh as it arrives (15 R417, R424; log 15). -/
def Device.takes (d : Device) (h : HostHdr) (kind code : Nat) (body : List Byte) : Prop :=
  d.fwUp = true ∧
  ((d.rsq.waiting = [] ∧ (h.factory = true ∨ d.provisioned = true) ∧ d.verdict h.seq.toNat = .fresh) ∨
    ∃ w rest, d.rsq.waiting = w :: rest ∧ w.hdr = h ∧ w.kind = kind ∧ w.code = code ∧ w.body = body)

/-- `d` with that message accepted, as it is executed. -/
def Device.taken (d : Device) (h : HostHdr) : Device :=
  match d.rsq.waiting with
  | _ :: _ => d
  | [] => d.acceptSeq h.seq.toNat

/-- The end of the execution of message `h` (15 R424, 19 R524, R526): it waits no longer, firmware makes a commit of its own that
has waited, and the host bridge's latches are empty. -/
def Device.finished (d : Device) (h : HostHdr) : Device :=
  { d with rsq := { d.rsq with waiting := d.rsq.waiting.filter fun w => w.hdr != h } }.firmwareTurn.emptyLatches 3

/-- `d` with message `h` taken and answered by a RESPONSE with status `code` and `body`, and nothing else changed. -/
def Device.answered (d : Device) (h : HostHdr) (code : Nat) (body : List Byte) : Device :=
  ((d.taken h).respond h code body).finished h

/-- `d` with BULK message `h` taken and answered by an ACK with status `code`, and nothing else changed. -/
def Device.acked (d : Device) (h : HostHdr) (code : Nat) : Device := ((d.taken h).ack h code).finished h

end Sys2Proof.Machine
end

