-- ==== Sys2Proof/Certificates/Slice0/Obligations.lean ====
section
/-! DEFINITION. The statements for the provers. `s.runs c post` says that command `c` completes in `s`, answering a device that
meets `post`; `s.writes` and `s.zeroes` add that nothing else changes (Sys2Proof/Safety.lean). `s.dev.at_ t` is the device
as the instant `t` of a dated command finds it. -/

open Sys2Proof Sys2Proof.Machine

/-! ### The queue, the pins, reset -/

/-- A step with command c at the front of the queue is exec of c on the device with the queue's rest. With no command
waiting the block idles: that is the model's choice (log 1). Rules: 95_what_each_step_holds.md. -/
def Obligations.StepRunsTheFrontCommand : Prop :=
  (∀ (d : Device) (c : Instr) (rest : List Instr),
    step { dev := d, pending := c :: rest } = exec c { dev := d, pending := rest }) ∧
  ∀ d : Device, step { dev := d, pending := [] } = .next { dev := d, pending := [] }

/-- Every command, in every state, answers a next state in which the queue is unchanged: no rule of the spec stops the
block. While the device is held in reset (18 R494), every command but a rise or fall of power and COLD_START leaves
the state as it is, which is the model's reading (log 19). Rules: 18 R494, R495. -/
def Obligations.EveryCommandCompletesAndLeavesTheQueue : Prop :=
  (∀ (c : Instr) (s : State), ∃ e, exec c s = .next { s with dev := e }) ∧
  (∀ (c : Instr) (s : State), s.dev.held = true →
     c ≠ .powerOnReset → c ≠ .pwrokFall → (∀ t b, c ≠ .coldStart t b) → exec c s = .next s)

/-- The invariant of PinsAgreeIsKept holds in State.reset, whose pins are a choice of the model (log 4). Rules: 18
R494, R495. -/
def Obligations.PinsAgreeAtReset : Prop := State.reset.pinsAgree

/-- From any state, whatever command is at the front of the queue, a step keeps the rule that a device without power
in range is held in reset: no command but a start releases it. Rules: 18 R495, 20 R540. -/
def Obligations.PinsAgreeIsKept : Prop :=
  ∀ s t : State, s.pinsAgree → step s = .next t → t.pinsAgree

/-! ### Registers (00, 19) -/

/-- R5 and R6, what a write leaves in each field of a register whose fields lie apart: RW and RWP take the value
written, RO, RO/H and WO hold what they held, and a 1 clears each bit of a W1C field that was set when the cycle
began; a bit set within the cycle of the write stays 1. Which rows of the table fall into one cycle of the matrix is
the model's choice (log 63). Rules: 00 R5, R6. -/
def Obligations.AccessCodesGovernWrites : Prop :=
  ∀ (fs : List FieldDesc) (hot old v : W32), (∀ f ∈ fs, f.lo + f.w ≤ 32) →
    (fs.Pairwise fun f g => f.lo + f.w ≤ g.lo ∨ g.lo + g.w ≤ f.lo) → ∀ f ∈ fs,
    let after := Fld.of ⟨0, f.lo, f.w⟩ (applyAccess fs hot old v)
    let justSet := Fld.of ⟨0, f.lo, f.w⟩ hot
    let was := Fld.of ⟨0, f.lo, f.w⟩ old
    let wrote := Fld.of ⟨0, f.lo, f.w⟩ v
    match f.acc with
    | .rw => after = wrote
    | .rwp => after = wrote
    | .ro => after = was
    | .roh => after = was
    | .wo => after = was
    | .w1c => ∀ i, after.testBit i = (was.testBit i && !(wrote.testBit i && !justSet.testBit i))

/-- A write by a master that can issue sets its register by the access codes and nothing else. R522 and R523 (R8, R9):
a read of a _LO loads the master's one read latch with the matching _HI, replacing what it held; the next read of that
_HI returns the latch and empties it; other reads leave it; a _HI read that finds the latch empty or holding another
pair returns the live value. A write to the _LO of a writable pair is held in the master's one write latch, replacing
what it held, and leaves every register, so a read of the _LO and a commit see the value in force; the write to the
matching _HI applies both halves, and without a held _LO only its own. That a read of MTX_STAT shows the reading
master and those whose reads wait is the model's choice (log 60), and so is which bits hardware has just set as the
write comes (log 63). Rules: 00 R5, R6, 19 R522, R523, 00 R8, R9, 16 R467. -/
def Obligations.RegistersAndPairsAreReadAndWritten : Prop :=
  (∀ (s : State) (m : Master) (addr v : W32) (t : Nat) (r : RegDesc) (i k : Nat),
     s.dev.held = false → s.dev.issues m.val = true → descAt addr.toNat = some (r, i, k) → r.half = .single →
     r.writable = true → r.id.acts = false →
     let d := (s.dev.request m.val 1).at_ t
     s.runs (.registerWrite m addr v t) fun e =>
       e.word addr.toNat = applyAccess r.fields (d.hotAt addr.toNat) (d.word addr.toNat) v ∧ d.onlyFields e [⟨addr.toNat, 0, 32⟩]) ∧
  (∀ (s : State) (m : Master) (lo hi : W32) (r q : RegDesc) (i k i' k' : Nat),
    s.dev.held = false → s.dev.issues m.val = true → hi.toNat = lo.toNat + 4 →
    descAt lo.toNat = some (q, i, k) → q.half = .lo → descAt hi.toNat = some (r, i', k') → r.half = .hi →
    let x := s.dev.request m.val 1
    let held := Sparse.get (fun _ => none) x.wlatch m.val
    (s.runs (.pairLoRead m lo) fun e => e = x.setRlatch m.val (some (hi.toNat, x.readVal hi.toNat)) ∧
      ∀ n, n ≠ m.val → Sparse.get (fun _ => none) e.rlatch n = Sparse.get (fun _ => none) x.rlatch n) ∧
    (x.regRead m.val lo.toNat).1 = some (x.readVal lo.toNat) ∧
    (∀ v, Sparse.get (fun _ => none) x.rlatch m.val = some (hi.toNat, v) →
      x.regRead m.val hi.toNat = (some v, x.setRlatch m.val none)) ∧
    ((∀ v, Sparse.get (fun _ => none) x.rlatch m.val ≠ some (hi.toNat, v)) →
      x.regRead m.val hi.toNat = (some (x.readVal hi.toNat), x)) ∧
    (∀ a z j l, descAt a = some (z, j, l) → z.half = .single →
      x.regRead m.val a = (some (if a = MTX_STAT.word.addr then BitVec.ofNat 32 (x.activeMasters m.val) else x.readVal a), x)) ∧
    (q.writable = true → ∀ v, s.runs (.pairLoWrite m lo v) fun e => e = x.setWlatch m.val (some (lo.toNat, v)) ∧
      e.regs = x.regs ∧ e.readVal lo.toNat = x.readVal lo.toNat ∧
      ∀ n, n ≠ m.val → Sparse.get (fun _ => none) e.wlatch n = Sparse.get (fun _ => none) x.wlatch n) ∧
    (r.writable = true → r.id.acts = false → ∀ w : W32,
      (∀ v : W32, q.id.acts = false → held = some (lo.toNat, v) → s.runs (.pairHiWrite m hi w) fun e =>
        e.word lo.toNat = applyAccess q.fields (x.hotAt lo.toNat) (x.word lo.toNat) v ∧
        e.word hi.toNat = applyAccess r.fields (x.hotAt hi.toNat) (x.word hi.toNat) w ∧
        (x.setWlatch m.val none).onlyFields e [⟨lo.toNat, 0, 32⟩, ⟨hi.toNat, 0, 32⟩]) ∧
      ((∀ v : W32, held ≠ some (lo.toNat, v)) → s.runs (.pairHiWrite m hi w) fun e =>
        e.word hi.toNat = applyAccess r.fields (x.hotAt hi.toNat) (x.word hi.toNat) w ∧ x.onlyFields e [⟨hi.toNat, 0, 32⟩])))

/-- Each clear command of a register table returns the counters that its table names to 0 and changes no other field
of any register and nothing else; WRP_ARRIVAL returns to its extremes (04 R114), and SPL_CLR (11 R325) and JRN_CLR (10
R293) are of the same form. That LOM_BB_CLR leaves LOM_DUMP_STAT is the model's reading (log 20). Rules: 03 R83, 04
R114, 05 R151, 06 R180, 07 R210, R212, 08 R237, R238, 09 R258, 11 R324, 13 R386, 16 R467. -/
def Obligations.ClearCommandsZeroTheirCounters : Prop := ∀ s : State, s.dev.held = false →
  s.zeroes .btnClr [BTN_SAT.count, BTN_ROUTE_ERR.route_err] ∧
  s.zeroes .zchClr [ZCH_SAT.count, ZCH_GAP.count] ∧
  s.zeroes .pwdClr [PWD_SAT.count, PWD_GAP.count] ∧
  s.zeroes .mtxClr [MTX_CNT.word, MTX_PEAK.word, MTX_DEFAULT_HI.valid] ∧
  s.zeroes .jrnClr [JRN_TRIG_CNT.word, JRN_REPLAY_CNT.word, JRN_UNJOURNALLED.word, JRN_DIR_ERR.word] ∧
  (∀ h : Fin 64, s.zeroes (.hrnClr h) [HRN_WECC.corrected h.val, HRN_WECC.uncorrected h.val]) ∧
  (∀ k : Fin 68, s.zeroes (.lomChkClear k) [LOM_CHK.count_err k.val]) ∧
  (∀ k : Fin 68, s.zeroes (.lomBbClr k) [LOM_SPILL_CNT.word k.val, LOM_SPILL_PEAK.word k.val, LOM_SPILL_DEFER.word k.val,
    LOM_FRAY.word k.val, LOM_FRAY_TOTAL.word k.val, LOM_BOBBIN_ECC.word k.val, LOM_SPILL_LOST.word k.val]) ∧
  (∀ k : Fin 4, s.zeroes (.trdClr k) [TRD_BUSY.word k.val, TRD_OVERRUN.word k.val, TRD_SATCNT.word k.val, TRD_DROP.word k.val,
    TRD_TRIG_CNT.word k.val, TRD_EMIT_CNT.word k.val, TRD_CLAMP.word k.val]) ∧
  (∀ c : Fin 32, s.zeroes (.cloClr c) [CLO_TX_FRAMES_LO.word c.val, CLO_TX_FRAMES_HI.word c.val, CLO_TX_BYTES_LO.word c.val,
    CLO_TX_BYTES_HI.word c.val, CLO_RETX.word c.val, CLO_RX_RCPT.word c.val, CLO_RX_DROP.word c.val, CLO_FEC.word c.val]) ∧
  (∀ c : Fin 24, s.zeroes (.drmClr c) ([DRM_REF.urgent c.val, DRM_DRFM_CNT.word c.val, DRM_ECC_CNT.word c.val,
    DRM_DEV.word c.val, DRM_UE_ADDR_LO.word c.val, DRM_UE_ADDR_HI.word c.val] ++
    (List.range 8).map fun n => DRM_PWAIT.word c.val n)) ∧
  (∀ p : Fin 64, s.zeroes (.wrpCntClr p) (WRP_TRAIN.word p.val :: (List.range 4).flatMap fun k =>
    [WRP_LCNT_STUFF.word p.val k, WRP_LCNT_HDR.word p.val k, WRP_LCNT_MRK.word p.val k, WRP_LCNT_LOCK.word p.val k])) ∧
  (∀ p : Fin 64, s.writes (.wrpFcntClr p) ([(WRP_ACC_LO.acc_lo p.val, 0), (WRP_ACC_HI.acc_hi p.val, 0),
    (WRP_FMT_ERR.word p.val, 0), (WRP_UFLAG.word p.val, 0), (WRP_ANS_LAT.word p.val, 0)] ++
    ((List.range 11).map fun n => (WRP_REJ.count p.val (n + 1), 0)) ++
    [(WRP_ARRIVAL.word p.val, 0x7FFF + 0x8000 * 2 ^ 16)])) ∧
  s.runs .splClr fun e => e.get SPL_CNT_RCPT.count = 0 ∧ e.get SPL_CNT_BADRCPT.count = 0 ∧
    (∀ q, (e.queue q).lost = 0 ∧ (e.queue q).retxCount = 0 ∧
      e.queue q = { s.dev.queue q with lost := 0, retxCount := 0 }) ∧
    { s.dev with queues := e.queues }.onlyFields e [SPL_CNT_RCPT.count, SPL_CNT_BADRCPT.count]

/-! ### Attached memory and the bulk windows (13, 16) -/

/-- A write into the general window of attached memory stores its bytes and nothing else, and memory keeps its
canonical form; a write that meets a bank in use is not performed, sets write_refused and is counted (07 R204); a
write whose address nothing decodes is counted by the default target (16 R453), and one that only runs past the end of
its window changes nothing (log 26). An access that a controller with an empty queue serves reads without any change
of memory and writes its bytes; what it moves besides is the controller's own state and registers (log 79). Rules: 07
R204, 13 R364, R366, R372, R381, R382, 16 R451, R453. -/
def Obligations.AttachedMemoryIsReadAndWritten : Prop :=
  (∀ (s : State) (m : Master) (addr : BitVec 48) (data : List Byte), s.dev.held = false →
     (m.val = 2 ∨ s.dev.issues m.val = true) →
     let heddle := s.dev.decodesHeddle m.val
     let d := s.dev.request m.val (bursts addr.toNat data.length)
     (∀ a, d.decodes heddle addr.toNat data.length = some (.general a) →
       d.bankGuard addr.toNat data.length = false →
       s.runs (.matrixMemoryWrite m addr data) fun e =>
         (∀ i, e.byte i = if addr.toNat ≤ i ∧ i < addr.toNat + data.length then data.getD (i - addr.toNat) 0
                          else d.byte i) ∧
         (d.memWf → e.memWf) ∧ d.keeps e [.mem, .poison, .drm]) ∧
     (∀ a, d.decodes heddle addr.toNat data.length = some (.general a) →
       d.bankGuard addr.toNat data.length = true →
       s.runs (.matrixMemoryWrite m addr data) fun e => e.get HST_EVENT.write_refused = 1 ∧
         e.get HST_CNT_REFUSED.count = satU 32 (d.get HST_CNT_REFUSED.count + 1) ∧
         d.onlyFields e [HST_EVENT.write_refused, HST_CNT_REFUSED.count]) ∧
     (d.decodes heddle addr.toNat data.length = none → d.flag MTX_DEFAULT_HI.valid = true →
       s.runs (.matrixMemoryWrite m addr data) fun e =>
         e.get MTX_CNT.default_hits =
           satU 16 (d.get MTX_CNT.default_hits + (if (d.window heddle addr.toNat).isNone then 1 else 0)) ∧
         d.onlyFields e [MTX_CNT.default_hits])) ∧
  (∀ (s : State) (ch : Fin 24) (u : MemUser) (a n t : Nat) (bs : List Byte) (ecc : List LineEcc) (younger : Bool), s.dev.held = false →
     s.dev.boot.dramReady = true → s.dev.chanRuns ch.val = true → lineChannel a = ch.val → 0 < n → a + n ≤ s.dev.generalSize →
     (s.dev.dram ch.val).queue = [] → (s.dev.dram ch.val).marks = [] → s.dev.hdl.atPort = [] → (∀ m, u ≠ .matrix m) → u ≠ .ledger →
     let d := s.dev.at_ t
     (s.runs (.memoryAccess ch [⟨u, .read a n, t, ecc⟩] [] younger t) fun e => d.keeps e [.poison, .drm, .regs, .sup]) ∧
     (bs.length = n → s.runs (.memoryAccess ch [⟨u, .write a bs, t, ecc⟩] [] younger t) fun e =>
       (∀ i, e.byte i = if a ≤ i ∧ i < a + n then bs.getD (i - a) 0 else d.byte i) ∧
       (d.memWf → e.memWf) ∧ d.keeps e [.mem, .poison, .drm, .regs, .sup]))

/-- Attached memory is in use when all 24 channels hold supported, agreeing modules with every lane at least 16/64 UI
wide, and their results are kept; else every channel reads FAILED (R362, R368; the reports are operands, log 47). A
running channel counts the refreshes owed up to 4, doubles them at 85 °C and halves them below 83 °C, reports a
reading above 95 °C and counts as hot when its sensor fails, moves each lane's delays, and stores sensor and on-die
counts. The patrol scrub counts a corrected line and names its device, and poisons, counts and captures an
uncorrectable one (R372, R373). That the refreshes issued since the last REFRESH_DUE are taken off what is owed, and
that a reading issues the urgent ones itself, is the model's reading (log 46); which devices of a line err is an
operand (log 25). Rules: 13 R361, R362, R368, R370, R371, R372, R373, R374, R375, R376. -/
def Obligations.MemoryChannelsTrainRefreshAndScrub : Prop :=
  (∀ (s : State) (rs : List ModuleReport), s.dev.held = false → (∀ ch, ch < 24 → s.dev.get (DRM_STAT.state ch) = 1) →
     rs.length = 24 → (∀ r ∈ rs, r.lanes.length = 10) →
     let good := ∀ r ∈ rs, (∀ l ∈ r.lanes, 16 ≤ l.rdWidth.val ∧ 16 ≤ l.wrWidth.val) ∧
       ∃ x, r.spd = some x ∧ spdSupported x = true ∧
         ∀ z ∈ rs, ∀ y, z.spd = some y → x.capGb = y.capGb ∧ x.ranks = y.ranks ∧ x.dieGb = y.dieGb
     (good → s.runs (.dramTrainingDone rs) fun e => e.boot = { s.dev.boot with dramReady := true } ∧
       (∀ ch, ch < 24 → e.get (DRM_STAT.state ch) = 2) ∧
       (∀ ch r x, rs[ch]? = some r → r.spd = some x → e.get (DRM_CFG.cap_gb ch) = x.capGb ∧ e.get (DRM_CFG.ranks ch) = x.ranks ∧
         e.get (DRM_CFG.density ch) = (x.dieGb - 16) / 8 ∧ (e.dram ch).rfm = x.rfm ∧ ∀ i l, r.lanes[i]? = some l →
           e.get (DRM_TRAIN.rd_centre ch i) = l.rdCentre.val ∧ e.get (DRM_TRAIN.wr_centre ch i) = l.wrCentre.val ∧
           e.get (DRM_TRAIN.rd_width ch i) = l.rdWidth.val ∧ e.get (DRM_TRAIN.wr_width ch i) = l.wrWidth.val) ∧
       s.dev.keeps e [.regs, .boot, .drm]) ∧
     (¬ good → s.runs (.dramTrainingDone rs) fun e => (∀ ch, ch < 24 → e.get (DRM_STAT.state ch) = 4) ∧
       s.dev.keeps e [.regs, .drm])) ∧
  (∀ (s : State) (ch : Fin 24), s.dev.held = false → s.dev.chanRuns ch.val = true → s.dev.armed (.drm ch) 2 = false →
     (∀ (rank : Fin 2) (issued : Nat), s.dev.hasRank ch.val rank.val = true → (s.dev.dram ch.val).marks = [] →
       s.runs (.refreshDue ch rank issued) fun e =>
         e.get (owed ch.val rank.val) = min 4 (s.dev.get (owed ch.val rank.val) + 1 - issued) ∧
         { s.dev with drm := e.drm }.onlyFields e [owed ch.val rank.val]) ∧
     (s.dev.svcHeld = false → ∀ count : W32, s.writes (.ecsReading ch count) [(DRM_ECS.count ch.val, count.toNat)]) ∧
     (s.dev.svcHeld = false →
       let x := s.dev
       let hot := x.flag (DRM_STAT.hot ch.val)
       (∀ t : BitVec 16, t.toInt ≤ 380 → (340 < t.toInt → hot = true) → (t.toInt < 332 → hot = false) →
         s.runs (.thermalRead ch (some t)) fun e => e.get (DRM_STAT.temp ch.val) = t.toNat ∧ (e.dram ch.val).sensorFails = 0 ∧
           { x with drm := e.drm }.onlyFields e [DRM_STAT.temp ch.val]) ∧
       (∀ t : BitVec 16, 340 < t.toInt → t.toInt ≤ 380 → hot = false → s.runs (.thermalRead ch (some t)) fun e =>
         e.get (DRM_STAT.temp ch.val) = t.toNat ∧ e.flag (DRM_STAT.hot ch.val) = true ∧
         (∀ r, r < 2 → e.get (owed ch.val r) = min 4 (2 * x.get (owed ch.val r))) ∧ x.keeps e [.regs, .drm]) ∧
       (∀ t : BitVec 16, t.toInt < 332 → hot = true → s.runs (.thermalRead ch (some t)) fun e =>
         e.get (DRM_STAT.temp ch.val) = t.toNat ∧ e.flag (DRM_STAT.hot ch.val) = false ∧
         (∀ r, r < 2 → e.get (owed ch.val r) = (x.get (owed ch.val r) + 1) / 2) ∧
         { x with drm := e.drm }.onlyFields e [DRM_STAT.temp ch.val, DRM_STAT.hot ch.val, owed ch.val 0, owed ch.val 1]) ∧
       (∀ t : BitVec 16, 380 < t.toInt → s.runs (.thermalRead ch (some t)) fun e => e.get (DRM_STAT.temp ch.val) = t.toNat ∧
         e.flag (DRM_STAT.hot ch.val) = true ∧ e.flag (DRM_STAT.over_95 ch.val) = true ∧ x.keeps e [.regs, .drm, .rsq] ∧
         (x.rsq.queue = [] → ∃ n : Notice, e.rsq.queue = [n] ∧ n.ty = 0x11 ∧ n.pairs.map Prod.fst = [(DRM_STAT.word ch.val).addr])) ∧
       (let n := (x.dram ch.val).sensorFails
        s.runs (.thermalRead ch none) fun e => (e.dram ch.val).sensorFails = min 3 (n + 1) ∧ x.keeps e [.regs, .drm] ∧
          (n < 2 → e.regs = x.regs) ∧
          (2 ≤ n → e.flag (DRM_STAT.sensor_fail ch.val) = true ∧ e.flag (DRM_STAT.hot ch.val) = true))) ∧
     (∀ moves : List (Int × Int), s.runs (.dqsOscTrack ch moves) fun e =>
       (∀ i, i < 10 →
         e.get (DRM_TRAIN.rd_centre ch.val i) = moved (s.dev.get (DRM_TRAIN.rd_centre ch.val i)) (moves.getD i (0, 0)).1 ∧
         e.get (DRM_TRAIN.wr_centre ch.val i) = moved (s.dev.get (DRM_TRAIN.wr_centre ch.val i)) (moves.getD i (0, 0)).2) ∧
       s.dev.onlyFields e ((List.range 10).flatMap fun i => [DRM_TRAIN.rd_centre ch.val i, DRM_TRAIN.wr_centre ch.val i]))) ∧
  (∀ (s : State) (ch : Fin 24) (addr : BitVec 48) (p : BitVec 16), s.dev.held = false →
     s.dev.chanRuns ch.val = true → s.dev.armed (.drm ch) 1 = false → s.dev.armed (.drm ch) 2 = false →
     s.dev.poisoned addr.toNat 1 = false → (s.dev.inMemory addr.toNat = true → lineChannel addr.toNat = ch.val) →
     (s.runs (.dramPatrolScrub ch addr ⟨[], 0, false⟩ true p) fun e => e.get (DRM_SCRUB.progress ch.val) = p.toNat ∧
       e.get (DRM_SCRUB.passes ch.val) = satU 16 (s.dev.get (DRM_SCRUB.passes ch.val) + 1) ∧
       { s.dev with drm := e.drm }.onlyFields e [DRM_SCRUB.progress ch.val, DRM_SCRUB.passes ch.val, DRM_DRFM_CNT.count ch.val]) ∧
     (∀ (dev : Fin 20) (rank : Fin 2), s.runs (.dramPatrolScrub ch addr ⟨[dev], rank, false⟩ false p) fun e =>
       e.get (DRM_ECC_CNT.corrected ch.val) = satU 16 (s.dev.get (DRM_ECC_CNT.corrected ch.val) + 1) ∧
       e.get (DRM_DEV.device ch.val) = dev.val ∧ e.get (DRM_DEV.rank ch.val) = rank.val ∧ e.flag (DRM_DEV.valid ch.val) = true ∧
       s.dev.keeps e [.regs, .drm]) ∧
     (∀ (x y : Fin 20) (rank : Fin 2), x ≠ y → s.runs (.dramPatrolScrub ch addr ⟨[x, y], rank, true⟩ false p) fun e =>
       e.poisoned addr.toNat 1 = true ∧
       e.get (DRM_ECC_CNT.uncorrected ch.val) = satU 16 (s.dev.get (DRM_ECC_CNT.uncorrected ch.val) + 1) ∧
       bit (e.get (FSTAT.real (blkBase (.drm ch)))) 1 = true ∧ e.flag (DRM_UE_ADDR_HI.valid ch.val) = true ∧
       s.dev.keeps e [.regs, .sup, .poison, .drm]))

/-! ### Heddle pairs, clean slots, the shuttle engine (16) -/

/-- A pair's kick is noted at its instant; a doorbell write sets the other pair's bell and clears the writer's own;
any other master's write of 1 clears. Rules: 16 R449, R469. -/
def Obligations.PairsKickAndRing : Prop :=
  ∀ (s : State) (m : Master), s.dev.held = false → s.dev.issues m.val = true →
    let x := s.dev.request m.val 1
    (m.val = 0 → ∀ t, s.runs (.hdlKick m t) fun e => e.hdl = { x.hdl with kick0 := t } ∧ (x.at_ t).keeps e [.hdl]) ∧
    (m.val = 1 → ∀ t, s.runs (.hdlKick m t) fun e => e.hdl = { x.hdl with kick1 := t } ∧ (x.at_ t).keeps e [.hdl]) ∧
    (∀ v : W32, s.writesBy m.val (.hdlDoorbellWrite m v)
      [(HDL_DOORBELL.to_pair0, if bit v.toNat 0 then (if m.val = 1 then 1 else 0) else x.get HDL_DOORBELL.to_pair0),
       (HDL_DOORBELL.to_pair1, if bit v.toNat 1 then (if m.val = 0 then 1 else 0) else x.get HDL_DOORBELL.to_pair1)])

/-- An op written to an idle slot by a pair makes it busy with its dirty bytes, or completes at once with length 0; a
busy slot ignores it, and with all four busy it is refused (R457, R459). A slot that completes is done and no barrier
waits for it; the dirty bytes in its range, of lines in the general window that no bank in use holds, are in memory
then, and no other byte has changed. That the bytes of a clean reach memory at its end is the model's reading (log
32). Rules: 13 R372, 16 R451, R453, R457, R458, R459, R469. -/
def Obligations.CleanSlotsRunTheirOperations : Prop :=
  (∀ (s : State) (m : Master) (sl : Fin 4) (dirty : List (Nat × Byte)), s.dev.held = false → m.val < 2 →
    s.dev.issues m.val = true →
    let x := s.dev.request m.val 1
    ∀ p ∈ [(Instr.clean m sl dirty, dirty), (.cleanInv m sl dirty, dirty), (.inv m sl, [])],
    (x.flag (HDL_CLEAN_CTL.busy sl.val) = false → x.get (HDL_CLEAN_LEN.length sl.val) ≠ 0 → s.runs p.1 fun e =>
      e.flag (HDL_CLEAN_CTL.busy sl.val) = true ∧ e.get (HDL_CLEAN_CTL.pair sl.val) = m.val ∧
      e.get HDL_BARRIER.busy = x.get HDL_BARRIER.busy ||| 2 ^ sl.val ∧
      e.hdl = { x.hdl with dirty := e.hdl.dirty } ∧ Sparse.get (fun _ => []) e.hdl.dirty sl.val = p.2 ∧
      (x.rsq.held = [] → e.get HDL_BARRIER.held = x.get HDL_BARRIER.held ∧ e.rsq = x.rsq) ∧
      { x with hdl := e.hdl, rsq := e.rsq }.onlyFields e
        [HDL_CLEAN_CTL.pair sl.val, HDL_CLEAN_CTL.busy sl.val, HDL_BARRIER.busy, HDL_BARRIER.held]) ∧
    (x.flag (HDL_CLEAN_CTL.busy sl.val) = false → x.get (HDL_CLEAN_LEN.length sl.val) = 0 →
      s.writesBy m.val p.1 [(HDL_CLEAN_CTL.pair sl.val, m.val), (HDL_CLEAN_CTL.done sl.val, 1)]) ∧
    (x.allSlotsBusy = true → s.writesBy m.val p.1 [(HDL_BARRIER.clean_refused, 1)]) ∧
    (x.flag (HDL_CLEAN_CTL.busy sl.val) = true → x.allSlotsBusy = false → s.writesBy m.val p.1 [])) ∧
  ∀ (s : State) (sl : Fin 4), s.dev.held = false → s.dev.flag (HDL_CLEAN_CTL.busy sl.val) = true → s.dev.rsq.held = [] →
    let d := s.dev
    let m := d.get (HDL_CLEAN_CTL.pair sl.val)
    let base := d.get (HDL_CLEAN_LO.base_lo sl.val) + 2 ^ 32 * d.get (HDL_CLEAN_HI.base_hi sl.val)
    let dirty := Sparse.get (fun _ => []) d.hdl.dirty sl.val
    let done (e : Device) : Prop := e.flag (HDL_CLEAN_CTL.busy sl.val) = false ∧ e.flag (HDL_CLEAN_CTL.done sl.val) = true ∧
      e.get HDL_BARRIER.busy = d.get HDL_BARRIER.busy &&& (15 - 2 ^ sl.val) ∧ sl.val ∉ e.hdl.waitSlots ∧
      Sparse.get (fun _ => []) e.hdl.dirty sl.val = []
    (dirty = [] → s.runs (.cleanSlotDone sl) fun e => done e ∧ d.keeps e [.regs, .hdl]) ∧
    (dirty ≠ [] →
      (∀ c ∈ dirty, base ≤ c.1 ∧ c.1 < base + d.get (HDL_CLEAN_LEN.length sl.val) ∧ c.1 / 64 * 64 + 64 ≤ d.generalSize ∧
        d.bankGuard (c.1 / 64 * 64) 64 = false) →
      (dirty.Pairwise fun b c => b.1 ≠ c.1) →
      (∀ ch, ch < 24 → ∀ y ∈ (d.dram ch).queue, y.user = .matrix (Fin.ofNat 5 m) → y.owed = false) →
      (∀ y ∈ d.hdl.atPort, y.user ≠ .matrix (Fin.ofNat 5 m)) →
      s.runs (.cleanSlotDone sl) fun e => done e ∧ (∀ c ∈ dirty, e.byte c.1 = c.2) ∧
        (∀ a, (∀ c ∈ dirty, c.1 ≠ a) → e.byte a = d.byte a) ∧ (d.memWf → e.memWf) ∧
        d.keeps e [.mem, .poison, .drm, .freeN, .regs, .hdl])

/-- A pair that fails, by a mismatch, which is counted, or by its watchdog or another cause, which is not, is held in
reset and its latches are emptied; the first failure raises HDL source 2, that of the surviving pair the fatal source
3, and the survivor of the first takes both roles. Both roles go to the survivor whichever pair failed (log 32). How
many bursts beyond those outstanding in the memory controllers the reset completes, which reset_bursts counts, is a
free value of the model (log 60). Rules: 16 R449, R450, R454, R467, 19 R524. -/
def Obligations.PairFailureAndTakeover : Prop :=
  (∀ (s : State) (p : Fin 2), s.dev.held = false → s.dev.flag (pairHeld p.val) = false →
    let other := s.dev.flag (pairHeld (1 - p.val))
    let src := if other then 3 else 2
    s.dev.armed .hdl src = false →
    let out := min 16 (s.dev.outstanding p.val)
    let failed (x e : Device) : Prop := e.flag (pairHeld p.val) = true ∧ e.flag (pairHeld (1 - p.val)) = other ∧
      bit (e.get (FSTAT.real (blkBase .hdl))) src = true ∧ (other = true → e.flag GLB_FATAL.fatal = true) ∧
      Sparse.get (fun _ => none) e.rlatch p.val = none ∧ Sparse.get (fun _ => none) e.wlatch p.val = none ∧
      e.get MTX_CNT.reset_bursts = satU 16 (s.dev.get MTX_CNT.reset_bursts + out + Config.free s.dev.freeN % (17 - out)) ∧
      x.keeps e [.regs, .rlatch, .wlatch, .hdl, .sup, .freeN, .drm]
    (∀ mismatch : Bool, s.runs (.pairFail p mismatch) fun e => failed s.dev e ∧
      let f := if p.val = 0 then HDL_PAIR_ERR.mismatch0 else HDL_PAIR_ERR.mismatch1
      e.get f = if mismatch then satU 8 (s.dev.get f + 1) else s.dev.get f) ∧
    (s.runs (.heddleWatchdogExpiry p) fun e =>
      failed (s.dev.at_ ((if p.val = 0 then s.dev.hdl.kick0 else s.dev.hdl.kick1) + 80000000)) e)) ∧
  (∀ (s : State) (p : Fin 2), s.dev.held = false → s.dev.flag (pairHeld (1 - p.val)) = true →
    s.dev.flag (pairHeld p.val) = false → (s.dev.get HDL_ROLE.ctl ≠ p.val ∨ s.dev.get HDL_ROLE.svc ≠ p.val) →
    s.runs .controlTakeover fun e =>
      e.get HDL_ROLE.ctl = p.val ∧ e.get HDL_ROLE.svc = p.val ∧
      e.get HDL_ROLE.takeovers = satU 8 (s.dev.get HDL_ROLE.takeovers + 1) ∧
      (s.dev.rsq.linkUp0 = true → s.dev.rsq.linkUp1 = true → e.rsq = s.dev.rsq) ∧
      { s.dev with rsq := e.rsq }.onlyFields e [HDL_ROLE.ctl, HDL_ROLE.svc, HDL_ROLE.takeovers])

/-- A shuttle channel that is started is READY with its cause cleared, the next READY channel in turn runs, a stop of
a READY channel stops it and a stop of the running one waits for its descriptor. That a start clears the cause is the
model's reading (log 33). Rules: 16 R464, R465. -/
def Obligations.ShuttleChannelsStartRunAndStop : Prop :=
  ∀ (s : State) (m : Master) (n : Fin 16), s.dev.held = false →
    (s.dev.issues m.val = true → ∀ h : Bool,
      let x := s.dev.request m.val 1
      let heddle : Fld × Nat := (SHT_CH_CTL.heddle n.val,
        if m.val < 2 then (if h then 1 else 0) else x.get (SHT_CH_CTL.heddle n.val))
      let st := x.shtState n.val
      (st ≠ 1 → st ≠ 2 → s.writesBy m.val (.shtStart m n false h)
        [heddle, (SHT_CH_STAT.state n.val, 1), (SHT_CH_STAT.stop_pending n.val, 0), (SHT_CH_STAT.cause n.val, 0)]) ∧
      ((st = 1 ∨ st = 2) → s.writesBy m.val (.shtStart m n false h) [heddle]) ∧
      s.writesBy m.val (.shtStart m n true h) [heddle] ∧
      (st = 1 → s.writesBy m.val (.shtStop m n h) [heddle, (SHT_CH_STAT.state n.val, 3)]) ∧
      (st = 2 → s.writesBy m.val (.shtStop m n h) [heddle, (SHT_CH_STAT.stop_pending n.val, 1)]) ∧
      (st ≠ 1 → st ≠ 2 → s.writesBy m.val (.shtStop m n h) [heddle])) ∧
    (s.dev.flag SHT_STAT.busy = false → s.dev.nextChannel = some n.val → s.writes .channelRunStart
      [(SHT_CH_STAT.state n.val, 2), (SHT_STAT.running, n.val), (SHT_STAT.busy, 1)])

/-- The running channel fetches the descriptor at SHT_CH_NEXT: a good one is taken, with the bytes left to write, and
with barrier set it waits for the clean slots then busy, also with length 0 (R463); one of length 0 that waits for
none completes at once; one with reserved bits set or fields out of range stops the channel in ERROR with cause 5
(R461, R466). An error response stops the running channel in ERROR with its cause, before the descriptor is fetched
and once it moves, and changes nothing while it waits for clean slots. That a poisoned fetch ends with cause POISON is
the model's reading (log 33); how much of a move has been written as an error comes is a free value (log 33). Rules:
16 R457, R460, R461, R463, R464, R466. -/
def Obligations.DescriptorsAreFetchedAndChecked : Prop :=
  (∀ (s : State) (n : Nat), s.dev.held = false → s.dev.flag SHT_STAT.busy = true → s.dev.hdl.desc = none →
     s.dev.get SHT_STAT.running = n → n < 16 →
     let a := s.dev.get (SHT_CH_NEXT_LO.lo n) + 2 ^ 32 * s.dev.get (SHT_CH_NEXT_HI.hi n)
     let h := s.dev.flag (SHT_CH_CTL.heddle n)
     let y := s.dev.request 2 1
     let x := readDesc (y.winBytes h a 32)
     let wait := if bit x.1.flags 2 then (List.range 4).filter fun k => y.flag (HDL_CLEAN_CTL.busy k) else []
     let found := (y.decodes h a 32).isSome = true ∧ y.poisoned a 32 = false
     let ends (e : Device) (cause : Nat) : Prop := e.get (SHT_CH_STAT.state n) = 5 ∧ e.get (SHT_CH_STAT.cause n) = cause ∧
       bit (e.get SHT_EVENT.error) n = true ∧ e.flag SHT_STAT.busy = false ∧ e.get SHT_STAT.last = n
     (found → x.2 = true → x.1.bad = false → x.1.len = 0 → wait = [] → s.runs .descriptorStart fun e =>
       e.hdl.desc = none ∧ e.get (SHT_CH_COUNT.value n) = (y.get (SHT_CH_COUNT.value n) + 1) % 2 ^ 32 ∧
       (bit x.1.flags 0 = true → bit (e.get SHT_EVENT.done) n = true) ∧
       (bit x.1.flags 1 = true → e.get (SHT_CH_STAT.state n) = 4 ∧ e.flag SHT_STAT.busy = false ∧ e.get SHT_STAT.last = n) ∧
       (bit x.1.flags 1 = false → e.get (SHT_CH_NEXT_LO.lo n) + 2 ^ 32 * e.get (SHT_CH_NEXT_HI.hi n) = x.1.next) ∧
       y.keeps e [.regs, .hdl, .drm]) ∧
     (found → x.2 = true → x.1.bad = false → (x.1.len ≠ 0 ∨ wait ≠ []) → s.runs .descriptorStart fun e =>
       e.hdl = { y.hdl with desc := some x.1, waitSlots := wait } ∧ e.get (SHT_CH_REMAIN.value n) = x.1.len % 2 ^ 32 ∧
       e.get (SHT_CH_CUR_LO.lo n) = a % 2 ^ 32 ∧ e.get (SHT_CH_CUR_HI.hi n) = a / 2 ^ 32 % 2 ^ 16 ∧
       { y with hdl := e.hdl, drm := e.drm }.onlyFields e [SHT_CH_REMAIN.value n, SHT_CH_CUR_LO.lo n, SHT_CH_CUR_HI.hi n]) ∧
     (found → (x.2 = false ∨ x.1.bad = true) → s.runs .descriptorStart fun e => ends e 5 ∧ y.keeps e [.regs, .hdl, .drm]) ∧
     (y.decodes h a 32 = none → s.runs .descriptorStart fun e => ends e 1 ∧ y.keeps e [.regs, .hdl]) ∧
     ((y.decodes h a 32).isSome = true → y.poisoned a 32 = true → s.runs .descriptorStart fun e =>
       ends e 4 ∧ y.keeps e [.regs, .hdl, .drm, .sup, .poison])) ∧
  (∀ (s : State) (n : Nat) (cause : Fin 5), s.dev.held = false → s.dev.flag SHT_STAT.busy = true →
     s.dev.get SHT_STAT.running = n → n < 16 →
     let stops (e : Device) : Prop := e.get (SHT_CH_STAT.state n) = 5 ∧ bit (e.get SHT_EVENT.error) n = true ∧
       e.flag SHT_STAT.busy = false ∧ e.get SHT_STAT.last = n ∧ e.hdl.desc = none
     (s.dev.hdl.desc = none → s.runs (.shtBusError cause) fun e => stops e ∧ e.get (SHT_CH_STAT.cause n) = cause.val + 1 ∧
       s.dev.keeps e [.regs, .hdl]) ∧
     (∀ x, s.dev.hdl.desc = some x → s.dev.hdl.waitSlots = [] → s.runs (.shtBusError cause) fun e => stops e ∧
       (x.len = 0 → e.get (SHT_CH_STAT.cause n) = cause.val + 1 ∧ s.dev.keeps e [.regs, .hdl, .freeN])) ∧
     (∀ x, s.dev.hdl.desc = some x → s.dev.hdl.waitSlots ≠ [] → s.runs (.shtBusError cause) fun e => e = s.dev))

/-- A descriptor that has waited for its clean slots copies its bytes, from low addresses to high or, where both
increment and the destination starts inside the source, from high to low; a fixed source is read again for every beat,
and a fixed destination keeps the last beat. Nothing else of memory changes. The channel ends in DONE with a last
descriptor, stops where a stop is pending, and goes on with the next one otherwise. That a stop pending on a last
descriptor leaves the channel DONE is the model's reading (log 33). Rules: 16 R461, R462, R463, R464, R465, R466. -/
def Obligations.DescriptorCompleteCopiesItsBytes : Prop :=
  ∀ (s : State) (n : Nat) (x : Desc), s.dev.held = false → s.dev.hdl.desc = some x → s.dev.hdl.waitSlots = [] →
    s.dev.get SHT_STAT.running = n → n < 16 → x.bad = false → x.inc < 4 → x.len < 2 ^ 32 → x.next < 2 ^ 48 →
    let d := s.dev
    let reads := if bit x.inc 0 then x.len else 2 ^ x.srcW
    let writes := if bit x.inc 1 then x.len else 2 ^ x.dstW
    x.src + reads ≤ d.generalSize → x.dst + writes ≤ d.generalSize → d.poisoned x.src reads = false →
    d.bankGuard x.dst writes = false → (x.inc = 3 ∨ x.src + reads ≤ x.dst ∨ x.dst + writes ≤ x.src) →
    (∀ ch, ch < 24 → ∀ y ∈ (d.dram ch).queue, y.user = .matrix 2 → y.owed = false) →
    (∀ y ∈ d.hdl.atPort, y.user ≠ .matrix 2) →
    let source (i : Nat) : Byte := d.byte (x.src + if bit x.inc 0 then i else i % 2 ^ x.srcW)
    s.runs .descriptorComplete fun e =>
      (bit x.inc 1 = true → ∀ i, i < x.len → e.byte (x.dst + i) = source i) ∧
      (bit x.inc 1 = false → 0 < x.len → ∀ i, i < 2 ^ x.dstW → e.byte (x.dst + i) = source (x.len - 2 ^ x.dstW + i)) ∧
      (∀ a, a < x.dst ∨ x.dst + writes ≤ a → e.byte a = d.byte a) ∧ (x.len = 0 → e.mem = d.mem) ∧ (d.memWf → e.memWf) ∧
      e.get (SHT_CH_REMAIN.value n) = 0 ∧ e.get (SHT_CH_COUNT.value n) = (d.get (SHT_CH_COUNT.value n) + 1) % 2 ^ 32 ∧
      (bit x.flags 0 = true → bit (e.get SHT_EVENT.done) n = true) ∧ e.hdl.desc = none ∧
      (bit x.flags 1 = true → e.get (SHT_CH_STAT.state n) = 4 ∧ e.flag SHT_STAT.busy = false ∧ e.get SHT_STAT.last = n) ∧
      (bit x.flags 1 = false → e.get (SHT_CH_NEXT_LO.lo n) + 2 ^ 32 * e.get (SHT_CH_NEXT_HI.hi n) = x.next ∧
        (d.flag (SHT_CH_STAT.stop_pending n) = true →
          e.get (SHT_CH_STAT.state n) = 3 ∧ e.flag SHT_STAT.busy = false ∧ e.get SHT_STAT.last = n) ∧
        (d.flag (SHT_CH_STAT.stop_pending n) = false →
          e.get (SHT_CH_STAT.state n) = d.get (SHT_CH_STAT.state n) ∧ e.flag SHT_STAT.busy = d.flag SHT_STAT.busy)) ∧
      d.keeps e [.mem, .poison, .regs, .hdl, .drm]

/-! ### Picks, commits and device time (02) -/

/-- R40: whenever a boundary falls while PCK is RUNNING, PN increases by one and passes from 2^48 - 1 to 0, the epoch
number then increasing and passing from 65,535 to 0. Rules: 02 R40. -/
def Obligations.PickBoundaryAdvancesPn : Prop :=
  ∀ s : State, s.dev.held = false → s.dev.running = true →
    let pn (d : Device) : Nat := d.get PCK_PN_LO.pn_lo + 2 ^ 32 * d.get PCK_PN_HI.pn_hi
    let epoch (d : Device) : Nat := d.get PCK_PN_HI.epoch
    s.runs .pickBoundary fun e =>
      pn e = (pn s.dev + 1) % 2 ^ 48 ∧ epoch e = (if pn s.dev = 2 ^ 48 - 1 then (epoch s.dev + 1) % 2 ^ 16 else epoch s.dev)

/-- While an arm taken from RUNNING waits for its edge there is no pick boundary (R543), but the pick timer's grid of
periods goes on (R29; log 27) and nothing else moves. While the blocks wait to resume, a boundary moves PN and, at a
shed boundary, the bank that accumulates (18 R499, 06 R545). With no draft woven and nothing waiting, the interval
computes no beam and sums no pick. That the auto-power registers then read as for a pick wholly blanked is the model's
reading (log 28). Rules: 02 R29, R40, 18 R499, 02 R543, 06 R545, 05 R125. -/
def Obligations.IdleBoundariesMoveOnlyTheTimer : Prop :=
  ∀ s : State, s.dev.held = false →
    let x := s.dev
    let now := x.tm.pickStart + x.period
    let m := (x.pn + 1) % 2 ^ 64
    let d := x.at_ now
    let moved (e : Device) : Prop := e.pn = m ∧ e.tm = { d.tm with pickStart := now }
    let pnFields := [PCK_PN_LO.word, PCK_PN_HI.word, PCK_SHED_POS.pick_in_shed]
    let quiet := x.jrn.resumePick = none ∧ x.flag GLB_FATAL.fatal = false ∧ x.ports = [] ∧ x.tm.commit = none ∧
      x.tm.fwCommit = false ∧ x.tm.syncFrom = none ∧ x.tm.stretch = none ∧ x.drafts.armed = none
    (x.get PCK_STATE.state = 1 → x.tm.armedFrom = 2 → s.runs .pickBoundary fun e =>
      e.tm.pickStart = now ∧ e.tm.bases.head? = some (m, now + x.period, x.period) ∧
      e = { d with tm := { d.tm with pickStart := now, bases := e.tm.bases } }) ∧
    (x.running = false → (x.get PCK_STATE.state = 1 → x.tm.armedFrom ≠ 2) → s.runs .pickBoundary fun e => e = x) ∧
    (x.running = true → x.restarting = true → quiet →
      (x.woven = false → s.runs .pickBoundary fun e => moved e ∧ { d with tm := e.tm }.onlyFields e pnFields) ∧
      (x.woven = true → s.runs .pickBoundary fun e => moved e ∧
        let flips := (m + 2 ^ 48 - 1) % 2 ^ 48 % x.shedLen = 0
        e.sheds = (if flips then { x.sheds with bank := !x.sheds.bank } else x.sheds) ∧
        (flips → ∀ k, k < 68 → e.flag (LOM_STAT.acc_bank k) = !x.sheds.bank) ∧
        { d with tm := e.tm, sheds := e.sheds }.onlyFields e (pnFields ++ (List.range 68).map LOM_STAT.acc_bank))) ∧
    (x.running = true → x.restarting = false → quiet →
      x.woven = false → x.beams = none → x.sheds.flipDue = false → x.sheds.cur = none → x.sheds.ending = none →
      x.chains.closed = [] → x.chains.units = [] → x.setter.sw = none → x.jrn.landing = [] → x.jrn.replays = [] → x.queues = [] →
      (∀ e, e < 4 → x.trdState e < 2) →
      s.runs .pickBoundary fun e => moved e ∧ e.get PCK_SHED_POS.pick_in_shed = 0 ∧
        (∀ f ∈ [APU_PEAK.value, APU_PEAK.input, BTN_PEAK.value, BTN_PEAK_BEAM.beam, BTN_CLASSES.voltage, BTN_CLASSES.zoom,
          BTN_CLASSES.power], e.get f = 0) ∧ e.get APU_BLANKED.count = 4096 ∧
        (∀ h, h < 64 → e.get (HRN_STAT.unblanked h) = 0 ∧ e.get (HRN_STAT.blending h) = 0) ∧
        (∀ k, k < 68 → e.get (LOM_SPILLQ.admitted_now k) = 0) ∧
        { d with tm := e.tm, sheds := { x.sheds with work := [], worn := [], drainedNow := 0 },
                 chains := { x.chains with liveEnt := none } }.onlyFields e
          (pnFields ++ [APU_PEAK.value, APU_PEAK.input, APU_BLANKED.count, BTN_PEAK.value, BTN_PEAK_BEAM.beam,
            BTN_CLASSES.voltage, BTN_CLASSES.zoom, BTN_CLASSES.power] ++ (List.range 68).map LOM_SPILLQ.admitted_now ++
            (List.range 64).flatMap fun h => [HRN_STAT.unblanked h, HRN_STAT.blending h]))

/-- A commit request copies the shadows of the pick-committed registers and waits for its moment, 64 cycles on; a
second one only sets busy_err; one for a boundary that is past or too near is dropped as late; a cancel drops the one
that waits, and a commit that firmware has waited to make of its own then begins (R526). Boundaries are compared as
64-bit numbers (log 27). When firmware makes its own commit is the model's reading (log 37). Rules: 02 R46, R47, R48,
R49, 19 R526. -/
def Obligations.CommitRequestsCopyTheShadows : Prop :=
  ∀ (s : State) (m : Master) (t : Nat), s.dev.held = false → s.dev.issues m.val = true →
    let d := (s.dev.request m.val 1).at_ t
    let x := s.dev.request m.val 1
    let waits (c : Instr) (target : Option Nat) : Prop := s.runs c fun e =>
      e.tm.commit = some { shadows := Sparse.keep isRwp d.regs, at_ := target, moment := t + 64,
                           atMoment := target.isNone && !d.running } ∧
      e.get PCK_COMMIT_STAT.pending = 1 ∧ { d with tm := { d.tm with commit := e.tm.commit } }.onlyFields e [PCK_COMMIT_STAT.pending]
    (d.tm.commit = none →
      waits (.commitRequest m t) none ∧
      ((d.running = false ∨ d.pn < d.commitAt ∧ t + 64 ≤ d.boundaryTime d.commitAt) →
        waits (.commitAtRequest m t) (some d.commitAt)) ∧
      (d.running = true → (d.commitAt ≤ d.pn ∨ d.boundaryTime d.commitAt < t + 64) →
        s.runs (.commitAtRequest m t) fun e => e.tm.commit = none ∧ e.get PCK_COMMIT_STAT.late = 1 ∧
          e.get PCK_COMMIT_STAT.pending = 0 ∧ d.onlyFields e [PCK_COMMIT_STAT.pending, PCK_COMMIT_STAT.late])) ∧
    (d.tm.commit.isSome = true →
      ∀ c ∈ [Instr.commitRequest m t, Instr.commitAtRequest m t], s.runs c fun e =>
        e.get PCK_COMMIT_STAT.busy_err = 1 ∧ d.onlyFields e [PCK_COMMIT_STAT.busy_err]) ∧
    (x.tm.commit.isSome = true →
      (x.tm.fwCommit = false → s.runs (.commitCancel m) fun e => e.tm.commit = none ∧ e.get PCK_COMMIT_STAT.pending = 0 ∧
        { x with tm := { x.tm with commit := none } }.onlyFields e [PCK_COMMIT_STAT.pending]) ∧
      (x.tm.fwCommit = true → x.fwUp = true → s.runs (.commitCancel m) fun e =>
        e.tm.fwCommit = false ∧ e.get PCK_COMMIT_STAT.pending = 1 ∧ e.tm.commit.map Commit.moment = some (x.tm.now + 64) ∧
        x.keeps e [.regs, .tm, .rsq])) ∧
    (x.tm.commit = none → s.writesBy m.val (.commitCancel m) [])

/-- A commit without `at` that was requested while PCK was not RUNNING, or that an arm has overtaken, takes effect at
its moment: every pending value becomes live at once, and it is counted with the PN then held. When no control that
acts has changed, nothing else changes. While RUNNING a commit takes effect at the first boundary at or after its
moment, or at the boundary it names; one whose boundary has gone by or comes before its moment is dropped as late; any
other goes on waiting. That a commit requested while RUNNING and overtaken by an arm takes effect at its moment is the
model's choice (log 27). Rules: 02 R44, R46, R47, R48, R50, R543. -/
def Obligations.StoppedCommitTakesEffect : Prop :=
  (∀ (s : State) (t : Nat) (c : Commit), s.dev.held = false → (s.dev.running = false ∨ c.atMoment = true) →
    s.dev.tm.commit = some c → c.at_ = none → s.dev.tm.fwCommit = false → c.moment ≤ t →
    let x := s.dev
    let d := x.at_ t
    let live (f : Fld) : Nat := f.of (Sparse.get resetWord c.shadows f.addr)
    (∀ p, p < 64 → live (WRP_CTL.enable p) = x.liveOf (WRP_CTL.enable p) ∧
      (live (WRP_CTL.enable p) = 0 ∨ live (WRP_CTL.retrain p) = x.liveOf (WRP_CTL.retrain p))) →
    (∀ p, p < 32 → live (CLO_CTL.enable p) = x.liveOf (CLO_CTL.enable p)) →
    (∀ k, k < 68 → live (LOM_RETIRE.retire_req k) = 0) → (∀ e, e < 4 → x.trdState e ≠ 3 ∧ x.trdState e ≠ 4) →
    live HST_SWAP.req_seq = x.setter.lastSeq →
    s.runs (.commitStoppedApply t) fun e =>
      e.live = c.shadows ∧ e.tm.commit = none ∧ e.get PCK_COMMIT_STAT.pending = 0 ∧
      e.get PCK_COMMIT_STAT.applied_count = (x.get PCK_COMMIT_STAT.applied_count + 1) % 2 ^ 16 ∧
      e.get PCK_COMMIT_PN_LO.cpn_lo = x.get PCK_PN_LO.word ∧ e.get PCK_COMMIT_PN_HI.cpn_hi = x.get PCK_PN_HI.word ∧
      { d with live := e.live, tm := { d.tm with commit := none } }.onlyFields e [PCK_COMMIT_STAT.pending,
        PCK_COMMIT_STAT.applied_count, PCK_COMMIT_PN_LO.cpn_lo, PCK_COMMIT_PN_HI.cpn_hi]) ∧
  (∀ (s : State) (c : Commit), s.dev.held = false → s.dev.running = true → s.dev.drafts.armed = none →
    s.dev.tm.commit = some c → s.dev.tm.fwCommit = false →
    let x := s.dev
    let now := x.tm.pickStart + x.period
    let m := (x.pn + 1) % 2 ^ 64
    let applied (e : Device) : Nat := e.get PCK_COMMIT_STAT.applied_count
    ((c.at_ = none ∨ c.at_ = some m) → c.moment ≤ now → s.runs .pickBoundary fun e =>
      e.live = c.shadows ∧ e.tm.commit = none ∧ e.get PCK_COMMIT_STAT.pending = 0 ∧ applied e = (applied x + 1) % 2 ^ 16 ∧
      e.pair PCK_COMMIT_PN_LO.cpn_lo PCK_COMMIT_PN_HI.cpn_hi = m) ∧
    (∀ n, c.at_ = some n → (n < m ∨ n = m ∧ now < c.moment) → s.runs .pickBoundary fun e =>
      e.live = x.live ∧ e.tm.commit = none ∧ e.get PCK_COMMIT_STAT.pending = 0 ∧ e.get PCK_COMMIT_STAT.late = 1 ∧
      applied e = applied x) ∧
    ((c.at_ = none ∧ now < c.moment ∨ ∃ n, c.at_ = some n ∧ m < n) → s.runs .pickBoundary fun e =>
      e.live = x.live ∧ e.tm.commit = some c ∧ e.get PCK_COMMIT_STAT.pending = x.get PCK_COMMIT_STAT.pending ∧
      applied e = applied x))

/-- A synchronising reset is asked for by an edge of SYNC_IN or by PCK_SYNC, and waits; one more while it waits
merges. It acts at the first boundary that is not before its 64 cycles: it is counted with that pick, ZCH_GEN
increases, and every chain and detector is to clear before that pick's first sample. A time load is armed while no
draft is woven, refused while one is, and a cancel brings the state back. Rules: 02 R41, R51, R52, 08 R233, R234. -/
def Obligations.SyncRequestsAndTimeLoads : Prop :=
  ∀ s : State, s.dev.held = false →
    (∀ t : Nat, s.dev.running = true → s.dev.drafts.armed = none → s.dev.tm.syncFrom = some t →
      let x := s.dev
      let now := x.tm.pickStart + x.period
      let m := (x.pn + 1) % 2 ^ 64
      let gen := x.get ZCH_GEN.gen
      (now < t → s.runs .pickBoundary fun e =>
        e.tm.syncFrom = some t ∧ e.get PCK_SYNC_STAT.pending = x.get PCK_SYNC_STAT.pending ∧
        e.get PCK_SYNC_STAT.count = x.get PCK_SYNC_STAT.count ∧ e.chains.resetAt = x.chains.resetAt ∧ e.get ZCH_GEN.gen = gen) ∧
      (t ≤ now → s.runs .pickBoundary fun e =>
        e.tm.syncFrom = none ∧ e.get PCK_SYNC_STAT.pending = 0 ∧
        e.get PCK_SYNC_STAT.count = (x.get PCK_SYNC_STAT.count + 1) % 2 ^ 16 ∧
        e.pair PCK_SYNC_PN_LO.spn_lo PCK_SYNC_PN_HI.spn_hi = m ∧ e.chains.resetAt = some m ∧
        (gen ≠ 2 ^ 32 - 1 → e.get ZCH_GEN.gen = gen + 1) ∧
        (gen = 2 ^ 32 - 1 → e.get ZCH_GEN.gen = 1 ∧ e.get ZCH_STAT.gen_wrap = 1))) ∧
    (∀ t high low : Nat, ∀ m : Master, 16 ≤ high → 16 ≤ low → s.dev.issues m.val = true →
      let asks (c : Instr) (source : Nat) (d : Device) : Prop :=
        (d.tm.syncFrom = none → s.runs c fun e => e.tm.syncFrom = some (t + 64) ∧ e.get PCK_SYNC_STAT.pending = 1 ∧
          e.get PCK_SYNC_STAT.source = source ∧ { d with tm := { d.tm with syncFrom := some (t + 64) } }.onlyFields e
            [PCK_SYNC_STAT.pending, PCK_SYNC_STAT.source]) ∧
        (d.tm.syncFrom.isSome = true → s.runs c fun e =>
          e.get PCK_SYNC_STAT.merged = 1 ∧ d.onlyFields e [PCK_SYNC_STAT.merged])
      asks (.syncInEdge t high low) 0 (s.dev.at_ t) ∧ asks (.syncGo m t) 1 ((s.dev.request m.val 1).at_ t)) ∧
    (∀ m : Master, s.dev.issues m.val = true →
      let x := s.dev.request m.val 1
      (x.get PCK_STATE.state ≠ 1 → x.woven = false → s.runs (.loadArm m) fun e =>
        e.get PCK_STATE.state = 1 ∧ e.tm = { x.tm with armedFrom := x.get PCK_STATE.state } ∧
        { x with tm := e.tm }.onlyFields e [PCK_STATE.state]) ∧
      (x.get PCK_STATE.state ≠ 1 → x.woven = true → s.writesBy m.val (.loadArm m) [(PCK_STATE.load_refused, 1)]) ∧
      (x.get PCK_STATE.state = 1 → x.tm.armedFrom < 4 → ∀ both : Bool,
        s.writesBy m.val (.loadCancel m both) [(PCK_STATE.state, x.tm.armedFrom)]))

/-- At a device second an armed time load takes effect: PN and its epoch are the loaded ones, PCK is RUNNING from that
instant. At a PPS-aligned period a second more than 2 cycles from a boundary is a mismatch. Instants between two
commands are the model's own (log 23), and that the boundary to match is the nearest one is its choice (log 85).
Rules: 02 R29, R41, 14 R391. -/
def Obligations.DeviceSecondLoadsOrChecksTime : Prop :=
  ∀ (s : State) (t : Nat), s.dev.held = false → s.dev.flag REF_STAT.second_valid = true → s.dev.get REF_STAT.state ≠ 3 →
    let d := s.dev.at_ t
    let n := s.dev.pair PCK_LOAD_PN_LO.word PCK_LOAD_PN_HI.word
    (s.dev.get PCK_STATE.state = 1 → s.dev.tm.commit = none → s.dev.tm.syncFrom = none → s.runs (.deviceSecond t) fun e =>
      e.pn = n ∧ e.pair PCK_TBASE_PN_LO.tbase_lo PCK_TBASE_PN_HI.tbase_hi = n ∧ e.get PCK_STATE.state = 2 ∧
      e.get PCK_STATE.mismatch_count = 0 ∧
      e.tm = { d.tm with second := some t, pickStart := t, bases := [(n, t, s.dev.period)] } ∧ e.jrn.reopen = true ∧
      e.jrn.landing = [] ∧ d.keeps e [.regs, .tm, .jrn, .sheds, .creel, .mem, .poison, .drm]) ∧
    (s.dev.running = true → s.dev.flag PCK_CFG.pps_aligned = true →
      let r := (t - s.dev.tm.pickStart) % s.dev.period
      let e0 := { d with tm := { d.tm with second := some t } }
      (min r (s.dev.period - r) ≤ 2 → s.runs (.deviceSecond t) fun e => e = e0) ∧
      (2 < min r (s.dev.period - r) → s.runs (.deviceSecond t) fun e =>
        e.get PCK_STATE.pulse_mismatch = 1 ∧
        e.get PCK_STATE.mismatch_count = satU 16 (s.dev.get PCK_STATE.mismatch_count + 1) ∧
        e0.onlyFields e [PCK_STATE.pulse_mismatch, PCK_STATE.mismatch_count]))

/-- As time passes the applied θ moves towards its target by 1 ps in 1,600 loom cycles and no further; while a switch
slews, it stands and what is left of the switch's slew shrinks at that rate. Nothing else changes. The steps of 1 ps
are the model's (log 23). Rules: 14 R404, R405. -/
def Obligations.AppliedThetaSlewsTowardsItsTarget : Prop :=
  ∀ (d : Device) (t : Nat), d.tm.now < t →
    let goal := sx 32 (d.get REF_THETA.theta)
    let was := sx 32 (d.get REF_THETA_APP.theta)
    let u := (d.ref.slewFrac + (t - d.tm.now)) / 1600
    let e := d.at_ t
    e.tm = { d.tm with now := t, mark := if t / 2 = d.tm.now / 2 then d.tm.mark else d.regs } ∧ d.keeps e [.regs, .tm, .ref] ∧
    (∀ g : Fld, g.addr ≠ REF_THETA_APP.theta.addr → e.get g = d.get g) ∧
    (d.get REF_STAT.state = 2 → e.get REF_THETA_APP.theta = d.get REF_THETA_APP.theta ∧
      e.ref.slewLeft.natAbs = d.ref.slewLeft.natAbs - (d.ref.slewPart + (t - d.tm.now)) / 1600 ∧
      e.ref.slewLeft + e.ref.moved = d.ref.slewLeft + d.ref.moved) ∧
    (d.get REF_STAT.state ≠ 2 → was ≤ goal → sx 32 (e.get REF_THETA_APP.theta) = min goal (was + u)) ∧
    (d.get REF_STAT.state ≠ 2 → goal ≤ was → sx 32 (e.get REF_THETA_APP.theta) = max goal (was - u))

/-! ### Captures (10) -/

/-- A trigger that finds every slot free and nothing journalled freezes in slot 0 the window that the live pre and
post name, is acknowledged for 1,600 cycles, counted and entered in the ledger; where the span of its pick got no
segment it is refused and counted. A read marks a slot that holds a capture; a release frees it and ends a readout
that goes on. Rules: 10 R262, R264, R265, R267, R268, R270, R274, R285. -/
def Obligations.CapturesTriggerReadAndRelease : Prop :=
  ∀ s : State, s.dev.held = false → s.dev.boot.dramReady = true →
    (∀ (t high low : Nat) (m : Master), 16 ≤ high → 16 ≤ low → s.dev.issues m.val = true →
      let triggers (c : Instr) (d : Device) (pick src : Nat) : Prop :=
        (∀ n, n < 16 → d.capState n = 0) → d.jrn.segs = [] → d.jrn.lastTrig = none → 1 ≤ d.get JRN_CFG.cap_limit →
        d.armed .jrn 4 = false →
        (d.jrn.unjournalled.contains (spanOf pick) = false → s.runs c fun e =>
          e.capState 0 = 1 ∧ e.get (JRN_CAP_STAT.serial 0) = d.jrn.serial % 2 ^ 16 ∧
          e.jrn.serial = (d.jrn.serial + 1) % 65536 ∧
          e.pair (JRN_CAP_T_LO.t_lo 0) (JRN_CAP_T_HI.t_hi 0) = pick ∧
          (e.capture 0).first = pick - d.liveOf JRN_CAP_PRE.picks ∧
          (e.capture 0).last = pick + d.liveOf JRN_CAP_POST.picks ∧ (e.capture 0).sources = src ∧
          e.flag JRN_EVENT.freeze = true ∧ e.get JRN_TRIG_CNT.taken = satU 16 (d.get JRN_TRIG_CNT.taken + 1) ∧
          e.lseq = (d.lseq + 1) % 2 ^ 64 ∧ e.trigAck = some (max (t + 1600) (d.trigAck.getD 0)) ∧
          d.keeps e [.regs, .jrn, .trigAck, .drm]) ∧
        (d.jrn.unjournalled.contains (spanOf pick) = true → s.runs c fun e =>
          e.flag JRN_EVENT.refused = true ∧ e.get JRN_TRIG_CNT.refused = satU 16 (d.get JRN_TRIG_CNT.refused + 1) ∧
          { d with jrn := { d.jrn with lastTrig := e.jrn.lastTrig } }.onlyFields e
            [JRN_EVENT.refused, JRN_TRIG_CNT.refused])
      let asked := (s.dev.request m.val 1).at_ t
      triggers (.trigInEdge t high low) (s.dev.at_ t) (s.dev.at_ t).pn 1 ∧
      triggers (.captureTrigger m false t) asked asked.pn 2 ∧
      (let at_ := asked.pair JRN_CAP_AT_LO.at_lo JRN_CAP_AT_HI.at_hi
       asked.pn ≤ at_ → triggers (.captureTrigger m true t) asked at_ 2)) ∧
    (∀ t u : Nat, s.dev.trigAck = some u →
      s.runs (.trigAckEnd t) fun e => e = { s.dev.at_ t with trigAck := if u ≤ t then none else some u }) ∧
    (∀ (m : Master) (n : Fin 16), s.dev.issues m.val = true →
      let x := s.dev.request m.val 1
      (∀ auto : Bool, (x.capState n.val = 1 ∨ x.capState n.val = 2 ∨ x.capState n.val = 4) →
        s.runs (.captureRead m n auto) fun e => e = x.setCapture n.val { x.capture n.val with
          wantRead := true, autoRelease := auto, lastByte := none,
          ports := x.pair JRN_CAP_PORTS_LO.ports_lo JRN_CAP_PORTS_HI.ports_hi }) ∧
      (x.capState n.val ≠ 0 → x.armed .jrn 4 = false → s.runs (.captureRelease m n) fun e =>
        e.capState n.val = 0 ∧ e.flag JRN_EVENT.released = true ∧ e.capture n.val = Capture.cold ∧
        (x.capState n.val = 3 → e.flag JRN_EVENT.read_done = true) ∧
        e.lseq = (x.lseq + 1) % 2 ^ 64 ∧ x.keeps e [.regs, .jrn, .drm]))

/-- At the boundary that ends a pick, its slot's payload with every blanked input zero, when a frame of it was
accepted, and its directory entry are on their way to the segment being written, readable from the start of the third
interval after; the ledger gets a PICK entry; a pick without a segment is counted; a capture whose window is written
is COMPLETE. The readout of a capture that is to be read waits until the window's picks are readable (R261), then
makes its slot READING with the pieces that it has; its end makes it READ. When the bytes of a pick are readable, and
that a readout waits for picks on their way, is the model's reading (log 53). Rules: 10 R259, R260, R261, R262, R269,
R270, R274, R287. -/
def Obligations.CaptureReadoutStartsAndEnds : Prop :=
  (∀ s : State, s.dev.plainBoundary → s.dev.boot.dramReady = true → s.dev.jrn.reopen = false → s.dev.pn % 1024 ≠ 0 →
    let x := s.dev
    let c := x.pickSlot x.pn
    let chan := x.channelOf x.pn
    let stored := Sparse.getAll memDflt c.payload 0 1048576
    let still := x.jrn.landing.filter fun y => !ahead ((x.pn + 1) % 2 ^ 64) (y.1 + 3)
    s.runs .pickBoundary fun e =>
      (∀ g, x.jrn.cur = some g →
        e.jrn.landing = still ++ (if c.accepted = 0 then [] else [(x.pn, x.slotAddr g x.pn, stored)]) ++
          [(x.pn, x.dirAddr g x.pn, dirEntryBytes true (c.accepted != 0) x.pn chan x.period c.accepted c.blank
            (if c.accepted = 0 then 0 else crc32c stored))] ∧ (e.jrn.seg g).lastPick = x.pn) ∧
      (x.jrn.cur = none → e.jrn.landing = still ∧
        e.get JRN_UNJOURNALLED.count = satU 32 (x.get JRN_UNJOURNALLED.count + 1)) ∧
      (∀ n, n < 16 → x.capState n = 1 → (x.capture n).last ≤ x.pn → e.capState n = 2) ∧
      e.lseq = (x.lseq + 1) % 2 ^ 64 ∧
      e.jrn.copy0 = ({ ty := 1, seq := e.lseq, pick := x.pn, body := be 8 c.accepted ++ be 2 chan, ok := true } ::
        x.jrn.copy0).take 4194304) ∧
  (∀ (s : State) (n : Fin 16), s.dev.held = false →
    let c := s.dev.capture n
    let parts : List Part := [.regs, .jrn, .queues, .mem, .poison, .freeN, .sup, .drm]
    ((s.dev.capState n.val = 2 ∨ s.dev.capState n.val = 4) → c.wantRead = true →
      (s.dev.onItsWay c.first c.last = true → s.runs (.captureReadoutStart n) fun e => e = s.dev) ∧
      (s.dev.onItsWay c.first c.last = false → s.runs (.captureReadoutStart n) fun e =>
        e.capState n.val = 3 ∧
        e.capture n.val = { c with wantRead := false, nPieces := (c.last + 1 - c.first) * (portsOf c.ports).length,
                                   lastDir := (e.capture n.val).lastDir } ∧ s.dev.keeps e parts)) ∧
    (s.dev.capState n.val = 3 → c.autoRelease = false → s.runs (.captureReadoutEnd n) fun e =>
      e.capState n.val = 4 ∧ e.flag JRN_EVENT.read_done = true ∧ s.dev.keeps e parts))

/-! ### Looms, bobbins, records (05, 06) -/

/-- A pass that ends adds into every word of its region the correlation of the pick's two inputs and a count of one,
where neither is blanked, and nothing else. A word that leaves the guard of 2^22 is spilled while its loom has
admitted fewer than 1,024 spills of the pick and its queue has a free entry, in rising word order; a refused one
stays, or saturates and frays past 2^23 - 1; a frayed word, and one of an input with a lost sample, saturates. No
other loom and no other word changes. Rules: 05 R117, R119, R120, R121, R122, R132, 06 R156, R157, R158, R159, R160.
-/
def Obligations.PassAddsItsCorrelations : Prop :=
  ∀ (s : State) (slot : Fin 9) (r : ShedRef) (w : WorkSlot), s.dev.held = false → s.dev.testen = false →
    s.dev.sheds.cur = some r → (s.dev.sheds.work.filter fun x => x.slot == slot.val) = [w] →
    let k := w.loom
    let o := w.owner
    let bank := r.bank
    Sparse.wf (fun _ => BobWord.zero) ((s.dev.loom o).bank bank) = true →
    let c := s.dev.pickSlot ((s.dev.pn + 2 ^ 64 - 1) % 2 ^ 64)
    let cells := List.range 16384
    let old (x : Nat) : BobWord := (s.dev.loom o).word bank (16384 * w.region + x)
    let pair (x : Nat) : Option (Nat × Nat) :=
      (cellInputs w.pass (x / 128) (x % 128)).filter fun i => !(bit c.blank i.1 || bit c.blank i.2)
    let p (x : Nat) : Cpx := (pair x).elim ⟨0, 0⟩ fun i => dotConj (c.column i.1) (c.column i.2)
    let re (x : Nat) : Int := (old x).re + (p x).re
    let im (x : Nat) : Int := (old x).im + (p x).im
    let within (m : Nat) (x : Nat) : Bool := decide ((re x).natAbs < m) && decide ((im x).natAbs < m)
    let frayed (x : Nat) : Bool := (old x).fray || (pair x).any fun i => c.lostInput i.1 || c.lostInput i.2
    let wants (x : Nat) : Bool := !frayed x && !within (2 ^ 22) x
    let room := min (1024 - s.dev.get (LOM_SPILLQ.admitted_now k)) (1024 - (s.dev.loom k).spills.length)
    let taken (x : Nat) : Bool := wants x && decide (((List.range x).filter wants).length < room)
    let beyond (x : Nat) : Bool := wants x && !taken x && !within (2 ^ 23) x
    let word (x : Nat) : BobWord :=
      let n := ((old x).count + if (pair x).isSome then 1 else 0) % 2 ^ 15
      if frayed x || beyond x then { re := satSym 24 (re x), im := satSym 24 (im x), fray := true, count := n }
      else if taken x then { re := 0, im := 0, fray := false, count := n }
      else { re := re x, im := im x, fray := false, count := n }
    let n := (cells.filter taken).length
    let refused := (cells.filter fun x => wants x && !taken x).length
    let frays := (cells.filter fun x => (frayed x && !(old x).fray) || beyond x).length
    s.runs (.passEnd slot) fun e =>
      (∀ x, x < 16384 → (e.loom o).word bank (16384 * w.region + x) = word x) ∧
      (∀ y, y / 16384 ≠ w.region → (e.loom o).word bank y = (s.dev.loom o).word bank y) ∧
      (e.loom o).bank (!bank) = (s.dev.loom o).bank (!bank) ∧
      (e.loom k).spills = (s.dev.loom k).spills ++ (cells.filter taken).map (fun x =>
        { region := w.region, word := x, re := re x, im := im x, bank := bank, pass := w.pass, shed := r.start }) ∧
      (∀ j, j ≠ k → (e.loom j).spills = (s.dev.loom j).spills) ∧
      (∀ j, j ≠ o → (e.loom j).bank0 = (s.dev.loom j).bank0 ∧ (e.loom j).bank1 = (s.dev.loom j).bank1) ∧
      (∀ j, j ≠ k → j ≠ o → e.loom j = s.dev.loom j) ∧ s.dev.keeps e [.regs, .looms] ∧
      (k < 68 → o < 68 →
        e.get (LOM_SPILLQ.admitted_now k) = s.dev.get (LOM_SPILLQ.admitted_now k) + n ∧
        e.get (LOM_SPILLQ.occupancy k) = ((s.dev.loom k).spills.length + n) % 2 ^ 11 ∧
        e.get (LOM_SPILL_CNT.spills k) = satU 32 (s.dev.get (LOM_SPILL_CNT.spills k) + n) ∧
        e.get (LOM_SPILL_DEFER.deferrals k) = satU 32 (s.dev.get (LOM_SPILL_DEFER.deferrals k) + refused) ∧
        e.get (LOM_FRAY_TOTAL.frays o) = satU 32 (s.dev.get (LOM_FRAY_TOTAL.frays o) + frays) ∧
        e.get (LOM_SPILL_PEAK.pick_peak k) =
          max (s.dev.get (LOM_SPILL_PEAK.pick_peak k)) (s.dev.get (LOM_SPILLQ.admitted_now k) + n) ∧
        e.get (LOM_SPILL_PEAK.queue_peak k) =
          max (s.dev.get (LOM_SPILL_PEAK.queue_peak k)) (satU 11 ((s.dev.loom k).spills.length + n)) ∧
        { s.dev with looms := e.looms }.onlyFields e [LOM_SPILLQ.admitted_now k, LOM_SPILLQ.occupancy k, LOM_SPILL_CNT.spills k,
          LOM_SPILL_DEFER.deferrals k, LOM_FRAY_TOTAL.frays o, LOM_SPILL_PEAK.pick_peak k, LOM_SPILL_PEAK.queue_peak k])

/-- The spill engine serves the next loom of the round that has an entry, within the pick's limit: 1,024 entries, or
8,192 while one of a shed that has ended is queued. The entry leaves the head of its queue: it is added into its
element of the shed's matrix and logged, or discarded and counted when the channel's products are not kept; it waits
while its buffer is busy. The layout of the log header is the model's (log 9). Rules: 06 R161, R166, R167, 10 R275. -/
def Obligations.SpillsDrainIntoTheirElements : Prop :=
  (∀ (s : State) (k : Fin 68), s.dev.held = false →
    let ended := s.dev.sheds.ending.toList ++ s.dev.sheds.late.map LateShed.shed
    let queued := s.dev.looms.any fun l => l.2.spills.any fun x => ended.any fun r => x.shed == r.start
    (if queued then 8192 else 1024) ≤ s.dev.sheds.drainedNow → s.runs (.spillDrainEntry k) fun e => e = s.dev) ∧
  (∀ (s : State) (i : Nat) (x : Spill) (rest : List Spill) (r : ShedRef), s.dev.held = false → i < 68 →
    s.dev.sheds.negate = [] → s.dev.sheds.ending = none → s.dev.sheds.late = [] →
    let turn (j : Nat) : Nat := (s.dev.sheds.turn + 1 + j) % 68
    ∀ k : Fin 68, k.val = turn i →
    (∀ j, j < i → (s.dev.loom (turn j)).spills = []) →
    (s.dev.loom k).spills = x :: rest → rest.length < 2 ^ 11 → s.dev.sheds.find x.shed = some r →
    s.dev.armed (loomBlk k) 4 = false →
    let served (e : Device) : Prop :=
      e.loom k = { s.dev.loom k with spills := rest } ∧ e.get (LOM_SPILLQ.occupancy k) = rest.length
    let sheds := { s.dev.sheds with turn := k, drainedNow := s.dev.sheds.drainedNow + 1 }
    (s.dev.sheds.drainedNow < 1024 → r.keeps = false → s.runs (.spillDrainEntry k) fun e => served e ∧
      e.get (LOM_SPILL_LOST.discarded k) = satU 32 (s.dev.get (LOM_SPILL_LOST.discarded k) + 1) ∧
      { s.dev with looms := e.looms, sheds := sheds }.onlyFields e [LOM_SPILLQ.occupancy k, LOM_SPILL_LOST.discarded k]) ∧
    (s.dev.bufferBusy r = true → (∀ j, i < j → j < 68 → (s.dev.loom (turn j)).spills = []) →
      s.runs (.spillDrainEntry k) fun e => e = s.dev) ∧
    (s.dev.sheds.drainedNow < 1024 → r.keeps = true → s.dev.bufferBusy r = false → s.dev.memWf →
      let a := elemAddr r.base x.pass x.word
      let log := r.logArea
      let n := s.dev.logCount r
      s.dev.poisoned a 12 = false → (a + 12 ≤ log ∨ log + 64 + 16 * (n + 1) ≤ a) →
      let v := ((Elem.dec (s.dev.bytes a 12)).plus x.re x.im false 0).enc
      s.runs (.spillDrainEntry k) fun e => served e ∧
        (∀ i, i < 12 → e.byte (a + i) = v.getD i 0) ∧
        (∀ i, i < 16 → e.byte (log + 64 + 16 * n + i) = (be 16 (k.val * 2 ^ 121 + x.pass * 2 ^ 112 + x.word * 2 ^ 98 +
          low 24 x.re * 2 ^ 74 + low 24 x.im * 2 ^ 50)).getD i 0) ∧
        (r.start < 2 ^ 64 → n + 1 < 2 ^ 64 → e.logCount r = n + 1) ∧
        (∀ b, ¬ (a ≤ b ∧ b < a + 12) → ¬ (log ≤ b ∧ b < log + 24) →
          ¬ (log + 64 + 16 * n ≤ b ∧ b < log + 64 + 16 * (n + 1)) → e.byte b = s.dev.byte b) ∧ e.memWf ∧
        { s.dev with looms := e.looms, mem := e.mem, poison := e.poison, drm := e.drm, sheds := sheds }.onlyFields e
          [LOM_SPILLQ.occupancy k]))

/-- A shed-end dump starts once the shed's spills have drained, and waits while its buffer is busy; LOM_DUMP_STAT then
says what held it. Its end adds the bank's words into the matrix (here one word, of a baseline), and clears the bank.
Rules: 02 R39, 06 R162, R163, R168, R171, R182. -/
def Obligations.ShedDumpsStartAndEnd : Prop :=
  ∀ (s : State) (k : Fin 68) (r : ShedRef), s.dev.held = false → s.dev.testen = false → s.dev.sheds.ending = some r →
    (r.keeps = true → s.dev.drained r = true → ahead s.dev.pn (r.stop + 2) = true → k.val ∈ s.dev.owing r →
      k.val ∉ s.dev.sheds.dumping →
      let since := s.dev.sheds.drainEnd.getD s.dev.pn
      (s.dev.bufferBusy r = false → s.runs (.shedDumpStart k) fun e =>
        e.get (LOM_DUMP_STAT.drain_wait k.val) = satU 4 ((since + 2 ^ 64 - (r.stop + 2)) % 2 ^ 64) ∧
        e.flag (LOM_DUMP_STAT.buf_wait k.val) = s.dev.sheds.bufHeld ∧ e.flag (LOM_STAT.dumping k.val) = true ∧
        { s.dev with sheds := { s.dev.sheds with drainEnd := some since,
                                                 dumping := k.val :: s.dev.sheds.dumping } }.onlyFields e
          [LOM_DUMP_STAT.drain_wait k.val, LOM_DUMP_STAT.buf_wait k.val, LOM_STAT.dumping k.val]) ∧
      (s.dev.bufferBusy r = true → s.runs (.shedDumpStart k) fun e =>
        e = { s.dev with sheds := { s.dev.sheds with drainEnd := some since, bufHeld := true } })) ∧
    (∀ (reg w pass : Nat) (v : BobWord), k.val ∈ s.dev.sheds.dumping → s.dev.sheds.apuDone = false → r.keeps = true →
      reg < 8 → w < 16384 → (r.map.filter fun e => e.1 == k.val) = [(k.val, reg, pass)] → r.absent.contains pass = false →
      (s.dev.loom k.val).lost = [] →
      (s.dev.loom k.val).bank r.bank = [(16384 * reg + w, v)] → v.count ≠ 0 → r.log2 < 15 → s.dev.poison = [] →
      (cellInputs pass (w / 128) (w % 128)).isSome = true →
      let a := elemAddr r.base pass w
      let sum := ((Elem.dec (s.dev.bytes a 12)).plus v.re v.im v.fray v.count).enc
      s.runs (.shedDumpEnd k) fun e =>
        (∀ i, i < 12 → e.byte (a + i) = sum.getD i 0) ∧ (∀ b, b < a ∨ a + 12 ≤ b → e.byte b = s.dev.byte b) ∧
        (s.dev.memWf → e.memWf) ∧ e.loom k.val = (s.dev.loom k.val).setBank r.bank [] ∧
        e.get (LOM_FRAY.last_bank k.val) = (if v.fray then 1 else 0) ∧ e.flag (LOM_STAT.dumping k.val) = false ∧
        e.get (LOM_DUMP_STAT.dump_end k.val) = (s.dev.pn + 2 ^ 64 - r.stop) % 2 ^ 64 % 2 ^ 15 ∧
        { s.dev with mem := e.mem, looms := e.looms, drm := e.drm,
                     sheds := { s.dev.sheds with dumped := k.val :: s.dev.sheds.dumped,
                                                 dumping := s.dev.sheds.dumping.erase k.val } }.onlyFields e
          [LOM_FRAY.last_bank k.val, LOM_STAT.dumping k.val, LOM_DUMP_STAT.dump_end k.val])

/-- An ended integration period queues its records and its buffer is being read out; the end of the readout leaves
every byte of the buffer zero. A period that a replay holds waits. Rules: 06 R170, R171, R178, 10 R282. -/
def Obligations.PeriodsAreReadOut : Prop :=
  ∀ (s : State) (ent : Nat), s.dev.held = false → s.dev.boot.dramReady = true → s.dev.sheds.late = [] →
    (∀ p : EndedPeriod, s.dev.sheds.ended = [p] → p.ent = ent → p.due = false → p.per.done = p.per.started →
      (s.dev.jrn.replays = [] → s.dev.armed .jrn 4 = false → s.runs (.periodEnd ent) fun e =>
        e.sheds = { s.dev.sheds with
          ended := [], readouts := s.dev.sheds.readouts ++ [{ ent := ent, buf := p.per.num % 2, base := p.base }] } ∧
        e.lseq = (s.dev.lseq + 1) % 2 ^ 64 ∧ s.dev.keeps e [.regs, .sheds, .queues, .mem, .poison, .jrn, .drm, .sup]) ∧
      (s.dev.holds p = true → s.runs (.periodEnd ent) fun e =>
        e = { s.dev with sheds := { s.dev.sheds with ended := [{ p with due := true }] } })) ∧
    (∀ (buf : Fin 2) (r : Readout), s.dev.sheds.ending = none → s.dev.sheds.negate = [] →
      (s.dev.sheds.readouts.find? fun x => x.ent == ent && x.buf == buf.val) = some r →
      s.runs (.matrixReadoutEnd ent buf) fun e =>
        (∀ a, e.byte a = if r.base ≤ a ∧ a < r.base + 100696064 then 0 else s.dev.byte a) ∧ (s.dev.memWf → e.memWf) ∧
        e.sheds = { s.dev.sheds with readouts := s.dev.sheds.readouts.erase r } ∧ s.dev.keeps e [.mem, .poison, .sheds, .drm])

/-- A contained fault takes its loom out of use: RETIRED for cause 1, its pass slots empty, the source raised and the
ledger told. The lowest free spare takes an ACTIVE loom's logical loom and slots over; what the shed in progress has
lost is recovered by a replay on a second spare where one is free and the picks are journalled, and is ABSENT
otherwise; with no spare the logical loom has no loom and its passes are orphans. A replaying spare abandons its
replay. The clock-gated array of a retired loom raises none. The order of its effects is the model's reading (log 57),
and the spare of an abandoned replay counts as free (log 89). Rules: 05 R139, R141, R142, R144, R145, R148, R150, 10
R283. -/
def Obligations.ContainedFaultsRetireTheLoom : Prop :=
  ∀ (s : State) (k : Fin 68) (src : LoomFault) (detail : W32), s.dev.held = false → s.dev.armed .jrn 4 = false →
    s.dev.boot.dramReady = true →
    let raised (e : Device) : Prop := bit (e.get (FSTAT.real (blkBase (.lom k)))) (LoomFault.source src) = true
    let retired (e : Device) : Prop := raised e ∧ e.role k.val = 3 ∧ e.get (LOM_ROLE.cause k.val) = 1 ∧
      (∀ j, j < 9 → e.get (LOM_PASS.entry k.val j) = 0) ∧ e.rsq.cfg.retired = s.dev.rsq.cfg.retired ++ [(k.val, 1)]
    let gone (e : Device) (start : Nat) (ks : List Nat) : Prop :=
      ∃ y, e.sheds.cur = some y ∧ y.start = start ∧ ∀ n ∈ ks, n ∈ y.absent
    let parts : List Part := [.regs, .jrn, .rsq, .drm, .sup, .sheds, .looms, .mem, .poison]
    (s.dev.sheds.placed = true → s.dev.boot.phase = .running →
      (s.dev.role k.val = 1 → (∀ w ∈ s.dev.sheds.work, w.loom ≠ k.val) → s.runs (.loomContainedFault k src detail) fun e =>
        retired e ∧ e.lseq = (s.dev.lseq + 1) % 2 ^ 64 ∧
        (∀ l, l < 68 → l ≠ k.val → e.get (LOM_ROLE.word l) = s.dev.get (LOM_ROLE.word l)) ∧
        s.dev.keeps e [.regs, .jrn, .rsq, .drm, .sup]) ∧
      (∀ l, s.dev.role k.val = 0 → s.dev.logicalOf k.val = some l → s.dev.jrn.replays = [] →
        let slots := s.dev.slotsOf k.val
        let past := s.dev.pastSlots k.val
        let ks := past.map Prod.snd
        (past.map Prod.fst).Nodup → (∀ p ∈ past, p.1 < 9 ∧ p.2 < 512) →
        (∀ t rest, s.dev.freeSpares = t :: rest → s.runs (.loomContainedFault k src detail) fun e =>
          retired e ∧ e.role t = 0 ∧ e.get (LOM_ROLE.standin t) = 1 ∧ e.get (LOM_ROLE.logical t) = l ∧
          e.get (CRL_LMAP.physical l) = t ∧ (∀ p ∈ slots, e.get (LOM_PASS.entry t p.1) = passEntry p.2) ∧
          s.dev.keeps e parts ∧
          ((s.dev.sheds.cur = none ∨ past = []) → e.jrn.replays = [] ∧ e.lseq = (s.dev.lseq + 1) % 2 ^ 64) ∧
          (∀ sh, s.dev.sheds.cur = some sh → (∃ n ∈ ks, n ∉ sh.absent) →
            let last := (s.dev.pn + 2 ^ 64 - 1) % 2 ^ 64
            (∀ u us, rest = u :: us → s.dev.journalled sh.start last = true →
              (∃ y, e.jrn.replays = [y] ∧ y.logical = l ∧ y.retired = k.val ∧ y.spare = some u ∧ y.takeover = t ∧
                y.shed.start = sh.start ∧ y.first = sh.start ∧ y.last = last ∧ y.slots = past ∧ y.staged = 0 ∧ y.computed = 0) ∧
              e.role u = 2 ∧ (∀ p ∈ past, e.get (LOM_PASS.entry u p.1) = passEntry p.2) ∧
              e.flag JRN_EVENT.replay_start = true ∧
              e.get JRN_REPLAY_CNT.started = satU 8 (s.dev.get JRN_REPLAY_CNT.started + 1) ∧
              e.lseq = (s.dev.lseq + 2) % 2 ^ 64) ∧
            ((rest = [] ∨ s.dev.journalled sh.start last = false) → e.jrn.replays = [] ∧ gone e sh.start ks))) ∧
        (s.dev.freeSpares = [] → (∀ n, n < 512 → s.dev.flag (CRL_PLACE.lent n) = true →
            s.dev.get (CRL_PLACE.lender n) ≠ k.val) → s.runs (.loomContainedFault k src detail) fun e =>
          retired e ∧ e.get (CRL_LMAP.physical l) = 0x7F ∧ (∀ p ∈ slots, e.get (CRL_PLACE.state p.2) = 2) ∧
          e.get CRL_CFG.exhausted = 1 ∧ e.sheds.replaceDue = true ∧ e.jrn.replays = [] ∧
          (∀ sh, s.dev.sheds.cur = some sh → gone e sh.start ks) ∧
          s.dev.keeps e (parts ++ [.tm, .ports, .drafts, .setter]) ∧
          ((s.dev.woven = false ∨ s.dev.get CRL_CFG.policy ≠ 1) → s.dev.keeps e parts) ∧
          (s.dev.woven = true → s.dev.get CRL_CFG.policy = 1 → s.dev.flag PCK_CFG.stretched = false → s.dev.tm.stretch = none →
            s.dev.flag (LOM_ROLE.bobbin_ok k.val) = true → e.tm.stretch.map StretchWait.decided = some s.dev.pn ∧
              e.get CRL_CFG.stretch_wait = 1))) ∧
      (∀ r : Replay, s.dev.role k.val = 2 → s.dev.jrn.replays = [r] → r.spare = some k.val →
        s.runs (.loomContainedFault k src detail) fun e =>
          retired e ∧ e.jrn.replays = [] ∧ e.flag JRN_EVENT.replay_abandon = true ∧
          e.get JRN_REPLAY_CNT.abandoned = satU 8 (s.dev.get JRN_REPLAY_CNT.abandoned + 1) ∧
          (s.dev.freeSpares = [] → e.get CRL_CFG.exhausted = 1) ∧
          (∀ sh, s.dev.sheds.cur = some sh → sh.start = r.shed.start → gone e sh.start (r.slots.map Prod.snd)) ∧
          s.dev.keeps e (parts ++ [.queues]))) ∧
    ((s.dev.role k.val = 3 ∨ s.dev.role k.val = 4) → (∀ w ∈ s.dev.sheds.worn, w.1 ≠ k.val) →
      (src ≠ .spillqU → s.runs (.loomContainedFault k src detail) fun e => e = s.dev) ∧
      (src = .spillqU → s.runs (.loomContainedFault k src detail) fun e => raised e ∧ s.dev.keeps e [.regs, .sup]))

/-- A replay stages its next pick, readable by now, into creel slot 2 or 3; its spare computes it in the next interval
that begins. Once its last pick is computed and its spills have drained it ends, its spare is free again and the
ledger says so (here for a shed whose products are not kept). A read that fails raises JRN source 3 and abandons the
replay. Rules: 10 R278, R279, R281, R283, R287. -/
def Obligations.ReplaysStageTheirPicksAndEnd : Prop :=
  ∀ (s : State) (r : Replay) (k : Nat), s.dev.held = false → s.dev.testen = false → s.dev.jrn.replays = [r] →
    r.spare = some k → k < 68 → s.dev.role k = 2 →
    (∀ c : CreelSlot, r.first + r.staged ≤ r.last → r.staged < r.computed + 2 →
      s.dev.onItsWay (r.first + r.staged) (r.first + r.staged) = false →
      s.dev.readBack (r.first + r.staged) (blocksOf (r.slots.map Prod.snd)) = .slot c →
      s.runs .replayPickStaged fun e => e = { s.dev.setCreel (2 + r.staged % 2) c with
        jrn := { s.dev.jrn with replays := [{ r with staged := r.staged + 1 }] }, drm := e.drm }) ∧
    (∀ a, r.first + r.staged ≤ r.last → r.staged < r.computed + 2 →
      s.dev.onItsWay (r.first + r.staged) (r.first + r.staged) = false →
      let found := s.dev.readBack (r.first + r.staged) (blocksOf (r.slots.map Prod.snd))
      (found = .badCrc a ∨ found = .bad a) → s.runs .replayPickStaged fun e =>
        e.jrn.replays = [] ∧ e.role k = 1 ∧ bit (e.get (FSTAT.real (blkBase .jrn))) 3 = true ∧
        e.flag JRN_EVENT.replay_abandon = true ∧
        e.get JRN_REPLAY_CNT.abandoned = satU 8 (s.dev.get JRN_REPLAY_CNT.abandoned + 1) ∧
        (found = .badCrc a → e.get JRN_DIR_ERR.count = satU 32 (s.dev.get JRN_DIR_ERR.count + 1)) ∧
        (s.dev.get (FSTAT.word (blkBase .jrn)) = 0 → e.get (FDETAIL.detail (blkBase .jrn)) = a % 2 ^ 32) ∧
        s.dev.keeps e [.regs, .jrn, .sup, .drm, .sheds, .looms, .mem, .poison, .queues]) ∧
    (let n := if r.computing then r.computed + 1 else r.computed
     let e := s.dev.replayTurn
     e.jrn = { s.dev.jrn with replays := [{ r with computed := n, computing := decide (n < r.staged) }] } ∧
     e.get JRN_REPLAY_PROG.done = n % 2 ^ 16 ∧ s.dev.keeps e [.regs, .jrn, .looms]) ∧
    (r.last < r.first + r.computed → ahead s.dev.pn (r.shed.stop + 2) = true → (s.dev.loom k).spills = [] →
      s.dev.boot.dramReady = true → s.dev.armed .jrn 4 = false →
      s.dev.sheds.ending = none → s.dev.sheds.waiting = [] → s.dev.sheds.ended = [] → s.dev.sheds.find r.shed.start = none →
      r.shed.keeps = false → s.runs .replayEnd fun e =>
        e.jrn.replays = [] ∧ e.role k = 1 ∧ e.flag JRN_EVENT.replay_end = true ∧
        e.get JRN_REPLAY_CNT.ended = satU 8 (s.dev.get JRN_REPLAY_CNT.ended + 1) ∧ (e.loom k).bank0 = [] ∧
        (e.loom k).bank1 = [] ∧ e.get JRN_REPLAY.word = 0 ∧ e.lseq = (s.dev.lseq + 1) % 2 ^ 64 ∧
        s.dev.keeps e [.regs, .jrn, .sheds, .looms, .drm])

/-! ### Harnesses, chains, detectors (07, 08) -/

/-- The weight set that generation finishes carries, for each input of its enabled beam, the weight that the weight
equation gives; the setter is then idle and HST_GEN says how many picks it took. At an ordinary boundary the harnesses
turn to the pick that ended with the sets then in force, and the beams of the pick they computed leave the batten:
peaks, classes and blanking are shown, and the block of its one voltage beam is written to its queue's ring. Rules: 07
R183, R185, R192, R193, R195, R196, R203, R207, R208, R209, R210, R212. -/
def Obligations.WeightSetsFollowTheWeightEquation : Prop :=
  (∀ s : State, s.dev.plainBoundary →
    let x := s.dev
    s.runs .pickBoundary fun e =>
      (∃ b, e.beams = some b ∧ b = { x.captureBeams x.pn with cfgRegs := b.cfgRegs }) ∧
      ∀ p, x.beams = some p →
        let c := x.pickSlot p.pick
        let outs := x.beamOuts p c
        let count (k : Nat) : Nat := (outs.filter fun o => descClass o.desc == k).length
        (p.mix = none → e.get BTN_PEAK.value = (outs.foldl (fun v o => max v (peakOf o.samples)) 0) % 2 ^ 23) ∧
        e.get BTN_CLASSES.voltage = count 0 % 2 ^ 10 ∧ e.get BTN_CLASSES.zoom = count 1 % 2 ^ 10 ∧
        e.get BTN_CLASSES.power = count 2 % 2 ^ 10 ∧
        (∀ h, h < 64 → e.flag (HRN_STAT.blending h) = p.mix.isSome ∧
          e.get (HRN_STAT.unblanked h) = ((List.range 64).filter fun i => !bit c.blank (64 * h + i)).length) ∧
        ∀ o q, x.chains.closed = [] → x.jrn.landing = [] → x.jrn.reopen = false → x.pn % 1024 ≠ 0 →
          (outs.filter fun y => descClass y.desc == 0) = [o] → queueRef (Sparse.get (fun _ => 0) p.refs o.beam) = some q →
          x.qOn q = true → 0 < x.capacity q →
          let blk := (voltBlock p o).1
          let was := x.queue q
          was.wr - was.free + blk.length ≤ x.ringSize q →
            (e.queue q).wr = was.wr + blk.length ∧ (e.queue q).lost = was.lost ∧ e.mem = (x.ringWrite q was.wr blk).mem ∧
            e.get BTN_SAT.count = satU 32 (x.get BTN_SAT.count + (voltBlock p o).2)) ∧
  (∀ (s : State) (j : GenJob) (w : WeightSet) (b x : Nat), s.dev.held = false → s.dev.testen = false → s.dev.poison = [] →
    s.dev.setter.hurt = [] → s.dev.setter.job = some j → s.dev.setter.sets = [w] → w.shed = j.shed → w.complete = false → w.descs = [(b, x)] →
    let ref := ofBe (s.dev.bytes (w.base + 2) 2) * 2 ^ 48 + ofBe (s.dev.bytes (w.base + 4) 6)
    let dp := (refDistance w.shed w.log2 ref).1
    let weight (i : Nat) : Cpx :=
      let t := ofBe (s.dev.bytes (w.base + 4096 + 32768 * b + 8 * i) 8)
      (weightFor (s.dev.gainAt w.gains i) (phaseIndex w.nu (sx 32 (t / 2 ^ 32) + delayDrift (sx 32 t) dp w.period))).1
    s.runs .weightSetComplete fun e =>
      (∃ y, e.setter = { s.dev.setter with job := none, sets := [y], hurt := [] } ∧ y.complete = true ∧ y.shed = w.shed ∧ y.bank = w.bank ∧
        y.descs = w.descs ∧ ∀ i, i < 4096 → Sparse.get (fun _ => ⟨0, 0⟩) y.weights (4096 * b + i) = weight i) ∧
      e.get HST_GEN.gen_picks = satU 16 ((s.dev.pn + 2 ^ 64 - j.startPick) % 2 ^ 64) ∧ s.dev.keeps e [.regs, .setter, .drm])

/-- The record that a prefetch brings, between time 1 and time 2 of a shed boundary between channels, is the one saved
at the unit's place in the state area with the tag there; a failed read is kept as such; one that comes later is not
used (R231, R232). A write-back stores the tag and the record's body and nothing else; one of the record that is
fetched comes first. At an ordinary boundary a unit that its beam does not feed closes its block and marks the gap; a
detector that takes 256 samples to a sub-sum shows the rounded, clamped sum of its window; a chain's series and open
block are those of the pick's 256 samples. The bytes of a record past its tag are free values (log 9). Rules: 08 R213,
R216, R219, R222, R223, R224, R225, R226, R229, R231, R232, R235. -/
def Obligations.StateRecordsAreFetchedAndWrittenBack : Prop :=
  (∀ (s : State) (p : BeamPick) (z : Nat), s.dev.plainBoundary → s.dev.beams = some p → p.fresh = false → p.reset = false →
    let x := s.dev
    let v := x.under p
    let outs := x.beamOuts p (x.pickSlot p.pick)
    let stop := (p.pick + 1) % v.shedLen = 0
    z < 640 → p.pick % v.shedLen ≠ 0 → v.unitOn z = true →
    (v.fedBy z outs = none → s.runs .pickBoundary fun e => (e.unit z).open_ = none ∧
      (∀ r, (x.unit z).live = some r → r.started = true → (e.unit z).live = some { r with gap := true })) ∧
    (∀ o k r, v.fedBy z outs = some o → z = 128 + k → len16 (v.get (PWD_CFG.decim k)) = 256 → (x.unit z).live = some r →
      r.cur = 0 → r.curN = 0 → r.settle = 0 →
      let power := o.samples.foldl (fun a y => a + (y.re * y.re + y.im * y.im).toNat) 0
      let subs := (power :: r.subs).take (len16 (v.get (PWD_CFG.length k)) / 256)
      let sh := v.liveOf (PWD_OUT.shift k)
      let raw := subs.foldl (· + ·) 0
      let y := if sh = 0 then raw else (raw + 2 ^ (sh - 1)) / 2 ^ sh
      s.runs .pickBoundary fun e => e.get (PWD_LAST.value k) = min y (2 ^ 32 - 1) ∧
        (e.unit z).live = some { r with subs := subs, seq := r.seq + 1, gap := false, started := true }) ∧
    (∀ o r, v.fedBy z outs = some o → z < 128 → (x.unit z).live = some r →
      let nHb := v.get (ZCH_CFG.n_hb z)
      let preset := v.get (ZCH_CFG.preset z)
      let wide := v.flag (ZCH_CFG.wide z)
      let sh := min (v.liveOf (ZCH_SHIFT.shift z)) 28
      let marks := (if p.mix.isSome then 2 else 0) + (if o.wfault then 4 else 0) + (if o.partial_ then 8 else 0) +
        (if wide then 64 else 0)
      let c : BlkCtx := { beam := o.beam, chan := p.chan, pick := p.pick, shift := sh, cfg := nHb + 8 * preset, marks := marks
                          max := 256 }
      let r0 : UnitRun := { ser := r, blk := (x.unit z).open_.filter fun b => b.shift == sh, done := [], sat := 0, dets := []
                            last := none }
      let r1 := o.samples.foldl (UnitRun.chain c preset (resampleStep (v.get (ZCH_RATIO.ratio z))) wide) r0
      s.runs .pickBoundary fun e => (e.unit z).live = some r1.ser ∧ e.get (ZCH_SEQ.seq z) = r1.ser.seq % 2 ^ 32 ∧
        (e.unit z).open_ = if stop then none else r1.blk)) ∧
  (∀ (s : State) (z : Fin 640), s.dev.held = false →
    (s.dev.woven = true → s.dev.unitOn z.val = true →
      let a := recordAddr s.dev.stateBase (s.dev.entOf s.dev.pn) z.val
      let own := ∀ w, (s.dev.unit z.val).wb = some w → w.1 ≠ a
      (∀ ok, s.dev.prefetchDue = false → s.runs (.statePrefetchComplete z ok) fun e => e = s.dev) ∧
      (s.dev.prefetchDue = true → own → s.dev.poisoned a (recordSize z.val) = false →
        (s.runs (.statePrefetchComplete z true) fun e =>
          e = { s.dev.setUnit z.val { s.dev.unit z.val with
            pre := .arrived (ofBe (s.dev.bytes a 4)) (Sparse.get (fun _ => none) s.dev.chains.saved a) } with drm := e.drm }) ∧
        s.runs (.statePrefetchComplete z false) fun e =>
          e = { s.dev.setUnit z.val { s.dev.unit z.val with pre := .failed } with drm := e.drm }) ∧
      (∀ ok, s.dev.prefetchDue = true → own → s.dev.poisoned a (recordSize z.val) = true →
        s.runs (.statePrefetchComplete z ok) fun e => (e.unit z.val).pre = .failed ∧
          s.dev.keeps e [.regs, .sup, .poison, .drm, .chains]) ∧
      (∀ (tag : Nat) (ser : Option Series), s.dev.prefetchDue = true → tag < 2 ^ 32 → s.dev.poison = [] →
        (s.dev.unit z.val).wb = some (a, tag, ser) → s.runs (.statePrefetchComplete z true) fun e =>
          (e.unit z.val).wb = none ∧ (e.unit z.val).pre = .arrived tag ser)) ∧
    (∀ (a tag : Nat) (ser : Option Series), (s.dev.unit z.val).wb = some (a, tag, ser) →
      s.runs (.stateWritebackComplete z) fun e =>
        (∀ i, i < 4 → e.byte (a + i) = (be 4 tag).getD i 0) ∧
        (∀ i, 4 ≤ i → i < recordSize z.val → e.byte (a + i) = Config.stateByte (2048 * s.dev.freeN + (i - 4))) ∧
        (∀ b, b < a ∨ a + recordSize z.val ≤ b → e.byte b = s.dev.byte b) ∧ (s.dev.memWf → e.memWf) ∧
        (e.unit z.val).wb = none ∧ Sparse.get (fun _ => none) e.chains.saved a = ser ∧ e.freeN = s.dev.freeN + 1 ∧
        s.dev.keeps e [.mem, .poison, .chains, .freeN, .drm]))

/-! ### Warp lanes, frames, the tie lane (03, 04) -/

/-- R61: after 31 identical line bits the transmitter inserts one bit of the opposite value, which begins the next
run; the receiver removes the bit after any 31 identical ones, whatever block it lies in and whatever the blocks are.
Destuffing takes out exactly the bits that stuffing put in, from any common line state, and finds no violation;
scrambling twice from one state of the generator gives the bits back. Rules: 03 R61. -/
def Obligations.LineCodingIsUndoneByTheReceiver : Prop :=
  let from_ (run : Nat) (b : Bool) : Destuff := { run := run, runBit := b, out := [], bad := 0 }
  let sent (run : Nat) (b : Bool) (bits : List Bool) : List Bool := (bits.foldl Destuff.stuff (from_ run b)).out.reverse
  let kept (run : Nat) (b : Bool) (bits : List Bool) : List Bool := (bits.foldl Destuff.bit (from_ run b)).out.reverse
  (∀ (run : Nat) (b c : Bool) (rest : List Bool), run < 31 →
    (run = 30 → sent run b (b :: rest) = b :: (!b) :: sent 1 (!b) rest) ∧
    (run < 30 → sent run b (b :: rest) = b :: sent (run + 1) b rest) ∧
    (c ≠ b → sent run b (c :: rest) = c :: sent 1 c rest) ∧
    kept run b (List.replicate (31 - run) b ++ c :: rest) =
      List.replicate (31 - run) b ++ kept (if c = b then 0 else 1) c rest ∧
    kept run b (b :: rest) = b :: kept (run + 1) b rest ∧ (c ≠ b → kept run b (c :: rest) = c :: kept 1 c rest)) ∧
  (∀ (d : Device) (p k : Nat) (m n : Bool) (xs ys : List Bool),
    let l := d.lane p k
    let s := (xs ++ ys).foldl Destuff.bit (from_ l.run l.runBit)
    let x := d.rxBits p k m xs
    let e := (x.2.rxBits p k n ys).2
    (e.lane p k).run = s.run ∧ (e.lane p k).runBit = s.runBit ∧ (e.lane p k).violations = l.violations + s.bad ∧
    (let up := ((kept l.run l.runBit xs).take 256).map fun b => b != d.flag (WRP_LSTAT.inverted p k)
     x.1.value = ofBits (if m then up else (scramble l.gen up).1))) ∧
  (∀ (run : Nat) (b : Bool) (bits : List Bool), run < 31 →
    kept run b (sent run b bits) = bits ∧ ((sent run b bits).foldl Destuff.bit (from_ run b)).bad = 0) ∧
  (∀ (st : Nat) (bits : List Bool), (scramble st (scramble st bits).1).1 = bits ∧
    (scramble st (scramble st bits).1).2 = (scramble st bits).2)

/-- What the blocks of a lane do once it descrambles, the port UP and the reed waiting for this lane: a DATA block's
31 bytes go on with the open frame, or begin one at its start field; an IDLE block of a locked lane is counted for its
window; a TRAIN block makes the port train again; a block of invalid type is counted. A stuffed bit at the end of a
block comes with it (log 48); that a TRAIN block in UP starts training again is the model's reading (log 49). Rules:
03 R58, R59, R67, R73, R85. -/
def Obligations.BlocksOfALaneTakeEffect : Prop :=
  ∀ (s : State) (p : Fin 64) (k : Fin 4) (u : Nat) (bits : List Bool), s.dev.held = false → s.dev.receiving p.val = true →
    (s.dev.lane p.val k.val).gen ≠ 0 →
    let d := s.dev.at_ (u / 16)
    let x := d.rxBits p.val k.val false bits
    let y := x.2.countBlock p.val k.val
    (x.2.lane p.val k.val).violations < 16 →
    (x.1.type = 3 → x.1.errored = false → s.dev.wstate p.val = 6 → s.dev.physical p.val ((s.dev.port p.val).chunk % 4) = k.val →
      (∀ j, j < 4 → (s.dev.lane p.val j).fifo = []) →
      let start := Machine.bits x.1.value 248 5
      let chunk (e : Device) : Prop :=
        (e.port p.val).chunk = ((s.dev.port p.val).chunk + 1) % 2 ^ 32 ∧ d.keeps e [.regs, .lanes, .ports]
      (∀ f : FrameAsm, start = 31 → (s.dev.port p.val).frame = some f → f.bytes.length + 31 < 16464 →
        s.runs (.dataBlock p k u bits false) fun e => chunk e ∧
          (e.port p.val).frame = some { f with bytes := x.1.body.reverse ++ f.bytes }) ∧
      (start < 31 → (s.dev.port p.val).frame = none → s.runs (.dataBlock p k u bits false) fun e => chunk e ∧
        (e.port p.val).frame = some { bytes := (x.1.body.drop start).reverse, errored := false,
                                      index := (s.dev.port p.val).frameIndex, faulty := false } ∧
        (e.port p.val).frameIndex = ((s.dev.port p.val).frameIndex + 1) % 256)) ∧
    (x.1.type = 0 → x.1.errored = false → s.dev.wstate p.val ≠ 5 → s.runs (.idleBlock p k u bits) fun e =>
      e = y.setLane p.val k.val { y.lane p.val k.val with windowIdle := (s.dev.lane p.val k.val).windowIdle +
        (if 2 ≤ s.dev.get (WRP_LSTAT.lstate p.val k.val) then 1 else 0) }) ∧
    (x.1.type = 6 → s.dev.wstate p.val ≠ 6 → s.runs (.trainBlock p k u bits) fun e => e = y) ∧
    (x.1.type = 6 → s.dev.wstate p.val = 6 → s.runs (.trainBlock p k u bits) fun e =>
      e.wstate p.val = 1 ∧ (∀ j, j < 4 → e.get (WRP_LSTAT.lstate p.val j) = 0) ∧ (e.port p.val).frame = none ∧
      (e.port p.val).chunk = 0 ∧ d.keeps e [.regs, .lanes, .ports]) ∧
    (x.1.type ∉ [0, 3, 5, 6] → s.dev.wstate p.val < 5 → s.runs (.invalidTypeBlock p k u bits) fun e =>
      e.get (WRP_LCNT_HDR.count p.val k.val) = satU (WRP_LCNT_HDR.count p.val k.val).w
        (s.dev.get (WRP_LCNT_HDR.count p.val k.val) + 1) ∧ y.onlyFields e [WRP_LCNT_HDR.count p.val k.val])

/-- A marker whose check sum holds names the lane and its port and seeds the lane's generator; the second one in
sequence locks a lane that had no lock. Where it completes a marker point of the four lanes, the reed's counter takes
Q, and a difference counts one rotation slip. Rules: 03 R63, R64, R65, R66, R69, R74, R84. -/
def Obligations.MarkersLockTheLane : Prop :=
  ∀ (s : State) (p : Fin 64) (k j : Fin 4) (u : Nat) (bits : List Bool), s.dev.held = false → s.dev.receiving p.val = true →
    s.dev.wstate p.val = 2 → s.dev.get (WRP_LSTAT.lstate p.val k.val) = 1 → s.dev.get (WRP_LSTAT.lstate p.val j.val) < 2 →
    j ≠ k →
    let d := s.dev.at_ (u / 16)
    let x := d.rxBits p.val k.val true bits
    let v := x.1.value
    let c := Machine.bits v 128 32
    let q := Machine.bits v 96 32
    ones 64 (Machine.bits v 184 64 ^^^ syncPattern) ≤ 4 → crc32c (be 28 (v / 2 ^ 32)) = v % 2 ^ 32 →
    Machine.bits v 164 6 = p.val →
    let named (e : Device) : Prop :=
      e.get (WRP_LSTAT.lane_id p.val k.val) = Machine.bits v 176 2 ∧ e.get (WRP_PSTAT.marker_port p.val) = p.val ∧
      (e.lane p.val k.val).gen = laneSeed p.val (Machine.bits v 176 2) ∧ (e.lane p.val k.val).lastCount = some c ∧
      (e.lane p.val k.val).violations = 0 ∧ e.get (WRP_LSKEW.max_lead p.val k.val) = 0 ∧ d.keeps e [.regs, .lanes, .ports] ∧
      ((∀ i, i < 4 → i ≠ k.val → (s.dev.lane p.val i).lastCount = some c ∧ (s.dev.lane p.val i).fifo = [.marker (some q)]) →
        (e.port p.val).chunk = q ∧ e.get (WRP_TRAIN.rotation_slips p.val) = satU (WRP_TRAIN.rotation_slips p.val).w
          (s.dev.get (WRP_TRAIN.rotation_slips p.val) + if q = (s.dev.port p.val).chunk then 0 else 1))
    ((s.dev.lane p.val k.val).lastCount = none → s.runs (.markerBlock p k u bits) fun e =>
      named e ∧ e.get (WRP_LSTAT.lstate p.val k.val) = 1) ∧
    (∀ n, (s.dev.lane p.val k.val).lastCount = some n → c = (n + 1) % 2 ^ 32 → s.runs (.markerBlock p k u bits) fun e =>
      named e ∧ e.get (WRP_LSTAT.lstate p.val k.val) = 2)

/-- The forwarded clock makes a waiting port CLOCK_OK; its loss, a missing marker and 50 ms without adaptation make
the port train again from WAIT, every lane DOWN (R74 to R76). An adaptation update sets the equalisers of a lane that
is not frozen; a window's end puts its eye figure and settings into the history, shows the eye and the IDLE blocks
counted, and begins a new count (R79 to R82; the disagreements counted in each sub-window are operands, log 62).
Rules: 03 R74, R75, R76, R79, R80, R81, R82. -/
def Obligations.TrainingAndAdaptation : Prop :=
  (∀ (s : State) (p : Fin 64), s.dev.held = false → s.dev.liveOf (WRP_CTL.enable p.val) = 1 →
     let trains (e : Device) : Prop :=
       e.wstate p.val = 1 ∧ (∀ j, j < 4 → e.get (WRP_LSTAT.lstate p.val j) = 0) ∧ (e.port p.val).frame = none ∧
       (e.port p.val).chunk = 0 ∧ e.get (WRP_TRAIN.train_count p.val) =
         satU (WRP_TRAIN.train_count p.val).w (s.dev.get (WRP_TRAIN.train_count p.val) + 1) ∧
       s.dev.keeps e [.regs, .lanes, .ports]
     (s.dev.wstate p.val = 1 → ∀ ofs : BitVec 16, s.writes (.forwardedClockDetect p ofs)
       ([(WRP_PSTAT.state p.val, 2), (WRP_CLKOFS.clk_ofs p.val, ofs.toNat)] ++
        (List.range 4).map fun k => (WRP_LSTAT.lstate p.val k, 1))) ∧
     (2 ≤ s.dev.wstate p.val → s.runs (.forwardedClockLoss p) fun e => trains e ∧ e.flag (WRP_PSTAT.clock_lost p.val) = true) ∧
     (s.dev.wstate p.val < 2 → s.writes (.forwardedClockLoss p) [(WRP_PSTAT.clock_lost p.val, 1)]) ∧
     (s.dev.wstate p.val = 3 → s.runs (.trainTimeout p) fun e => trains e ∧ e.flag (WRP_PSTAT.train_timeout p.val) = true) ∧
     (∀ k : Fin 4, 2 ≤ s.dev.wstate p.val → 2 ≤ s.dev.get (WRP_LSTAT.lstate p.val k.val) →
       s.runs (.markerTimeout p k) fun e => trains e ∧ e.get (WRP_LCNT_LOCK.lock_losses p.val k.val) =
         satU (WRP_LCNT_LOCK.lock_losses p.val k.val).w (s.dev.get (WRP_LCNT_LOCK.lock_losses p.val k.val) + 1))) ∧
  (∀ (s : State) (p : Fin 64) (k : Fin 4), s.dev.held = false → s.dev.receiving p.val = true →
     (∀ v : BitVec 30, s.dev.flag (WRP_LSTAT.frozen p.val k.val) = false →
       s.writes (.eqAdaptUpdate p k v) [(WRP_LEQ.word p.val k.val, v.toNat)]) ∧
     (∀ ns : List Nat, (s.dev.lane p.val k.val).windowBlocks < 65536 → s.runs (.adaptWindowEnd p k ns) fun e => e = s.dev) ∧
     (∀ (ns : List Nat) (eye : Nat), 2 ≤ s.dev.get (WRP_LSTAT.lstate p.val k.val) →
       65536 ≤ (s.dev.lane p.val k.val).windowBlocks → eye < 256 →
       (∀ i, i < 8 → bit eye (7 - i) = decide (ns.getD i 0 ≤ 2)) → s.runs (.adaptWindowEnd p k ns) fun e =>
       let l := s.dev.lane p.val k.val
       (e.lane p.val k.val).history = ({ eye := eye, settings := s.dev.get (WRP_LEQ.word p.val k.val) % 2 ^ 30 } ::
         l.history).take 16 ∧
       (e.lane p.val k.val).goodEyes = (if 64 ≤ eye then l.goodEyes + 1 else 0) ∧ (e.lane p.val k.val).windowIdle = 0 ∧
       (e.lane p.val k.val).windowBlocks = l.windowBlocks - 65536 ∧ e.get (WRP_LSTAT.eye p.val k.val) = eye ∧
       e.get (WRP_LIDLE.idle_blocks p.val k.val) = min l.windowIdle 65536 ∧
       (∀ j, j ≠ k.val → j < 4 → e.lane p.val j = s.dev.lane p.val j) ∧ s.dev.keeps e [.regs, .lanes]))

/-- Every frame gets one answer, in the order in which frames ended: the code of its first failing check. A rejected
frame is counted under its code and leaves the creel alone; an accepted one puts its samples into the pick's slot,
blanked inputs and reserved parts as zero, and is counted. Code 11 for every frame under a fatal fault is the model's
reading (log 51). Rules: 04 R88, R95, R96, R100, R103, R105, R106, R114. -/
def Obligations.FramesAreCheckedAndAnswered : Prop :=
  ∀ (s : State) (p : Fin 64) (f : EndedFrame) (rest : List EndedFrame), s.dev.held = false → s.dev.testen = false →
    (s.dev.port p.val).ended = f :: rest → 8 ≤ f.bytes.length →
    let n := s.dev.extend (beAt f.bytes 4 4)
    let w := s.dev.pickWindow n
    let code := if f.fatal then 11 else if s.dev.frameCode p.val f ≠ 0 then s.dev.frameCode p.val f
      else s.dev.windowCode p.val f n ((f.ended : Int) - w.1) w.2
    let answered (e : Device) : Prop :=
      (e.port p.val).ended = rest ∧ (e.port p.val).answers = (s.dev.port p.val).answers ++
        [{ code := code, index := f.index, pn32 := beAt f.bytes 4 4, ended := f.ended }]
    (code ≠ 0 → s.runs (.pickFrame p) fun e => answered e ∧
      e.get (WRP_REJ.count p.val code) = satU (WRP_REJ.count p.val code).w (s.dev.get (WRP_REJ.count p.val code) + 1) ∧
      s.dev.keeps e [.regs, .ports, .freeN]) ∧
    (code = 0 → f.bytes.length = 16464 → s.runs (.pickFrame p) fun e => answered e ∧
      let c := e.creelSlot (n % 2)
      let blank := beAt f.bytes 16 8 |||
        (s.dev.liveOf (WRP_BLANK_LO.blank_lo p.val) + 2 ^ 32 * s.dev.liveOf (WRP_BLANK_HI.blank_hi p.val))
      c.pick = n ∧ bit c.accepted p.val = true ∧
      (∀ t i, t < 256 → i < 64 → Sparse.get memDflt c.bytes (4096 * t + 64 * p.val + i) =
        if bit blank i then 0 else (cleanSample (f.bytes.getD (64 + 64 * t + i) 0)).1) ∧
      (∀ a, a / 64 % 64 ≠ p.val → Sparse.get memDflt c.bytes a = Sparse.get memDflt (s.dev.pickSlot n).bytes a) ∧
      (e.port p.val).lastAccepted = some n ∧ e.get (WRP_LAST_PN.last_pn p.val) = n % 2 ^ 32 ∧
      e.pair (WRP_ACC_LO.acc_lo p.val) (WRP_ACC_HI.acc_hi p.val) =
        (s.dev.pair (WRP_ACC_LO.acc_lo p.val) (WRP_ACC_HI.acc_hi p.val) + 1) % 2 ^ 64 ∧
      s.dev.keeps e [.regs, .ports, .creel, .freeN])

/-- What each slot of the tie lane carries: the marker first, TRAIN second, then a PERIOD word that is due, else the
oldest answer, else IDLE. The places of marker and TRAIN words are the model's reading (log 52). Rules: 03 R70, R71,
R72, 04 R104, R106, R108, R109. -/
def Obligations.TieLaneSendsInItsOrder : Prop :=
  ∀ (s : State) (p : Fin 64) (t : Nat), s.dev.held = false →
    let d := s.dev.at_ t
    let x := s.dev.port p.val
    let sends (e : Device) (w : Nat) : Prop :=
      (e.port p.val).tieWord = w ∧ (e.port p.val).tieCount = (x.tieCount + 1) % 1024
    let msgs := x.tieCount ≠ 0 ∧ x.tieCount ≠ 1 ∧ (s.dev.wstate p.val = 6 ∨ x.tieCount % 64 ≠ 1)
    (x.tieCount = 0 → s.runs (.tieWordSend p t) fun e => sends e (tieMarker p.val) ∧
      (e.port p.val).tieGen = 0x55555400 ||| (p.val * 4) ∧ d.keeps e [.ports]) ∧
    (x.tieCount = 1 → s.runs (.tieWordSend p t) fun e => sends e (s.dev.tieTrain p.val) ∧ d.keeps e [.ports]) ∧
    (∀ m : PeriodMsg, msgs → s.dev.liveOf (WRP_CTL.enable p.val) = 1 → x.periods.find? PeriodMsg.due = some m →
      s.runs (.tieWordSend p t) fun e =>
        sends e (tieMsg 2 ((m.period + 4096 - 2048) % 4096) (m.boundary % 2 ^ 32)) ∧ d.keeps e [.ports]) ∧
    (∀ (a : Answer) (rest : List Answer), msgs → x.periods.find? PeriodMsg.due = none → x.answers = a :: rest →
      s.runs (.tieWordSend p t) fun e => sends e (tieMsg 1 (a.code * 256 + a.index) a.pn32) ∧ (e.port p.val).answers = rest ∧
        e.get (WRP_FRAME_STAT.last_code p.val) = a.code % 16 ∧ e.get (WRP_FRAME_STAT.last_index p.val) = a.index % 256 ∧
        d.keeps e [.regs, .ports]) ∧
    (msgs → x.periods.find? PeriodMsg.due = none → x.answers = [] →
      s.runs (.tieWordSend p t) fun e => sends e 0 ∧ d.keeps e [.ports])

/-! ### Treadle engines (09) -/

/-- Control flow of an engine: NOP and the branches, taken and not; HALT and an illegal opcode stop it; WAITP ends its
pick's busy cycles and waits, its return makes the engine pick m - 2; an engine that has been LOADED starts at word 0.
That the program counter wraps at 14 bits is the model's reading (log 58). Rules: 09 R242, R243, R251, R256, R258. -/
def Obligations.TreadleControlFlow : Prop :=
  ∀ (s : State) (e : Fin 4), s.dev.held = false →
    let x := s.dev.engine e.val
    (∀ w : TWord, s.dev.nextWord e w →
      let goes (c : Instr) (op : Nat) (z : Engine) (reads : List Nat) (taken : Bool) (yes no : Nat)
          (slow : Option Nat) : Prop :=
        w.op = op → s.runs c fun y =>
          let pc := if taken then low 14 w.imm else (x.pc + 1) % 16384
          y.engine e.val = { z with pc := pc, slow := slow,
                                    busy := x.busy.map fun n => n + x.stall reads + (if taken then yes else no) } ∧
          y.get (TRD_PC.pc e.val) = pc % 16384 ∧ (∀ k, k ≠ e.val → y.engine k = s.dev.engine k) ∧
          { s.dev with engines := y.engines }.onlyFields y [TRD_PC.pc e.val]
      goes (.nop e) 0x00 x [] false 1 1 none ∧ goes (.br e) 0x03 x [] true 2 2 none ∧
      goes (.brz e) 0x04 x [w.a] (x.sreg w.a == 0) 2 1 none ∧ goes (.brnz e) 0x05 x [w.a] (x.sreg w.a != 0) 2 1 none ∧
      goes (.brgt e) 0x06 x [w.a, w.b] (decide (x.sreg w.b < x.sreg w.a)) 2 1 none ∧
      goes (.brle e) 0x07 x [w.a, w.b] (decide (x.sreg w.a ≤ x.sreg w.b)) 2 1 none ∧
      (let v := s32 (x.sreg w.d - 1)
       goes (.djnz e) 0x08 (x.setS w.d v) [w.d] (v != 0) 1 2 (if v = 0 then some w.d else none)) ∧
      (w.op = 0x02 → s.writes (.halt e) [(TRD_STAT.state e.val, 5)]) ∧
      (w.op ∉ trdOpcodes → s.writes (.illegalOpcode e)
        [(TRD_STAT.state e.val, 5), (TRD_STAT.illegal e.val, 1), (TRD_PC.pc e.val, x.pc % 16384)]) ∧
      (∀ n, w.op = 0x01 → x.busy = some n → s.runs (.waitp e) fun y =>
        y.engine e.val = { x with busy := none, slow := none } ∧ y.get (TRD_BUSY.last e.val) = satU 16 n ∧
        y.get (TRD_BUSY.peak e.val) = max (s.dev.get (TRD_BUSY.peak e.val)) (satU 16 n) ∧
        y.trdState e.val = (if s.dev.liveOf (TRD_CTL.run e.val) = 0 then 4 else 3) ∧
        { s.dev with engines := y.engines }.onlyFields y
          [TRD_BUSY.last e.val, TRD_BUSY.peak e.val, TRD_STAT.state e.val])) ∧
    (s.dev.trdState e.val = 3 → x.event = true → s.runs (.waitpReturn e) fun y =>
      let n := (s.dev.pn + 2 ^ 64 - 2) % 2 ^ 64
      let keep := x.ap.filter fun a => ahead a.pick n
      y.engine e.val = { x with event := false, pick := n, ap := keep, busy := some 0, trigged := false, slow := none,
                                pc := (x.pc + 1) % 16384, cfg := x.handed } ∧
      y.trdState e.val = 2 ∧ y.get (TRD_DROP.apu e.val) = satU 16 (s.dev.get (TRD_DROP.apu e.val) + (x.ap.length - keep.length)) ∧
      s.dev.keeps y [.regs, .engines]) ∧
    (∀ b, s.dev.trdState e.val = 1 → x.startAt = some b → ahead s.dev.pn b = true → s.runs (.engineStart e) fun y =>
      y.engine e.val = { x with startAt := none, event := true, pc := 0, busy := none, slow := none } ∧
      y.trdState e.val = 2 ∧ y.get (TRD_PC.pc e.val) = 0 ∧
      { s.dev with engines := y.engines }.onlyFields y [TRD_STAT.state e.val, TRD_PC.pc e.val])

/-- R241: rounding adds half and shifts right, and narrowing clamps with sat 1 and keeps the low bits with sat 0. The
scalar instructions of R243 write their result to Sd, narrowed where the table says so, change no other register,
count one clamping instruction in TRD_SATCNT, take their cycles and the wait of R244. That the program counter wraps
at 14 bits is the model's reading (log 58). Rules: 09 R241, R243, R244, R253. -/
def Obligations.TreadleScalarInstructions : Prop :=
  (∀ (x : Int) (sh : Nat), rnd x 0 = x ∧ (1 ≤ sh → rnd x sh = (x + 2 ^ (sh - 1)) / 2 ^ sh)) ∧
  (∀ (n : Nat) (x : Int), (n = 32 ∨ n = 48) →
    let v := narrow n true x
    let y := narrow n false x
    v.1 = max (-2 ^ (n - 1)) (min x (2 ^ (n - 1) - 1)) ∧ v.2 = decide (v.1 ≠ x) ∧
    y.2 = false ∧ -2 ^ (n - 1) ≤ y.1 ∧ y.1 < 2 ^ (n - 1) ∧ (y.1 - x) % 2 ^ n = 0) ∧
  (∀ (x : Engine) (k : Nat) (v : Int), (x.setS k v).sreg k = v ∧ ∀ j, j ≠ k → (x.setS k v).sreg j = x.sreg j) ∧
  ∀ (s : State) (e : Fin 4) (w : TWord), s.dev.held = false → s.dev.nextWord e w →
    let x := s.dev.engine e.val
    let a := x.sreg w.a
    let b := x.sreg w.b
    let gives (c : Instr) (op cycles : Nat) (reads : List Nat) (v : Int × Bool) : Prop :=
      w.op = op → s.runs c fun y =>
        y.engine e.val = { x.setS w.d v.1 with
          pc := (x.pc + 1) % 16384, slow := if cycles = 2 then some w.d else none,
          busy := x.busy.map fun n => n + x.stall reads + cycles } ∧
        (∀ k, k ≠ e.val → y.engine k = s.dev.engine k) ∧ y.get (TRD_PC.pc e.val) = (x.pc + 1) % 16384 ∧
        y.get (TRD_SATCNT.count e.val) =
          (if v.2 then satU 32 (s.dev.get (TRD_SATCNT.count e.val) + 1) else s.dev.get (TRD_SATCNT.count e.val)) ∧
        { s.dev with engines := y.engines }.onlyFields y [TRD_PC.pc e.val, TRD_SATCNT.count e.val]
    let plain (v : Int) : Int × Bool := (s32 v, false)
    let sat (v : Int) : Int × Bool := narrow 32 w.sat v
    gives (.geta e) 0x0E 1 [] (plain (x.offset w.r)) ∧ gives (.lis e) 0x10 1 [] (plain w.imm) ∧
    gives (.adds e) 0x11 1 [w.a, w.b] (sat (a + b)) ∧ gives (.subs e) 0x12 1 [w.a, w.b] (sat (a - b)) ∧
    gives (.addis e) 0x13 1 [w.a] (sat (a + w.imm)) ∧ gives (.muls e) 0x14 2 [w.a, w.b] (sat (rnd (a * b) w.sh)) ∧
    gives (.ands e) 0x15 1 [w.a, w.b] (plain (bitOp (· &&& ·) a b)) ∧
    gives (.ors e) 0x16 1 [w.a, w.b] (plain (bitOp (· ||| ·) a b)) ∧
    gives (.xors e) 0x17 1 [w.a, w.b] (plain (bitOp (· ^^^ ·) a b)) ∧
    gives (.shls e) 0x18 1 [w.a] (sat (a * 2 ^ w.sh)) ∧ gives (.shrs e) 0x19 1 [w.a] (plain (rnd a w.sh)) ∧
    gives (.gets e) 0x1A 1 [] (plain (s.dev.special e.val (low 8 w.imm))) ∧
    gives (.vext e) 0x1B 1 [16 + w.a] (plain ((x.vec w.a).getD (low 4 w.imm) 0)) ∧
    gives (.asum e) 0x34 2 [32 + w.n] (sat (rnd ((x.accum w.n).foldl (· + ·) 0) w.sh))

/-- The vector and accumulator instructions write their sixteen lanes, narrowed where the opcode table says so, and
change no other register. That the program counter wraps at 14 bits is the model's reading (log 58). Rules: 09 R241,
R243, R244. -/
def Obligations.TreadleVectorInstructions : Prop :=
  (∀ (x : Engine) (k : Nat) (vs : List Int), vs.length = 16 →
    (∀ i, i < 16 → Sparse.get (fun _ => 0) (x.setV k vs).v (16 * k + i) = vs.getD i 0 ∧
      Sparse.get (fun _ => 0) (x.setAcc k vs).acc (16 * k + i) = vs.getD i 0) ∧
    ∀ j, j < 16 * k ∨ 16 * k + 16 ≤ j → Sparse.get (fun _ => 0) (x.setV k vs).v j = Sparse.get (fun _ => 0) x.v j ∧
      Sparse.get (fun _ => 0) (x.setAcc k vs).acc j = Sparse.get (fun _ => 0) x.acc j) ∧
  ∀ (s : State) (e : Fin 4) (w : TWord), s.dev.held = false → s.dev.nextWord e w →
    let x := s.dev.engine e.val
    let a := x.vec w.a
    let b := x.vec w.b
    let t := x.accum w.n
    let gives (c : Instr) (op cycles : Nat) (reads : List Nat) (z : Engine) (clamped : Bool) (slow : Option Nat) : Prop :=
      w.op = op → s.runs c fun y =>
        y.engine e.val = { z with pc := (x.pc + 1) % 16384, slow := slow,
                                  busy := x.busy.map fun n => n + x.stall reads + cycles } ∧
        (∀ k, k ≠ e.val → y.engine k = s.dev.engine k) ∧
        y.get (TRD_SATCNT.count e.val) =
          (if clamped then satU 32 (s.dev.get (TRD_SATCNT.count e.val) + 1) else s.dev.get (TRD_SATCNT.count e.val)) ∧
        { s.dev with engines := y.engines }.onlyFields y [TRD_PC.pc e.val, TRD_SATCNT.count e.val]
    let plain (c : Instr) (op : Nat) (reads : List Nat) (vs : List Int) : Prop :=
      gives c op 1 reads (x.setV w.d (vs.map s32)) false none
    let sat (c : Instr) (op cycles : Nat) (reads : List Nat) (vs : List Int) : Prop :=
      let v := narrowAll 32 w.sat vs
      gives c op cycles reads (x.setV w.d v.1) v.2 (if cycles = 2 then some (16 + w.d) else none)
    let rab := [16 + w.a, 16 + w.b]
    sat (.vadd e) 0x20 1 rab (List.zipWith (· + ·) a b) ∧ sat (.vsub e) 0x21 1 rab (List.zipWith (· - ·) a b) ∧
    sat (.vmul e) 0x22 2 rab (List.zipWith (fun p q => rnd (p * q) w.sh) a b) ∧
    plain (.vmax e) 0x23 rab (List.zipWith max a b) ∧ plain (.vmin e) 0x24 rab (List.zipWith min a b) ∧
    sat (.vabs e) 0x25 1 [16 + w.a] (a.map fun p => (p.natAbs : Int)) ∧
    plain (.vspl e) 0x26 [w.a] (List.replicate 16 (x.sreg w.a)) ∧
    plain (.vins e) 0x27 [w.a, 16 + w.d] ((x.vec w.d).set (low 4 w.imm) (x.sreg w.a)) ∧
    sat (.vshl e) 0x28 1 [16 + w.a] (a.map fun p => p * 2 ^ w.sh) ∧ plain (.vshr e) 0x29 [16 + w.a] (a.map fun p => rnd p w.sh) ∧
    plain (.vgt e) 0x2A [16 + w.a, w.b] (a.map fun p => if x.sreg w.b < p then 1 else 0) ∧
    plain (.vand e) 0x2B rab (List.zipWith (bitOp (· &&& ·)) a b) ∧
    gives (.aclr e) 0x30 1 [] (x.setAcc w.n (List.replicate 16 0)) false none ∧
    (let v := narrowAll 48 w.sat (List.zipWith (· + ·) t (List.zipWith (fun p q => rnd (p * q) w.sh) a b))
     gives (.mac e) 0x31 2 [16 + w.a, 16 + w.b, 32 + w.n] (x.setAcc w.n v.1) v.2 (some (32 + w.n))) ∧
    (let v := narrowAll 48 w.sat (List.zipWith (· + ·) t a)
     gives (.maca e) 0x32 1 [16 + w.a, 32 + w.n] (x.setAcc w.n v.1) v.2 none) ∧
    sat (.accr e) 0x33 1 [32 + w.n] (t.map fun p => rnd p w.sh)

/-- R245 and R246: element k of an access through Ar lies at (Br + ((A + k) mod L)) mod 65,536. SETL sets a pending
length, replacing one not yet taken, and leaves the length in force; the next update of Ar first makes a pending
length the one in force, reduces a start offset of L or more and sets circ_reduce, and leaves (start + increment) mod
L. Loads and stores reach those words under the length in force before the instruction and then post-modify. That the
program counter wraps at 14 bits is the model's reading (log 58). Rules: 09 R245, R246. -/
def Obligations.TreadleAddressesAndDataMemory : Prop :=
  (∀ (x : Engine) (r k : Nat), x.addrOf r k = (x.base r + (x.offset r + k) % x.len r) % 65536) ∧
  (∀ (x : Engine) (r start : Nat) (inc : Int),
    let n := if x.pendLen r = 0 then x.len r else x.pendLen r
    let y := x.update r start inc
    y.1.offset r = ((((start % n : Nat) : Int) + inc) % n).toNat ∧ y.1.len r = n ∧ y.1.pendLen r = 0 ∧
    y.2 = decide (n ≤ start) ∧ ∀ q, q ≠ r → y.1.offset q = x.offset q ∧ y.1.len q = x.len q ∧ y.1.pendLen q = x.pendLen q) ∧
  ∀ (s : State) (e : Fin 4) (w : TWord), s.dev.held = false → s.dev.nextWord e w →
    let x := s.dev.engine e.val
    let gives (c : Instr) (op : Nat) (z : Engine × Bool) (post : Engine → Prop) : Prop :=
      w.op = op → s.runs c fun y =>
        let z' := y.engine e.val
        z' = { z.1 with pc := (x.pc + 1) % 16384, slow := z'.slow, busy := z'.busy } ∧ post z' ∧
        (∀ k, k ≠ e.val → y.engine k = s.dev.engine k) ∧
        y.flag (TRD_STAT.circ_reduce e.val) = (z.2 || s.dev.flag (TRD_STAT.circ_reduce e.val)) ∧
        { s.dev with engines := y.engines }.onlyFields y [TRD_PC.pc e.val, TRD_STAT.circ_reduce e.val]
    let any (_ : Engine) : Prop := True
    gives (.seta e) 0x0A (x.update w.r (low 32 (x.sreg w.a + w.imm)) 0) any ∧
    gives (.adda e) 0x0B (x.update w.r (x.offset w.r) w.imm) any ∧
    gives (.setb e) 0x0C ({ x with b := Sparse.put (fun _ => 0) x.b w.r (low 16 w.imm) }, false)
      (fun z => z.base w.r = low 16 w.imm) ∧
    gives (.setl e) 0x0D ({ x with lPend := Sparse.put (fun _ => 0) x.lPend w.r (len16 (low 16 w.imm)) }, false)
      (fun z => z.pendLen w.r = len16 (low 16 w.imm) ∧ z.len w.r = x.len w.r) ∧
    gives (.lds e) 0x3E ((x.setS w.d (sx 32 (x.load (x.addrOf w.r 0)))).postModify w.r w.m)
      (fun z => z.sreg w.d = sx 32 (x.load (x.addrOf w.r 0))) ∧
    gives (.sts e) 0x3F ((x.storeWord (x.addrOf w.r 0) (x.sreg w.a)).postModify w.r w.m)
      (fun z => z.datum (x.addrOf w.r 0) = BitVec.ofInt 32 (x.sreg w.a) ∧ ∀ k, k ≠ x.addrOf w.r 0 → z.datum k = x.datum k) ∧
    gives (.ldv e) 0x3C ((x.setV w.d ((List.range 16).map fun k => sx 32 (x.load (x.addrOf w.r k)))).postModify w.r w.m)
      (fun z => ∀ k, k < 16 → Sparse.get (fun _ => 0) z.v (16 * w.d + k) = sx 32 (x.load (x.addrOf w.r k))) ∧
    (w.op = 0x3D → 16 ≤ x.len w.r → x.len w.r ≤ 65536 → s.runs (.stv e) fun y =>
      (∀ k, k < 16 → (y.engine e.val).datum (x.addrOf w.r k) = BitVec.ofInt 32 ((x.vec w.a).getD k 0)) ∧
      (∀ q, (∀ k, k < 16 → q ≠ x.addrOf w.r k) → (y.engine e.val).datum q = x.datum q) ∧
      (y.engine e.val).pc = (x.pc + 1) % 16384 ∧ (y.engine e.val).v = x.v ∧ (y.engine e.val).s = x.s ∧
      (∀ k, k ≠ e.val → y.engine k = s.dev.engine k) ∧ s.dev.keeps y [.regs, .engines])

/-- The streams, the searches, EMIT and TRIG: INA and IND deliver what the FIFOs hold, oldest first, IND's tags where
both its vectors are one register; a search replaces Sd and its index only by a better lane; EMIT offers its record;
TRIG presents the engine's trigger once for each engine pick. The index of a search with m 2 or 3 is a free value (log
6). That the program counter wraps at 14 bits and what IND with m 1 discards is the model's reading (log 58). Rules:
09 R247, R248, R249, R250, R254, R255. -/
def Obligations.TreadleStreamsSearchesRecords : Prop :=
  ∀ (s : State) (e : Fin 4) (w : TWord), s.dev.held = false → s.dev.nextWord e w →
    let x := s.dev.engine e.val
    let frame (y : Device) : Prop := (∀ k, k ≠ e.val → y.engine k = s.dev.engine k) ∧ s.dev.keeps y [.regs, .engines]
    (w.op = 0x35 → s.runs (.ina e) fun y => frame y ∧
      (match x.ap with
        | [] => (y.engine e.val).sreg w.b = -1 ∧ (∀ k, k < 16 → Sparse.get (fun _ => 0) (y.engine e.val).v (16 * w.d + k) = 0)
        | a :: rest => (y.engine e.val).ap = rest ∧ (y.engine e.val).sreg w.b = s32 (a.tag : Int) ∧
          (a.lanes.length = 16 → ∀ k, k < 16 →
            Sparse.get (fun _ => 0) (y.engine e.val).v (16 * w.d + k) = ((a.lanes.getD k 0 : Nat) : Int)))) ∧
    (w.op = 0x36 → s.runs (.ind e) fun y => frame y ∧
      let r := popDet (w.m == 1) 16 x.det
      (y.engine e.val).det = r.2 ∧ (y.engine e.val).sreg w.a = (r.1.length : Int) ∧
      (w.d ≠ w.b → ∀ k, k < 16 → Sparse.get (fun _ => 0) (y.engine e.val).v (16 * w.d + k) =
        match r.1[k]? with
        | none => 0
        | some q => ((min q.value (2 ^ 31 - 1) : Nat) : Int)) ∧
      (∀ k, k < 16 → Sparse.get (fun _ => 0) (y.engine e.val).v (16 * w.b + k) =
        match r.1[k]? with
        | none => -1
        | some q => s32 ((q.tag + (if q.clamped then 2 ^ 13 else 0) : Nat) : Int))) ∧
    (let searches (c : Instr) (op : Nat) (better : Int → Int → Bool) : Prop :=
      w.op = op → s.runs c fun y =>
        let q := bestLane better (x.vec w.a)
        let z := if better q.1 (x.sreg w.d) then (x.setS w.d q.1).setS ((w.d + 1) % 16) (s.dev.searchIndex w x q.2) else x
        (y.engine e.val).s = z.s ∧ (y.engine e.val).v = x.v ∧ y.freeN = s.dev.freeN + 1 ∧
        (∀ k, k ≠ e.val → y.engine k = s.dev.engine k) ∧ s.dev.keeps y [.regs, .engines, .freeN]
     searches (.maxi e) 0x38 (fun p q => decide (q < p)) ∧ searches (.mini e) 0x39 (fun p q => decide (p < q))) ∧
    (w.op = 0x3A → s.runs (.emit e) fun y =>
      (y.engine e.val).pc = (x.pc + 1) % 16384 ∧ (y.engine e.val).s = x.s ∧ (y.engine e.val).data = x.data ∧
      (s.dev.flag (TRD_QUEUE.valid e.val w.m) = true → y.get (TRD_EMIT_CNT.count e.val) =
        satU (TRD_EMIT_CNT.count e.val).w (s.dev.get (TRD_EMIT_CNT.count e.val) + 1)) ∧
      (s.dev.flag (TRD_QUEUE.valid e.val w.m) = false → y.flag (TRD_STAT.emit_drop e.val) = true ∧
        y.queues = s.dev.queues ∧ y.mem = s.dev.mem) ∧
      (4096 < low 13 w.imm → y.flag (TRD_STAT.emit_trunc e.val) = true) ∧
      s.dev.keeps y [.regs, .engines, .queues, .mem, .poison, .drm]) ∧
    (∀ t, w.op = 0x3B → s.runs (.trig e t) fun y =>
      (y.engine e.val).pc = (x.pc + 1) % 16384 ∧
      y.get (TRD_TRIG_CNT.count e.val) =
        satU (TRD_TRIG_CNT.count e.val).w (s.dev.get (TRD_TRIG_CNT.count e.val) + 1) ∧
      ((s.dev.seenBy e.val).liveOf (TRD_CTL.trig_en e.val) = 1 → x.trigged = false →
        (y.engine e.val).trigged = true ∧ y.get (TRD_TRIG_CAUSE.value e.val) = low 32 (x.sreg w.a) ∧
        y.get (TRD_TRIG_PN.value e.val) = x.pick % 2 ^ 32) ∧
      ((s.dev.seenBy e.val).liveOf (TRD_CTL.trig_en e.val) = 1 → x.trigged = true → y.flag (TRD_STAT.trig_merged e.val) = true ∧
        y.jrn = s.dev.jrn) ∧
      ((s.dev.seenBy e.val).liveOf (TRD_CTL.trig_en e.val) ≠ 1 → y.jrn = s.dev.jrn ∧ y.trigAck = s.dev.trigAck) ∧
      (s.dev.at_ t).keeps y [.regs, .engines, .jrn, .trigAck, .drm, .sup])

/-! ### Drafts (12) -/

/-- The requests on the staging slot: a check, a clear, an arm, a cancel, an unweave, each with the refusal that
applies. Rules: 12 R327, R345, R348, R353, R357. -/
def Obligations.DraftRequestsMoveTheSlot : Prop :=
  ∀ (s : State) (m : Master) (t : Nat), s.dev.held = false → s.dev.issues m.val = true →
    let x := s.dev.request m.val 1
    let d := x.at_ t
    let w := x.weaveAt
    let refused (y : Device) (c : Instr) (code : Nat) : Prop := s.runs c fun e =>
      e.get PCK_WEAVE_STAT.refused = 1 ∧ e.get PCK_WEAVE_STAT.code = code ∧
      y.onlyFields e [PCK_WEAVE_STAT.refused, PCK_WEAVE_STAT.code]
    (x.stage = 1 → s.writesBy m.val (.checkRequest m) [(PCK_WEAVE_STAT.stage, 2)]) ∧
    (x.stage ≠ 1 → refused x (.checkRequest m) 25) ∧
    (x.stage ≠ 2 → x.stage ≠ 5 → s.runs (.stagingClear m) fun e =>
      e.stage = 0 ∧ e.pair PCK_STAGE_ID_LO.id_lo PCK_STAGE_ID_HI.id_hi = 0 ∧
      { x with drafts := { x.drafts with written := [] } }.onlyFields e
        [PCK_WEAVE_STAT.stage, PCK_STAGE_ID_LO.id_lo, PCK_STAGE_ID_HI.id_hi]) ∧
    (x.stage = 2 ∨ x.stage = 5 → s.writesBy m.val (.stagingClear m) [(PCK_WEAVE_STAT.refused, 1)]) ∧
    (∀ c, d.armRefusal w = some c → refused d (.armRequest m t) c) ∧
    (x.stage ≠ 3 → d.armRefusal w = some 16) ∧
    (d.armRefusal w = none → d.changesPeriod w (secN x.drafts.staging 1 0 2) = false → s.runs (.armRequest m t) fun e =>
      e.stage = 5 ∧ e.drafts = { x.drafts with armed := some { w := w, unweave := false, deadline := x.weaveDeadline w,
                                                                   changesP := false, prepared := false } } ∧
      { d with drafts := e.drafts }.onlyFields e [PCK_WEAVE_STAT.stage]) ∧
    (x.drafts.armed = none → refused x (.cancelRequest m) 27) ∧
    (∀ a, x.drafts.armed = some a → ahead x.pn a.deadline = true → refused x (.cancelRequest m) 24) ∧
    (∀ a, x.drafts.armed = some a → ahead x.pn a.deadline = false →
      (a.unweave = true → s.runs (.cancelRequest m) fun e => e.get PCK_WEAVE_STAT.unweave_armed = 0 ∧
        { x with drafts := { x.drafts with armed := none } }.onlyFields e [PCK_WEAVE_STAT.unweave_armed]) ∧
      (a.unweave = false → a.changesP = false → s.runs (.cancelRequest m) fun e => e.stage = 3 ∧
        (∀ y ∈ e.setter.sets, y.shed ≠ a.w) ∧
        { x with drafts := { x.drafts with armed := none }, setter := e.setter }.onlyFields e
          [PCK_WEAVE_STAT.stage])) ∧
    (x.woven = false → refused d (.unweaveRequest m t) 26) ∧
    (x.woven = true → x.running = true → x.drafts.armed = none → w % x.shedLen = 0 →
      ahead w (x.pn + 256) = true → ahead x.pn (x.weaveDeadline w) = false →
      s.runs (.unweaveRequest m t) fun e => e.get PCK_WEAVE_STAT.unweave_armed = 1 ∧
        e.drafts = { x.drafts with armed := some { w := w, unweave := true, deadline := x.weaveDeadline w,
                                                       changesP := false, prepared := true } } ∧
        { d with drafts := e.drafts }.onlyFields e [PCK_WEAVE_STAT.unweave_armed])

/-- A check that ends leaves the slot CHECKED with the draft's identifier, or FAILED with code, section and offset
(R345); a slot whose bytes have not all been written fails with code 1. The preparation of an armed weave writes the
default pattern into the new draft's bank A and tag 0 into every record of its state area, and no other byte of memory
(R351); what it writes without a BEAMS section is the model's reading (log 54). At its boundary the staged draft
becomes the woven one with its identifier, period and shed length, the staging slot is EMPTY, the setter starts anew
with bank A, ZCH_GEN is 1, and a pending commit is discarded; an unweave removes the draft and stops the engines. An
unweave counts in done as a weave does by the model's reading (log 55). Rules: 02 R50, 07 R205, 08 R234, 12 R328,
R333, R345, R351, R354, R355, R357, R358. -/
def Obligations.DraftChecksAndPreparationEnd : Prop :=
  (∀ s : State, s.dev.held = false → s.dev.stage = 2 →
     let x := s.dev.drafts
     (s.runs .checkEnd fun e => match s.dev.draftError with
       | none => e.stage = 3 ∧ e.pair PCK_STAGE_ID_LO.id_lo PCK_STAGE_ID_HI.id_hi = rdN x.staging 8 8 ∧
         { s.dev with rsq := e.rsq }.onlyFields e [PCK_WEAVE_STAT.stage, PCK_STAGE_ID_LO.id_lo, PCK_STAGE_ID_HI.id_hi]
       | some c => e.stage = 4 ∧ e.get PCK_WEAVE_STAT.code = c.code % 2 ^ 8 ∧ e.get PCK_WEAVE_STAT.sect = c.sect % 2 ^ 16 ∧
         e.get PCK_WEAVE_ERR_OFS.offset = c.off % 2 ^ 32 ∧
         { s.dev with rsq := e.rsq }.onlyFields e
           [PCK_WEAVE_STAT.stage, PCK_WEAVE_STAT.code, PCK_WEAVE_STAT.sect, PCK_WEAVE_ERR_OFS.offset]) ∧
     (covers x.written 4 8 = false ∨ covers x.written 0 (rdN x.staging 4 4) = false →
       s.dev.draftError = some { code := 1, sect := 0, off := 0xFFFFFFFF })) ∧
  (∀ (s : State) (a : Armed), s.dev.held = false → s.dev.drafts.armed = some a → a.unweave = false → a.prepared = false →
     256 ≤ s.dev.oldShed → (∀ u ∈ s.dev.chains.units, u.2.wb = none) →
     let m := s.dev.drafts.staging
     let bank := memF m 46 6
     let tag (x : Nat) : Prop := ∃ e z, e < nEnt m ∧ z < 640 ∧ recordAddr (memF m 28 6) e z ≤ x ∧
       x < recordAddr (memF m 28 6) e z + 4
     s.runs .weavePreparationDone fun e =>
       (∀ x, tag x → e.byte x = 0) ∧
       (∀ c, section_ m 6 = some c → ∀ i, i < bankSize → ¬ tag (bank + i) → 
         e.byte (bank + i) = (Sparse.getAll memDflt m c.off bankSize).getD i 0) ∧
       (section_ m 6 = none → ∀ i, i < 4096 → ¬ tag (bank + i) →
         e.byte (bank + i) = if i = 0 then 0x48 else if i = 1 then 0x50 else 0) ∧
       (∀ x, ¬ tag x → x < bank ∨ bank + bankSize ≤ x → e.byte x = s.dev.byte x) ∧ (s.dev.memWf → e.memWf) ∧
       e.drafts = { s.dev.drafts with armed := some { a with prepared := true } } ∧ s.dev.keeps e [.mem, .poison, .drafts, .drm]) ∧
  (∀ (s : State) (a : Armed), s.dev.held = false → s.dev.running = true → s.dev.restarting = false → s.dev.tm.fwCommit = false →
     let x := s.dev
     let m := (x.pn + 1) % 2 ^ 64
     x.jrn.resumePick = none → x.drafts.armed = some a → a.w = m →
     let n := x.drafts.staging
     let common (e : Device) : Prop :=
       e.pair PCK_WEAVE_PN_LO.wpn_lo PCK_WEAVE_PN_HI.wpn_hi = m ∧
       e.get PCK_WEAVE_CNT.done = satU 16 (x.get PCK_WEAVE_CNT.done + 1) ∧
       e.get HST_STATE.active = 0 ∧ e.setter.pend = none ∧ e.setter.sw = none ∧ e.setter.latched = none
     (a.unweave = false → s.runs .pickBoundary fun e => common e ∧ e.woven = true ∧ e.stage = 0 ∧
       e.drafts = { x.drafts with woven1 := !x.drafts.woven1, written := [], armed := none } ∧
       e.pair PCK_DRAFT_ID_LO.id_lo PCK_DRAFT_ID_HI.id_hi = rdN n 8 8 ∧
       e.pair PCK_STAGE_ID_LO.id_lo PCK_STAGE_ID_HI.id_hi = 0 ∧
       e.get PCK_CFG.period = secN n 1 0 2 % 2 ^ 13 ∧ e.get PCK_CFG.shed_log2 = secN n 1 2 1 % 2 ^ 4 ∧
       e.get PCK_CFG.stretched = 0 ∧ e.get ZCH_GEN.gen = 1 ∧ e.chains.freshAt = some m ∧
       (x.tm.commit.isSome = true → e.tm.commit = none ∧ e.get PCK_COMMIT_STAT.pending = 0 ∧
         e.get PCK_COMMIT_STAT.weave_discard = 1 ∧
         e.get PCK_COMMIT_STAT.applied_count = x.get PCK_COMMIT_STAT.applied_count)) ∧
     (a.unweave = true → s.runs .pickBoundary fun e => common e ∧ e.woven = false ∧ e.get PCK_WEAVE_STAT.unweave_armed = 0 ∧
       e.drafts = { x.drafts with armed := none } ∧
       e.pair PCK_DRAFT_ID_LO.id_lo PCK_DRAFT_ID_HI.id_hi = 0 ∧ e.get PCK_CFG.shed_log2 = 0 ∧
       e.get PCK_CFG.period = x.get PCK_CFG.period ∧ e.tm.stretch = none ∧ ∀ k, k < 4 → e.trdState k = 0))

/-! ### Reset and start-up (18) -/

/-- Power-on, a fall of PWROK and a cold RESET leave the registers at their reset values and every store empty but the
flash: the boot record, the banks and the settings store. GLB_LAST_FATAL names a fatal fault in force and is otherwise
kept but by a fall of PWROK; what the heddle ports have sent, the response to RESET too, and their links stay. When
RST_N rises, the boot ROM runs the active bank if the record says so and the bank passes its checks. The instant of
reset and the boot at once, and that any reset records a fatal fault in force, are the model's (log 4, log 44), and so
is that the links' state stays (log 83). Rules: 15 R429, 17 R478, 18 R495, R496, R498, 20 R540. -/
def Obligations.ColdResetsKeepOnlyTheFlash : Prop :=
  ∀ s : State,
    let x := s.dev
    let flash (e : Device) : Prop := e.boot.rec0 = x.boot.rec0 ∧ e.boot.rec1 = x.boot.rec1 ∧
      e.boot.delivered = x.boot.delivered ∧ e.boot.stored = x.boot.stored ∧ e.boot.sha0 = x.boot.sha0 ∧
      e.boot.flash = x.boot.flash
    let clears (e : Device) : Prop := flash e ∧
      (∀ a, a ≠ GLB_LAST_FATAL.word.addr → a ≠ GLB_TEST.word.addr → e.word a = resetWord a) ∧
      e.rsq = { Rosesque.cold with
        store0 := x.rsq.store0, store1 := x.rsq.store1, tx0 := x.rsq.tx0, tx1 := x.rsq.tx1, linkUp0 := x.rsq.linkUp0
        linkUp1 := x.rsq.linkUp1, linkAt0 := x.rsq.linkAt0, linkAt1 := x.rsq.linkAt1 } ∧
      e.tm = { Clock.cold with now := x.tm.now } ∧ e.testen = x.testen ∧ e.boot.phase = .rom ∧
      Device.cold.keeps e [.held, .powered, .testen, .freeN, .tm, .regs, .rsq, .boot]
    let lastFatal (e : Device) : Prop :=
      (x.flag GLB_FATAL.fatal = true → e.get GLB_LAST_FATAL.block = x.get GLB_FATAL.block ∧
        e.get GLB_LAST_FATAL.source = x.get GLB_FATAL.source ∧ e.get GLB_LAST_FATAL.valid = 1) ∧
      (x.flag GLB_FATAL.fatal = false → e.word GLB_LAST_FATAL.word.addr = x.word GLB_LAST_FATAL.word.addr)
    let boots (e : Device) : Prop := x.boot.record.state = 0 → x.boot.record.run = 0 → x.boot.bankOk 0 = true →
      e.boot.phase = .loaded ∧ e.boot.usePrev = false ∧ e.get HDL_BOOT.stage = 3 ∧
      ∀ ch, ch < 24 → e.get (DRM_STAT.state ch) = 1
    (s.runs .powerOnReset fun e => e.held = true ∧ e.powered = true ∧ clears e ∧ lastFatal e) ∧
    (s.runs .pwrokFall fun e => e.held = true ∧ e.powered = false ∧ clears e ∧ e.word GLB_LAST_FATAL.word.addr = 0) ∧
    (∀ (t : Nat) (testen : Bool), x.powered = true → x.held = true ∨ x.boot.phase = .rom →
      s.runs (.coldStart t testen) fun e => e.held = false ∧ e.testen = testen ∧ (e.flag GLB_TEST.testen = testen) ∧
        boots e ∧ (x.boot.record.state = 0 → x.boot.record.run = 0 → x.boot.bankOk 0 = true → flash e ∧
        e.rsq = { x.rsq with coldAt := t } ∧ x.keeps e [.held, .testen, .tm, .regs, .ref, .rsq, .boot, .sup])) ∧
    (∀ (h : HostHdr) (t : Nat), x.held = false → h.factory = false → x.takes h 1 0x50 [1] →
      s.runs (.resetCold h t) fun e => e.held = false ∧ lastFatal e ∧ boots e ∧
        (x.boot.record.state = 0 → x.boot.record.run = 0 → x.boot.bankOk 0 = true → flash e ∧
        (let sent := ((x.at_ t).answered h 0 []).rsq
         e.rsq = { Rosesque.cold with
           store0 := x.rsq.store0, store1 := x.rsq.store1, tx0 := sent.tx0, tx1 := sent.tx1, linkUp0 := x.rsq.linkUp0
           linkUp1 := x.rsq.linkUp1, linkAt0 := x.rsq.linkAt0, linkAt1 := x.rsq.linkAt1, coldAt := e.tm.now }) ∧
        Device.cold.keeps e [.held, .powered, .testen, .freeN, .tm, .regs, .rsq, .boot, .sup]))

/-- A committed piece is programmed into the staging bank and marked stored, and a DONE notice says so. An activation
copies the active bank into the previous one, then the staging bank into the active one, records each step, and starts
the new image in TRIAL; a TRIAL start whose watchdog expires is made again, and after the third one the boot ROM falls
back to the previous bank. The order of the checks is the model's reading (log 40), and so is that a bank copy which
fails its check is made again (log 14) and that a cold start made again boots at once (log 44). Rules: 15 R434, 18
R507, R508, R509, R510, R511, R513. -/
def Obligations.ImagesAreStoredAndActivated : Prop :=
  ∀ s : State, s.dev.held = false →
    let x := s.dev.boot
    let r := x.record
    (∀ (h : HostHdr) (piece : W32) (len : Nat) (bs : List Byte),
      let p := piece.toNat
      let b := s.dev.pieceBuf (p % 4)
      let free : PieceBuf := { piece := none, bytes := [], written := [] }
      s.dev.takes h 1 0x20 (be 4 p ++ be 4 len ++ sha256 bs) → s.dev.wrongKey h false false = false → p ≠ 0 →
      x.stored.contains 0 = true → p < x.pieceTotal → len = pieceLen (imgN (x.bankByte 2) 8 4) p → 1 ≤ len →
      x.stored.contains p = false →
      (b.piece = some p → covers b.written 0 len = true → Sparse.getAll memDflt b.bytes 0 len = bs →
        s.runs (.pieceCommit h piece len (sha256 bs)) fun e =>
          e.rsq.programming = s.dev.rsq.programming ++ [(p, bs, h.seq.toNat)] ∧
          (∀ j, j < 4 → e.pieceBuf j = if j = p % 4 then free else s.dev.pieceBuf j) ∧
          e = { s.dev.answered h 1 [] with rsq := { (s.dev.answered h 1 []).rsq with
                  pieces := e.rsq.pieces, programming := e.rsq.programming } }) ∧
      (b.piece ≠ some p ∨ covers b.written 0 len = false → s.runs (.pieceCommit h piece len (sha256 bs)) fun e =>
        (∀ j, j < 4 → e.pieceBuf j = if j = p % 4 then free else s.dev.pieceBuf j) ∧
        e = { s.dev.answered h 12 [] with rsq := { (s.dev.answered h 12 []).rsq with pieces := e.rsq.pieces } })) ∧
    (∀ ok, s.dev.rsq.programming = [] ∨ s.dev.svcHeld = true → s.runs (.pieceProgramDone ok) fun e => e = s.dev) ∧
    (∀ (p seq : Nat) (bs : List Byte) (rest : List (Nat × List Byte × Nat)),
      s.dev.rsq.programming = (p, bs, seq) :: rest → s.dev.svcHeld = false → p < 256 → bs.length ≤ 65536 → p ≠ 0 → s.dev.rsq.queue.length < 4032 →
      let at_ := flashBank 2 + 65536 * p
      let told (e : Device) (status : Nat) : Prop := e.rsq.programming = rest ∧ ∃ n : Notice,
        e.rsq.queue = s.dev.rsq.queue ++ [n] ∧ n.ty = 3 ∧ n.ref = be 8 seq ∧ n.pairs.map Prod.snd = [status]
      (s.runs (.pieceProgramDone false) fun e => told e 13 ∧ e.boot = { x with flash := e.boot.flash } ∧
        (∀ a, Sparse.get (fun _ => (0xFF : Byte)) e.boot.flash a =
          if at_ ≤ a ∧ a < at_ + 65536 then 0xFF else Sparse.get (fun _ => (0xFF : Byte)) x.flash a) ∧
        s.dev.keeps e [.rsq, .boot, .freeN]) ∧
      (x.stored.contains p = false →
        let y := { x with
          stored := p :: x.stored, flash := Sparse.putAll (fun _ => (0xFF : Byte)) (x.erase at_ 65536).flash at_ bs }
        y.stored.length ≠ y.pieceTotal → s.runs (.pieceProgramDone true) fun e => told e 0 ∧ e.boot = y ∧
          s.dev.keeps e [.rsq, .boot, .freeN])) ∧
    (x.phase = .copyPrev → (x.copyBank 0 1).bankOk 1 = true → s.runs .activationCopyDone fun e =>
      e.boot.record = { r with state := 3, vPrev := r.vAct, seq := r.seq + 1 } ∧ e.boot.phase = .copyAct ∧
      e.boot.flash = (x.copyBank 0 1).flash ∧ e.boot.delivered = (x.copyBank 0 1).delivered ∧
      e.get HDL_BOOT.stage = 2 ∧ { s.dev with boot := e.boot }.onlyFields e [HDL_BOOT.stage]) ∧
    (x.phase = .copyPrev → (x.copyBank 0 1).bankOk 1 = false → s.runs .activationCopyDone fun e =>
      e = { s.dev with boot := x.copyBank 0 1 }) ∧
    (x.phase = .copyAct → (x.copyBank 2 0).bankOk 0 = true → s.runs .activationCopyDone fun e =>
      e.boot.record = { r with state := 4, vAct := r.vStag, trials := 1, run := 0, seq := r.seq + 2 } ∧
      e.boot.phase = .loaded ∧ e.boot.trialRun = true ∧ e.boot.usePrev = false ∧ e.boot.flash = (x.copyBank 2 0).flash ∧
      e.get HDL_BOOT.stage = 3 ∧ { s.dev with boot := e.boot }.onlyFields e [HDL_BOOT.stage]) ∧
    (x.phase = .loaded → x.trialRun = true → x.warm = false → r.state = 4 → r.run = 0 → x.bankOk 0 = true → r.trials < 3 →
      s.runs .startWatchdogExpiry fun e => e.boot.record = { r with trials := r.trials + 1, seq := r.seq + 1 } ∧
        e.boot.phase = .loaded ∧ e.boot.trialRun = true ∧ e.boot.usePrev = false ∧ e.mem = [] ∧ e.get HDL_BOOT.stage = 3 ∧
        Device.cold.keeps e [.held, .powered, .testen, .freeN, .tm, .regs, .rsq, .boot, .sup]) ∧
    (x.phase = .loaded → x.trialRun = true → x.warm = true → r.state = 4 → r.run = 0 → x.bankOk 0 = true → r.trials < 3 →
      s.runs .startWatchdogExpiry fun e => e.boot.record = { r with trials := r.trials + 1, seq := r.seq + 1 } ∧
        e.boot.phase = .loaded ∧ e.boot.trialRun = true ∧ e.boot.usePrev = false ∧ e.get HDL_BOOT.stage = 3 ∧
        { s.dev with boot := e.boot }.onlyFields e [HDL_BOOT.stage]) ∧
    (x.phase = .loaded → x.trialRun = true → x.warm = true → r.state = 4 → x.bankOk 1 = true → 3 ≤ r.trials →
      s.runs .startWatchdogExpiry fun e =>
        e.boot.record = { r with state := 0, run := 1, reason := 2, seq := r.seq + 2 } ∧ e.boot.phase = .loaded ∧
        e.boot.trialRun = false ∧ e.boot.usePrev = true ∧ e.boot.note = x.note ++ [(7, r.vAct)] ∧ e.get HDL_BOOT.stage = 4 ∧
        { s.dev with boot := e.boot }.onlyFields e [HDL_BOOT.stage])

/-- The firmware that starts begins a session, counts a cold start in SPL_INCARN, keeps both in the settings store,
and sends HELLO. A warm start whose quiesce has failed restarts cold. A settings copy of a newer layout than the image
reads makes the boot ROM fall back to the previous bank, after a cold restart when the start was cold (R514). That a
cold restart runs the boot ROM in the same step is the model's reading (log 44). Rules: 10 R289, R291, 15 R416, R446,
18 R511, R512, R513, R514. -/
def Obligations.FirmwareStartBeginsASession : Prop :=
  ∀ (s : State) (t : Nat) (c : StoreCopy), s.dev.held = false → s.dev.boot.phase = .loaded → s.dev.boot.trialRun = false →
    s.dev.boot.note = [] → s.dev.rsq.store = some c →
    (s.dev.boot.usePrev = false → s.dev.boot.layout < c.layout → s.dev.boot.bankOk 1 = true →
      s.dev.boot.warm = false ∨ s.dev.quiesceOutcome = some 0 → s.runs (.firmwareStart t) fun e =>
        let r := s.dev.boot.record
        e.boot.record = { r with state := 0, run := 1, reason := 1, seq := r.seq + 2 } ∧ e.boot.phase = .loaded ∧
        e.boot.usePrev = true ∧ e.boot.note = [(6, r.vAct)] ∧ e.boot.warm = s.dev.boot.warm ∧ e.get HDL_BOOT.stage = 4 ∧
        (s.dev.boot.warm = false → Device.cold.keeps e [.held, .powered, .testen, .freeN, .tm, .regs, .rsq, .boot, .sup]) ∧
        (s.dev.boot.warm = true → { s.dev.at_ t with boot := e.boot }.onlyFields e [HDL_BOOT.stage])) ∧
    (c.layout = s.dev.boot.layout →
    let hello (n : Notice) (warm : Byte) : Prop := n.ty = 1 ∧ n.ref.head? = some warm ∧
      n.pairs.map Prod.fst = [PCK_STATE.word.addr, REF_STAT.word.addr, PCK_WEAVE_STAT.word.addr] ∧ n.sent = false
    let starts (e : Device) : Prop :=
      e.boot.phase = .running ∧ e.rsq.hdrUp = true ∧ e.rsq.h = 0 ∧ e.rsq.accepted = [] ∧ e.rsq.cache = [] ∧
      e.rsq.waiting = [] ∧ e.rsq.devSeq = 0 ∧ e.hdl = { s.dev.hdl with kick0 := t, kick1 := t } ∧
      (∀ k, e.rsq.store = some k → k.body = e.rsq.cfg)
    (s.dev.boot.warm = false → s.runs (.firmwareStart t) fun e => starts e ∧
      e.rsq.cfg = { c.body with session := (c.body.session + 1) % 2 ^ 32, incarn := (c.body.incarn + 1) % 2 ^ 32 } ∧
      e.get SPL_INCARN.value = (c.body.incarn + 1) % 2 ^ 32 ∧ e.get HDL_FW_VER.version = s.dev.boot.version ∧
      (e.flag GLB_TEST.jtag_locked = c.body.key.isSome) ∧
      (∃ n, e.rsq.queue = [n] ∧ n.nseq = 1 ∧ hello n 0) ∧ (∀ a, e.byte a = s.dev.byte a)) ∧
    (s.dev.boot.warm = true → s.dev.quiesceOutcome = some 0 → s.runs (.firmwareStart t) fun e => starts e ∧
      e.rsq.cfg = { c.body with session := (c.body.session + 1) % 2 ^ 32 } ∧
      (s.dev.get ZCH_GEN.gen ≠ 2 ^ 32 - 1 → (∀ x ∈ s.dev.jrn.table, x.1 ≠ ZCH_GEN.gen.addr) → ∀ a, e.byte a = s.dev.byte a)) ∧
    (s.dev.boot.warm = true → s.dev.quiesceOutcome ≠ some 0 → s.dev.boot.record.state = 0 → s.dev.boot.record.run = 0 →
      s.dev.boot.bankOk 0 = true → s.runs (.firmwareStart t) fun e => e.boot.warm = false ∧ e.boot.phase = .loaded ∧
        e.mem = [] ∧ e.rsq.hdrUp = false))

/-- A warm RESET begins the quiesce. Its end is recorded as a QUIESCE entry of the ledger and the boot ROM runs again,
attached memory in self-refresh, the blocks reset but device time and references; it does not end while a readout
holds it, and one that has met an error or takes too long records failure and the device restarts cold. A channel
leaves self-refresh with its contents, or the restart is cold. RESUME names the boundary from which frames are
accepted again. What a warm reset keeps beyond the listed registers is the model's reading (log 45), and so is that a
cold restart runs the boot ROM in the same step (log 44). Rules: 10 R289, R290, R291, R292, 13 R369, 15 R429, 17 R477,
18 R499. -/
def Obligations.WarmRestartQuiescesAndResumes : Prop :=
  ∀ s : State, s.dev.held = false →
    let x := s.dev
    let cold (e : Device) : Prop := e.mem = [] ∧ e.boot.warm = false ∧ e.jrn.quiesced = none ∧ e.sheds = Sheds.cold
    let boots := x.boot.record.state = 0 ∧ x.boot.record.run = 0 ∧ x.boot.bankOk 0 = true
    (∀ (h : HostHdr) (t : Nat), h.factory = false → x.takes h 1 0x50 [0] → x.flag GLB_FATAL.fatal = false →
      x.boot.record.state ≠ 1 → x.jrn.quiesced ≠ some false → s.runs (.resetWarm h t) fun e =>
        e = { (x.at_ t).answered h 0 [] with
          jrn := { x.jrn with quiesced := some false, quiesceBad := false, resumePick := none } }) ∧
    (x.jrn.quiesced = some false → x.flag GLB_FATAL.fatal = true → boots → s.runs .quiesceComplete fun e =>
      cold e ∧ e.boot.phase = .loaded) ∧
    (x.jrn.quiesced = some false → x.flag GLB_FATAL.fatal = false → x.quiesceBlocked = true → s.runs .quiesceComplete fun e => e = x) ∧
    (x.jrn.quiesced = some false → x.flag GLB_FATAL.fatal = false → x.quiesceBlocked = false → x.jrn.quiesceBad = true → boots →
      s.runs .quiesceComplete fun e => cold e ∧ e.boot.phase = .loaded) ∧
    (x.jrn.quiesced = some false → x.flag GLB_FATAL.fatal = false → x.quiesceBlocked = false → x.jrn.quiesceBad = false → x.testen = false →
      x.boot.dramReady = true → boots → s.runs .quiesceComplete fun e =>
      e.jrn.quiesced = some true ∧ e.boot.warm = true ∧ e.boot.phase = .loaded ∧ e.get HDL_BOOT.warm = 1 ∧
      e.rsq.waiting = [] ∧ e.rsq.hdrUp = false ∧ (e.woven = x.woven) ∧ e.pn = x.pn ∧ e.get PCK_STATE.state = x.get PCK_STATE.state ∧
      e.tm.pickStart = x.tm.pickStart ∧ e.tm.commit = none ∧ e.engines = [] ∧ e.setter = Setter.cold ∧ e.creel = [] ∧
      e.lanes = [] ∧ e.ref = x.ref ∧ e.drafts.armed = none ∧
      (∀ ch, ch < 24 → x.get (DRM_STAT.state ch) = 2 → e.get (DRM_STAT.state ch) = 3) ∧
      (∃ v rest, e.jrn.copy0 = v :: rest ∧ v.ty = 13 ∧ v.body.head? = some 0 ∧ v.pick = x.lastPick)) ∧
    (x.jrn.quiesced = some false → boots → s.runs .quiesceTimeout fun e => cold e ∧ e.boot.phase = .loaded) ∧
    (∀ ch : Fin 24, x.get (DRM_STAT.state ch.val) = 3 → x.boot.warm = true →
      s.writes (.selfRefreshExit ch .verified) [(DRM_STAT.state ch.val, 2)] ∧
      (∀ ls : List LaneFit, ls.length = 10 → (∀ l ∈ ls, 16 ≤ l.rdWidth.val ∧ 16 ≤ l.wrWidth.val) →
        s.runs (.selfRefreshExit ch (.retrained ls)) fun e => e.get (DRM_STAT.state ch.val) = 2 ∧
          (∀ i l, ls[i]? = some l → e.get (DRM_TRAIN.rd_centre ch.val i) = l.rdCentre.val ∧
            e.get (DRM_TRAIN.wr_centre ch.val i) = l.wrCentre.val) ∧ x.keeps e [.regs]) ∧
      s.runs (.selfRefreshExit ch .failed) fun e => cold e) ∧
    (∀ pick, x.restarting = true → x.boot.phase = .running → x.jrn.resumePick = none → ahead pick (x.pn + 1) = true →
      s.runs (.resume pick) fun e => e.jrn.resumePick = some pick ∧
        (x.woven = false → x.boot.dramReady = true → (∃ v rest, e.jrn.copy0 = v :: rest ∧ v.ty = 14 ∧ v.body = be 1 0 ++ be 8 pick) ∧
          x.keeps e [.regs, .sup, .jrn, .drm]) ∧
        (x.woven = true → ∀ i, i < 4 → e.trdState i = 1 → (e.engine i).startAt = some ((pick + 256) % 2 ^ 64)))

/-! ### Rosesque (15) -/

/-- What a heddle port does with a frame: filtered, authenticated, checked for form and session, taken once by its
sequence number, and queued, with the answer and the count of each message that is turned away. Every reply carries
its header and tag, and enters the reply cache. The digests are those of the published standards (log 10), and the
order of filter and counters is the model's reading (log 43). Rules: 15 R412, R415, R416, R417, R418, R424, R425. -/
def Obligations.MessagesAreAuthenticatedAndTakenOnce : Prop :=
  (∀ (s : State) (m : Fin 2) (frame : List Byte), s.dev.held = false → s.dev.boot.phase = .running → s.dev.rsq.hdrUp = true →
    let x := s.dev
    let net := x.rsq.cfg.net m.val
    (s.runs (.heddleRxFrame m false frame) fun e => e = x.stat 0) ∧
    (parseUdp frame = none → s.runs (.heddleRxFrame m true frame) fun e => e = x.stat 0) ∧
    ∀ (u : UdpHead) (pay : List Byte), parseUdp frame = some (u, pay) →
      (u.dmac ≠ net.mac ∨ u.dip ≠ net.ip ∨ u.dport ≠ net.udp → s.runs (.heddleRxFrame m true frame) fun e => e = x.stat 0) ∧
      (u.dmac = net.mac → u.dip = net.ip → u.dport = net.udp → x.ctlHeld = false →
        let src : Endpoint := { mac := BitVec.ofNat 48 u.smac, ip := BitVec.ofNat 32 u.sip, udp := BitVec.ofNat 16 u.sport,
                                tag := u.tag.map (BitVec.ofNat 16) }
        let fac := beAt pay 28 1 == 1
        let h : HostHdr := { port := m, src := src, seq := BitVec.ofNat 64 (beAt pay 12 8), factory := fac }
        let kind := beAt pay 3 1
        let code := beAt pay 4 2
        let body := (pay.drop 32).take (pay.length - 48)
        (pay.length < 48 → s.runs (.heddleRxFrame m true frame) fun e => e = x.stat 2) ∧
        (48 ≤ pay.length → 2 ≤ beAt pay 28 1 ∨ x.keyOf fac = none → s.runs (.heddleRxFrame m true frame) fun e => e = x.stat 1) ∧
        (48 ≤ pay.length → beAt pay 28 1 < 2 → ∀ k, x.keyOf fac = some k →
          ((hmac k (pay.take (pay.length - 16))).take 16 ≠ pay.drop (pay.length - 16) →
            s.runs (.heddleRxFrame m true frame) fun e => e = x.stat 1) ∧
          ((hmac k (pay.take (pay.length - 16))).take 16 = pay.drop (pay.length - 16) →
            (beAt pay 0 2 ≠ 0x5253 ∨ beAt pay 2 1 ≠ 1 ∨ kind ∉ [1, 4, 5] ∨ beAt pay 6 2 ≠ body.length ∨ h.seq = 0 →
              s.runs (.heddleRxFrame m true frame) fun e => e = x.stat 2) ∧
            (beAt pay 0 2 = 0x5253 → beAt pay 2 1 = 1 → kind ∈ [1, 4, 5] → beAt pay 6 2 = body.length → h.seq ≠ 0 →
              (beAt pay 8 4 ≠ x.rsq.cfg.session → ¬ (kind = 1 ∧ code = 1 ∧ beAt pay 8 4 = 0) →
                s.runs (.heddleRxFrame m true frame) fun e => e = (x.stat 3).turnAway h kind 4 (be 4 x.rsq.cfg.session)) ∧
              (beAt pay 8 4 = x.rsq.cfg.session ∨ (kind = 1 ∧ code = 1 ∧ beAt pay 8 4 = 0) →
                (x.verdict h.seq.toNat = .stale → s.runs (.heddleRxFrame m true frame) fun e =>
                  e = (x.stat 4).turnAway h kind 5 []) ∧
                (∀ p, x.verdict h.seq.toNat = .cached p → kind ≠ 5 → s.runs (.heddleRxFrame m true frame) fun e =>
                  e = x.emitPayload net m.val src p) ∧
                (x.verdict h.seq.toNat = .fresh → kind ≠ 5 → 64 ≤ (x.rsq.waiting.filter fun w => w.kind != 5).length →
                  s.runs (.heddleRxFrame m true frame) fun e => e = (x.stat 5).turnAway h kind 9 []) ∧
                (x.verdict h.seq.toNat = .fresh → kind = 5 ∨ (x.rsq.waiting.filter fun w => w.kind != 5).length < 64 →
                  (x.acceptSeq h.seq.toNat).misfit h kind code body = none → s.runs (.heddleRxFrame m true frame) fun e =>
                    e.verdict h.seq.toNat ≠ .fresh ∧
                    e = { x with rsq := { (x.acceptSeq h.seq.toNat).rsq with
                      waiting := x.rsq.waiting ++ [{ hdr := h, kind := kind, code := code, body := body, key := k, net := net }] } }) ∧
                (x.verdict h.seq.toNat = .fresh → (x.rsq.waiting.filter fun w => w.kind != 5).length < 64 → x.provisioned = true →
                  fac = false → kind = 4 → code ≠ 0 ∨ bulkFits body = false → s.runs (.heddleRxFrame m true frame) fun e =>
                    e = (x.acceptSeq h.seq.toNat).ack h 2))))))) ∧
  ∀ (d : Device) (h : HostHdr) (kind code : Nat) (body : List Byte),
    let key := (d.arrivedUnder h).1
    let net := (d.arrivedUnder h).2
    let r := (d.reply h kind code body).rsq
    let m := be 2 0x5253 ++ be 1 1 ++ be 1 kind ++ be 2 code ++ be 2 body.length ++ be 4 d.rsq.cfg.session ++
      be 8 (d.rsq.devSeq + 1) ++ be 8 h.seq.toNat ++ be 1 (if h.factory then 1 else 0) ++ be 3 0 ++ body
    let pay := m ++ (hmac key m).take 16
    r.devSeq = d.rsq.devSeq + 1 ∧ r.cache = ({ hdr := h, payload := pay } :: d.rsq.cache).take 256 ∧
    r.tx0 = (d.emitPayload net h.port.val h.src pay).rsq.tx0 ∧
    r.tx1 = (d.emitPayload net h.port.val h.src pay).rsq.tx1 ∧
    d.keeps (d.reply h kind code body) [.rsq]

/-- The commands that read the device, and the writes of registers, memory and image pieces: what each answers and
changes. A command's row executes the message that has waited longest (log 15). That each access of a list falls into
a cycle of its own is the model's choice (log 63), and so is what a request leaves in the controllers (log 60). That a
request which only runs past its window's end is not counted by the default target is the model's reading (log 26).
Rules: 15 R427, R430, R431, R432, R433, R434, R435, 16 R453, R458, R467, R469, 19 R525. -/
def Obligations.CommandsReadAndWriteTheDevice : Prop :=
  ∀ (s : State) (h : HostHdr), s.dev.held = false →
    let x := s.dev
    (x.takes h 1 0x01 [] → x.wrongKey h true false = false → s.runs (.ping h) fun e =>
      e = x.answered h 0 (fusedIdentity ++ be 4 x.rsq.cfg.session ++ be 8 (x.taken h).rsq.h ++ be 4 (x.get HDL_FW_VER.version) ++
        be 1 (if x.provisioned then 1 else 0) ++ be 7 0)) ∧
    (x.takes h 1 0x51 [] → x.wrongKey h true false = false → s.runs (.stats h) fun e =>
      e = x.answered h 0 ((List.range 9).flatMap fun n => be 4 (Sparse.get (fun _ => 0) x.rsq.counters n))) ∧
    (∀ addrs : List W32, x.takes h 1 0x02 (addrs.flatMap fun a => be 4 a.toNat) →
      (x.wrongKey h false false = true → s.runs (.regRead h addrs) fun e => e = x.answered h 10 []) ∧
      (x.wrongKey h false false = false → 1 ≤ addrs.length → addrs.length ≤ 64 →
        (∀ a ∈ addrs, (locate a.toNat).isSome = true ∧ ∃ r i k, descAt a.toNat = some (r, i, k) ∧ r.half = .single) →
        s.runs (.regRead h addrs) fun e =>
          let y := ((x.taken h).request 3 addrs.length).newCycle
          e = (y.respond h 0 (addrs.flatMap fun a => be 4 (y.readAs 3 a.toNat).toNat)).finished h) ∧
      (x.wrongKey h false false = false → ∀ a, addrs = [a] → locate a.toNat = none → s.runs (.regRead h addrs) fun e =>
          let y := (x.taken h).request 3 1
          e = ((y.defaultHit 3 a.toNat false true).respond h 6 []).finished h ∧
          e.get MTX_CNT.default_hits = satU 16 (y.get MTX_CNT.default_hits + 1))) ∧
    (∀ (ps : List (W32 × W32)) (t : Nat), x.takes h 1 0x03 (ps.flatMap fun p => be 4 p.1.toNat ++ be 4 p.2.toNat) →
      x.wrongKey h false false = false → 1 ≤ ps.length → ps.length ≤ 64 →
      let d := x.at_ t
      ((∀ p ∈ ps, (locate p.1.toNat).isSome = true ∧ ∃ r i k, descAt p.1.toNat = some (r, i, k) ∧ r.half = .single ∧
          r.writable = true ∧ r.id.acts = false) →
        s.runs (.regWrite h ps t) fun e =>
          e = ((ps.foldl (fun (d : Device) p => (d.setWord p.1.toNat (applyAccess (fieldsAt p.1.toNat) (d.hotAt p.1.toNat)
            (d.word p.1.toNat) p.2)).newCycle) ((d.taken h).request 3 ps.length)).respond h 0 (be 2 ps.length)).finished h) ∧
      (∀ a v, ps = [(a, v)] → locate a.toNat = none → s.runs (.regWrite h ps t) fun e =>
        let y := (d.taken h).request 3 1
        e = ((y.defaultHit 3 a.toNat true true).respond h 6 (be 2 0)).finished h ∧
        e.get MTX_CNT.default_hits = satU 16 (y.get MTX_CNT.default_hits + 1))) ∧
    (∀ (addr : BitVec 48) (len chunk : Nat), x.takes h 1 0x10 (be 6 addr.toNat ++ be 4 len ++ be 2 chunk) →
      x.wrongKey h false false = false → 1 ≤ len → len ≤ 65536 → 64 ≤ chunk → chunk ≤ 8192 → x.rsq.held = [] →
      let cs := chunksOf h ((x.taken h).arrivedUnder h) addr.toNat len chunk
      let y := (x.taken h).respond h 0 (be 2 cs.length)
      ((x.decodes false addr.toNat len).isSome = true → (∀ c ∈ cs, x.inClean c.addr c.len = false) →
        s.runs (.memRead h addr len chunk) fun e =>
          let z := cs.foldl Device.readData { y.add HDL_BARRIER.held 0 with rsq := { y.rsq with held := cs } }
          e = { z with rsq := { z.rsq with held := [] } }.finished h) ∧
      ((x.decodes false addr.toNat len).isSome = true → (∀ c ∈ cs, x.inClean c.addr c.len = true) →
        s.runs (.memRead h addr len chunk) fun e =>
          e.get HDL_BARRIER.held = satU 16 (x.get HDL_BARRIER.held + cs.length) ∧
          e = { y.add HDL_BARRIER.held cs.length with
            rsq := { y.rsq with held := cs.map fun (c : HeldChunk) => { c with counted := true } } }.finished h) ∧
      ((x.decodes false addr.toNat len).isSome = false → s.runs (.memRead h addr len chunk) fun e =>
        e = (((x.taken h).missed 3 false addr.toNat false).respond h 6 []).finished h ∧
        e.get MTX_CNT.default_hits = satU 16 (x.get MTX_CNT.default_hits +
          (if (x.window false addr.toNat).isNone then 1 else 0)))) ∧
    (∀ (first : W32) (count : Nat), x.takes h 1 0x21 (be 4 first.toNat ++ be 2 count) → x.wrongKey h false false = false →
      1 ≤ count → count ≤ 4096 → s.runs (.pieceMap h first count) fun e => ∃ bs : List Byte, e = x.answered h 0 bs ∧
        bs.length = (count + 7) / 8 ∧
        ∀ i, i < count → (bs.getD (i / 8) 0).getLsbD (7 - i % 8) = x.boot.stored.contains (first.toNat + i)) ∧
    (∀ (addr : BitVec 48) (data : List Byte), x.takes h 4 0 (bulkBody 1 addr.toNat data) → x.provisioned = true →
      h.factory = false → 1 ≤ data.length → data.length ≤ 8192 →
      let y := (x.taken h).request 3 (bursts addr.toNat data.length)
      let w := y.decodes false addr.toNat data.length
      let acks (n : Nat) : Device := (y.ack h n).finished h
      (∀ a, w = some (.general a) → y.bankGuard addr.toNat data.length = false → s.runs (.memoryWrite h addr data) fun e =>
        (∀ i, e.byte i = if addr.toNat ≤ i ∧ i < addr.toNat + data.length then data.getD (i - addr.toNat) 0 else y.byte i) ∧
        (y.memWf → e.memWf) ∧ e = { acks 0 with mem := e.mem, poison := e.poison, drm := e.drm }) ∧
      (∀ a, w = some (.general a) → y.bankGuard addr.toNat data.length = true → s.runs (.memoryWrite h addr data) fun e =>
        e.get HST_EVENT.write_refused = 1 ∧
        e = (((y.put HST_EVENT.write_refused true).inc HST_CNT_REFUSED.count).ack h 8).finished h) ∧
      (∀ off, w = some (.staging off) → y.stage ≠ 2 → y.stage ≠ 5 → s.runs (.memoryWrite h addr data) fun e =>
        e.stage = 1 ∧ e.drafts = y.drafts.putStaging off data ∧ e.pair PCK_STAGE_ID_LO.id_lo PCK_STAGE_ID_HI.id_hi = 0 ∧
        { acks 0 with drafts := e.drafts, poison := e.poison, drm := e.drm }.onlyFields e
          [PCK_WEAVE_STAT.stage, PCK_STAGE_ID_LO.id_lo, PCK_STAGE_ID_HI.id_hi]) ∧
      (∀ off, w = some (.staging off) → y.stage = 2 ∨ y.stage = 5 → s.runs (.memoryWrite h addr data) fun e =>
        e = acks 8) ∧
      (∀ v, w = some v → v.writable = false → s.runs (.memoryWrite h addr data) fun e => e = acks 7) ∧
      (w = none → s.runs (.memoryWrite h addr data) fun e =>
        e = ((y.missed 3 false addr.toNat true).ack h 6).finished h)) ∧
    (∀ (addr : BitVec 48) (data : List Byte), x.takes h 4 0 (bulkBody 2 addr.toNat data) → x.provisioned = true →
      h.factory = false → 1 ≤ data.length → data.length ≤ 8192 → addr.toNat % 65536 + data.length ≤ 65536 →
      addr.toNat / 65536 < 256 →
      let p := addr.toNat / 65536
      let off := addr.toNat % 65536
      s.runs (.imageWrite h addr data) fun e =>
        (e.pieceBuf (p % 4)).piece = some p ∧
        (∀ i, Sparse.get memDflt (e.pieceBuf (p % 4)).bytes i = if off ≤ i ∧ i < off + data.length then data.getD (i - off) 0
          else if (x.pieceBuf (p % 4)).piece = some p then Sparse.get memDflt (x.pieceBuf (p % 4)).bytes i else 0) ∧
        (∀ j, j < 4 → j ≠ p % 4 → e.pieceBuf j = x.pieceBuf j) ∧
        e = { x.acked h 0 with rsq := { (x.acked h 0).rsq with pieces := e.rsq.pieces } })

/-- The commands that change settings: each is answered, takes effect, and waits for its storage, which a DONE notice
confirms for it alone. A new key is the body unwrapped under the key that authenticated the command, and the answer
comes under the new key. Changes are stored in the order of their commands: that is the model's choice (log 84). The
key of the answer is the model's reading (log 41), and so is that notices leave the primary also when its link is down
as the host is set (log 42). Rules: 15 R420, R421, R422, R423, R428, R444, R445. -/
def Obligations.SettingsCommandsTakeEffect : Prop :=
  ∀ (s : State) (h : HostHdr), s.dev.held = false →
    let x := s.dev
    let resp := (x.taken h).respond h 0 []
    let stores (y : Device) (c : SettingChange) : Device :=
      { y with rsq := { y.rsq with cfg := c.apply y.rsq.cfg, dirty := y.rsq.dirty ++ [(h.seq.toNat, c)] } }
    (∀ (port : Byte) (mac : BitVec 48) (ip : W32) (udp : BitVec 16),
      x.takes h 1 0x30 (be 1 port.toNat ++ be 6 mac.toNat ++ be 4 ip.toNat ++ be 2 udp.toNat) → x.wrongKey h false false = false →
      let n : Net := { mac := mac.toNat, ip := ip.toNat, udp := udp.toNat }
      (port = 0 → s.runs (.setNet h port mac ip udp) fun e => e = (stores resp (.net 0 n)).finished h) ∧
      (port = 1 → s.runs (.setNet h port mac ip udp) fun e => e = (stores resp (.net 1 n)).finished h) ∧
      (1 < port.toNat → s.runs (.setNet h port mac ip udp) fun e => e = x.answered h 2 [])) ∧
    (∀ (port primary : Byte) (dst : Endpoint), x.takes h 1 0x31 (be 1 port.toNat ++ be 1 primary.toNat ++ be 6 dst.mac.toNat ++
        be 4 dst.ip.toNat ++ be 2 dst.udp.toNat ++ be 2 (tagWord dst)) → x.wrongKey h false false = false →
      port.toNat ≤ 1 → dst.tag ≠ some 0 →
      let n : Dest := { port := port.toNat, ep := dst }
      let kept := x.rsq.ackSinceUp && (primary != 1 || x.rsq.cfg.primary.map Dest.port == some port.toNat)
      let frees (y : Device) : Device := { y with rsq := { y.rsq with released := true, ackSinceUp := kept } }
      (primary.toNat ≤ 1 → s.runs (.setHost h port primary dst) fun e =>
        e = ((frees (stores resp (.host (primary == 1) n))).leavePrimary x.tm.now).finished h)) ∧
    (∀ rate rto : Nat, x.takes h 1 0x32 (be 2 rate ++ be 2 rto) → x.wrongKey h false false = false →
      (1 ≤ rate → rate ≤ 10000 → 10 ≤ rto → rto ≤ 10000 → s.runs (.noticeCfg h rate rto) fun e =>
        e = (stores { resp with rsq := resp.rsq.refill x.tm.now } (.notices rate rto)).finished h) ∧
      (rate = 0 ∨ 10000 < rate ∨ rto < 10 ∨ 10000 < rto → s.runs (.noticeCfg h rate rto) fun e => e = x.answered h 2 [])) ∧
    (∀ k : List Byte, k.length = 32 →
      let old := ((x.taken h).arrivedUnder h).1
      let wrapped := (k.zip (hmac old ([0x52, 0x53, 0x51, 0x4B] ++ be 8 h.seq.toNat))).map (fun p => p.1 ^^^ p.2) ++
        (hmac k [0x52, 0x53, 0x51, 0x43]).take 16
      let keyed (e : Device) : Prop := ∃ z : Device, e = z.finished h ∧ z.rsq.cfg = { x.rsq.cfg with key := some k } ∧
        z.rsq.dirty = x.rsq.dirty ++ [(h.seq.toNat, .key k)] ∧ z.get GLB_TEST.jtag_locked = 1 ∧
        z.rsq.cache = ({ hdr := { h with factory := false },
                         payload := rsqPayload k 0 2 0 x.rsq.cfg.session (x.rsq.devSeq + 1) h.seq.toNat [] } ::
                       x.rsq.cache).take 256 ∧
        (∀ p ∈ z.sup.tap, p.2 = true) ∧ z.sup = { x.sup with tap := z.sup.tap } ∧
        { x with rsq := z.rsq, sup := z.sup }.onlyFields z [GLB_TEST.jtag_locked]
      (x.takes h 1 0x40 wrapped → x.provisioned = false → h.factory = true → x.testen = false →
        s.runs (.provision h wrapped) keyed) ∧
      (x.takes h 1 0x40 wrapped → x.provisioned = false → x.testen = true → s.runs (.provision h wrapped) fun e =>
        e = x.answered h 10 []) ∧
      (x.takes h 1 0x41 wrapped → x.provisioned = true → h.factory = false → s.runs (.setKey h wrapped) keyed)) ∧
    (∀ t : Nat, x.takes h 1 0x42 [] → x.provisioned = true → h.factory = true →
      (t ≤ x.rsq.coldAt + 960000000000 → s.runs (.deprovision h t) fun e =>
        ∃ z : Device, e = z.finished h ∧ z.get GLB_TEST.jtag_locked = 0 ∧
          (stores (((x.at_ t).taken h).respond h 0 []) .deprovision).onlyFields z [GLB_TEST.jtag_locked]) ∧
      (x.rsq.coldAt + 960000000000 < t → s.runs (.deprovision h t) fun e => e = (x.at_ t).answered h 10 [])) ∧
    (∀ (slot : Byte) (key : List Byte),
      let sets (k : List Byte) (e : Device) : Prop := e = (stores resp (.draftKey slot.toNat k)).finished h
      (x.takes h 1 0x43 (be 1 slot.toNat ++ key) → x.wrongKey h false false = false → key.length = 32 →
        (slot.toNat ≤ 3 → x.keyInUse slot.toNat = false → s.runs (.setDraftKey h slot key) (sets key)) ∧
        (slot.toNat ≤ 3 → x.keyInUse slot.toNat = true → s.runs (.setDraftKey h slot key) fun e => e = x.answered h 11 []) ∧
        (3 < slot.toNat → s.runs (.setDraftKey h slot key) fun e => e = x.answered h 2 [])) ∧
      (x.takes h 1 0x44 (be 1 slot.toNat) → x.wrongKey h false false = false → slot.toNat ≤ 3 →
        x.keyInUse slot.toNat = false → s.runs (.clearDraftKey h slot) (sets []))) ∧
    (∀ (ref : BitVec 64) (n : Nat) (c : SettingChange) (rest : List (Nat × SettingChange)), x.boot.phase = .running →
      x.rsq.dirty = (n, c) :: rest →
      (n ≠ ref.toNat ∨ x.svcHeld = true → s.runs (.settingsStored ref) fun e => e = x) ∧
      (n = ref.toNat → x.svcHeld = false → x.rsq.queue.length < 4032 → s.runs (.settingsStored ref) fun e =>
        e.rsq.dirty = rest ∧ (∃ k, e.rsq.store = some k ∧ k.body = c.apply x.rsq.stored) ∧ e.rsq.cfg = x.rsq.cfg ∧
        (∃ n : Notice, e.rsq.queue = x.rsq.queue ++ [n] ∧ n.ty = 3 ∧ n.ref = be 8 ref.toNat ∧
          n.pairs.map Prod.snd = [0] ∧ n.nseq = x.rsq.nseq ∧ n.sent = false) ∧ e.rsq.nseq = x.rsq.nseq + 1 ∧
        x.keeps e [.rsq, .freeN]))

/-- A notice is sent when its turn and a token come, sent again when its timeout passes, with the timeout doubled up
to 64 rto, and leaves the queue when the host acknowledges it. The fourth expiry in a row and the loss of the primary
port's link move the notices to the alternate destination; they return to the primary once it serves again. Links
count as up until reported down (log 83), and a return resends as a move does (log 42). Rules: 15 R438, R440, R441,
R442, R444, R445. -/
def Obligations.NoticesAreSentUntilAcknowledged : Prop :=
  ∀ (s : State) (t : Nat), s.dev.held = false →
    let x := s.dev
    let d := x.at_ t
    let r := x.rsq.refill t
    let count (e : Device) (n k : Nat) : Prop := Sparse.get (fun _ => 0) e.rsq.counters n =
      satU 32 (Sparse.get (fun _ => 0) x.rsq.counters n + k)
    let becomes (n n' : Notice) (e : Device) : Prop := e.rsq.queue = x.rsq.queue.map fun k => if k.nseq = n.nseq then n' else k
    let emits (n : Notice) (e : Device) : Prop := e.rsq.tx0 = (x.emitNotice n).rsq.tx0 ∧ e.rsq.tx1 = (x.emitNotice n).rsq.tx1
    let again (alternate : Bool) (e : Device) : Prop := e.rsq.onAlternate = alternate ∧
      (∀ n ∈ e.rsq.queue, n.sent = true → n.timeout = x.rsq.cfg.rto ∧ n.expiries = 0 ∧ n.sentAt = t) ∧
      ((x.rsq.queue.map Notice.nseq).Nodup →
        let y := (x.rsq.queue.filter fun n => n.sent).foldl Device.emitNotice { x with rsq := { x.rsq with onAlternate := alternate } }
        e.rsq.tx0 = y.rsq.tx0 ∧ e.rsq.tx1 = y.rsq.tx1)
    (∀ n : Notice, x.noticesFlow = true → (x.rsq.queue.find? fun n => !n.sent) = some n →
      let n' := { n with sent := true, timeout := x.rsq.cfg.rto, expiries := 0, sentAt := t }
      ((x.rsq.queue.filter fun n => n.sent).length < 256 → n.severity ≠ 3 → 1600000000 ≤ r.tokens →
        s.runs (.noticeSend t) fun e => becomes n n' e ∧ emits n' e ∧ count e 6 1 ∧ e.rsq.tokens = r.tokens - 1600000000 ∧
          d.keeps e [.rsq]) ∧
      ((x.rsq.queue.filter fun n => n.sent).length < 256 → n.severity = 3 → s.runs (.noticeSend t) fun e =>
        becomes n n' e ∧ emits n' e ∧ count e 6 1 ∧ e.rsq.tokens = r.tokens ∧ d.keeps e [.rsq]) ∧
      (256 ≤ (x.rsq.queue.filter fun n => n.sent).length ∨ (n.severity ≠ 3 ∧ r.tokens < 1600000000) →
        s.runs (.noticeSend t) fun e => e = { d with rsq := r })) ∧
    (∀ (q : Nat) (n : Notice), x.noticesFlow = true → (x.rsq.queue.find? fun n => n.nseq == q && n.sent) = some n →
      n.sentAt + n.timeout * 1600000 ≤ t →
      let n' := { n with expiries := n.expiries + 1, timeout := min (2 * n.timeout) (64 * x.rsq.cfg.rto), sentAt := t }
      let away := 3 ≤ n.expiries ∧ x.rsq.cfg.primary.isSome = true ∧ x.rsq.cfg.alternate.isSome = true ∧ x.rsq.onAlternate = false
      (¬ away → s.runs (.noticeTimeout q t) fun e => becomes n n' e ∧ emits n' e ∧ count e 7 1 ∧ d.keeps e [.rsq]) ∧
      (away → s.runs (.noticeTimeout q t) fun e => again true e ∧ d.keeps e [.rsq])) ∧
    (∀ (h : HostHdr) (upTo : BitVec 64) (also : List (BitVec 64)),
      x.takes h 5 0 (be 8 upTo.toNat ++ be 1 also.length ++ also.flatMap fun n => be 8 n.toNat) → x.provisioned = true →
      h.factory = false → also.length ≤ 16 →
      let left := x.rsq.queue.filter fun n => !(n.sent && (decide (n.nseq ≤ upTo.toNat) || also.any fun k => k.toNat == n.nseq))
      let onPrimary := x.rsq.cfg.primary.any fun p => p.port == h.port.val
      let y : Device := { x.taken h with rsq := { (x.taken h).rsq with queue := left, ackSinceUp := x.rsq.ackSinceUp || onPrimary } }
      (x.rsq.dropped = 0 → s.runs (.hostAck h upTo also) fun e => e = y.finished h) ∧
      (0 < x.rsq.dropped → left.length < 4096 → (∀ n ∈ left, n.ty = 2 → n.sent = true) → s.runs (.hostAck h upTo also) fun e =>
        ∃ n : Notice, n.ty = 2 ∧ n.count = x.rsq.dropped ∧ n.firstPick = x.rsq.dropFirst ∧ n.lastPick = x.rsq.dropLast ∧ n.nseq = x.rsq.nseq ∧ n.sent = false ∧
          e = { y with rsq := { y.rsq with queue := left ++ [n], dropped := 0, nseq := x.rsq.nseq + 1 } }.finished h) ∧
      (0 < x.rsq.dropped → (∃ n ∈ left, n.ty = 2 ∧ n.sent = false) → s.runs (.hostAck h upTo also) fun e =>
        e = { y with rsq := { y.rsq with dropped := 0, queue := left.map fun (n : Notice) =>
          if n.ty == 2 && !n.sent then { n with count := satU 16 (n.count + x.rsq.dropped), lastPick := x.rsq.dropLast }
          else n } }.finished h)) ∧
    (∀ p : Dest, x.rsq.cfg.primary = some p → x.rsq.onAlternate = true → x.fwUp = true → x.rsq.ackSinceUp = true →
      (if p.port = 0 then x.rsq.linkUp0 else x.rsq.linkUp1) = true →
      (if p.port = 0 then x.rsq.linkAt0 else x.rsq.linkAt1) + 16000000000 ≤ t → s.runs (.noticePrimaryReturn t) fun e =>
        again false e ∧ d.keeps e [.rsq]) ∧
    (∀ (m : Fin 2) (up : Bool), x.fwUp = true → x.rsq.queue.length < 4032 → s.runs (.heddleLinkChange m up t) fun e =>
      (if m = 0 then e.rsq.linkUp0 else e.rsq.linkUp1) = up ∧ (if m = 0 then e.rsq.linkAt0 else e.rsq.linkAt1) = t ∧
      (e.rsq.onAlternate = x.rsq.onAlternate → ∃ n ∈ e.rsq.queue, n.ty = 0x12 ∧ n.sent = false) ∧ d.keeps e [.rsq] ∧
      (∀ p : Dest, x.rsq.cfg.primary = some p → x.rsq.cfg.alternate.isSome = true → x.rsq.onAlternate = false →
        (e.rsq.onAlternate = true ↔ (if p.port = 0 then e.rsq.linkUp0 else e.rsq.linkUp1) = false)))

/-! ### Cloth ports and spool queues (11) -/

/-- What a port's link and its failure do to its state and to the queues it serves: DOWN on a loss, FAILED with its
queues moved to their backup or the lowest port in service, UP or PROVING when it comes back, and UP with its home
queues returned. Rules: 11 R318, R319, R320. -/
def Obligations.ClothPortsFollowTheirLinks : Prop :=
  ∀ (s : State) (c : Fin 32) (t : Nat), s.dev.held = false →
    let x := s.dev
    let d := x.at_ t
    let st := x.get (CLO_STAT.state c.val)
    let p := x.clothPort c.val
    let stands (y e : Device) : Prop := y.keeps e [.regs, .queues, .cloth] ∧ (e.clothPort c.val).turns = p.turns ∧
      ∀ k, k ≠ c.val → e.clothPort k = x.clothPort k
    (∀ fec : Bool, s.runs (.clothLinkLoss c fec) fun e => stands x e ∧ e.queues = x.queues ∧
      e.get (CLO_STAT.fec_align c.val) = 0 ∧
      e.get (CLO_STAT.pcs_lock c.val) = (if fec then x.get (CLO_STAT.pcs_lock c.val) else 0) ∧
      (st = 2 ∨ st = 4 → e.get (CLO_STAT.state c.val) = 1 ∧ (e.clothPort c.val).before = st) ∧
      (st ≠ 2 → st ≠ 4 → e.get (CLO_STAT.state c.val) = st ∧
        (e.clothPort c.val).cause = if st = 3 ∧ p.cause = 2 then 1 else p.cause)) ∧
    ((st = 1 ∧ p.before ≠ 0) ∨ st = 2 ∨ st = 4 → s.runs (.clothPortFail c t) fun e => stands d e ∧
      e.get (CLO_STAT.state c.val) = 3 ∧ (e.clothPort c.val).cause = (if st = 1 then 1 else 2) ∧
      (e.clothPort c.val).failedOnce = true ∧
      (∀ q, (x.queue q).port = some c.val → (e.queue q).port = e.choosePort [x.qBackup q]) ∧
      (∀ q, (∀ y, (q, y) ∈ x.queues → y.port ≠ some c.val) → e.queue q = x.queue q)) ∧
    (x.liveOf (CLO_CTL.enable c.val) = 1 →
      let serves (e : Device) : Prop :=
        (∀ q y, (q, y) ∈ x.queues → x.qOn q = true → (x.queue q).port = none →
          (e.queue q).port = e.choosePort [x.qHome q, x.qBackup q])
      let returns (e : Device) : Prop :=
        ∀ q y, (q, y) ∈ x.queues → x.qOn q = true → x.qHome q = c.val → (x.queue q).port ≠ none → (e.queue q).port = some c.val
      let locks (e : Device) : Prop := e.get (CLO_STAT.fec_align c.val) = 1 ∧ e.get (CLO_STAT.pcs_lock c.val) = 1
      (st = 1 → p.before ≠ 0 → p.before < 8 → s.runs (.clothLinkUp c t) fun e => stands d e ∧ locks e ∧ serves e ∧
        e.get (CLO_STAT.state c.val) = p.before ∧ (e.clothPort c.val).before = 0) ∧
      ((st = 1 ∧ p.before = 0) ∨ (st = 3 ∧ p.cause ≠ 2) → p.failedOnce = false → s.runs (.clothLinkUp c t) fun e =>
        stands d e ∧ locks e ∧ e.get (CLO_STAT.state c.val) = 2 ∧ serves e ∧ returns e) ∧
      ((st = 1 ∧ p.before = 0) ∨ (st = 3 ∧ p.cause ≠ 2) → p.failedOnce = true → s.runs (.clothLinkUp c t) fun e =>
        stands d e ∧ locks e ∧ e.get (CLO_STAT.state c.val) = 4 ∧ (e.clothPort c.val).provingFrom = some t ∧ serves e) ∧
      (st = 4 → s.runs (.provingEnd c t) fun e => stands d e ∧ e.get (CLO_STAT.state c.val) = 2 ∧
        (e.clothPort c.val).provingFrom = none ∧ serves e ∧ returns e))

/-- A queue's bolts: closed by the flush time, offered by their turn, sent with their header, freed by a receipt, sent
again by the retransmission timer, which doubles and then stalls the queue; a heartbeat falls due on an idle queue and
is sent with the next number and no data; a write to SPL_QSEL shows the queue. The order of queues of one priority is
the model's reading (log 59). The pace of the ledger's queue entries, and that a bolt waits for its entry, is the
model's choice (log 78). Rules: 10 R285, R288, 11 R297, R300, R301, R303, R307, R310, R312, R313, R314, R325. -/
def Obligations.QueuesSendResendAndFreeTheirBolts : Prop :=
  ∀ (s : State) (q : Fin 8192) (t : Nat), s.dev.held = false →
    let d := s.dev.at_ t
    let x := s.dev.queue q.val
    let only (e : Device) (y : Queue) : Prop := e = d.setQueue q.val y
    (s.dev.qOn q.val = true → s.dev.get (SPL_RC_TIME.flush (s.dev.qClass q.val)) ≠ 0 →
      (x.wr ≠ x.openAt → s.runs (.boltFlushTimeout q t) fun e => only e { x with
        bolts := x.bolts ++ [{ seq := x.next, start := x.openAt, len := x.wr - x.openAt, first := x.openFirst.getD 0xFFFF,
                               items := x.openItems, lost := satU 16 x.lostNow, sent := none, tag := 0 }]
        next := (x.next + 1) % 2 ^ 48, openAt := x.wr, openSince := none, openFirst := none, openItems := 0, lostNow := 0 }) ∧
      (x.wr = x.openAt → s.runs (.boltFlushTimeout q t) fun e => only e x)) ∧
    (s.dev.qOn q.val = true → x.port.isSome = true → s.dev.liveOf SPL_CFG.hb_period ≠ 0 → (∀ b ∈ x.bolts, b.sent ≠ none) →
      s.runs (.heartbeatTimer q t) fun e => only e { x with hbDue := true }) ∧
    (∀ b : Bolt, x.timer ≠ none → (x.bolts.find? fun b => b.sent.isSome) = some b → x.stalled = false →
      let y (e : Device) : Queue := e.queue q.val
      let again (e : Device) : Prop := b.seq ∈ (y e).retx ∧ (∀ i ∈ x.retx, i ∈ x.bolts.map Bolt.seq → i ∈ (y e).retx) ∧
        (y e).expiries = x.expiries + 1 ∧ (y e).timer = some t ∧ (y e).bolts = x.bolts ∧
        (∀ k, k ≠ q.val → e.queue k = s.dev.queue k) ∧ d.keeps e [.regs, .queues]
      (x.expiries + 1 < s.dev.qRetry q.val → s.runs (.retxTimeout q t) fun e => again e ∧
        (y e).timeout = min (2 * x.timeout) (64 * s.dev.qRto q.val) ∧ (y e).stalled = false) ∧
      (s.dev.qRetry q.val ≤ x.expiries + 1 → s.runs (.retxTimeout q t) fun e => again e ∧
        (y e).timeout = 64 * s.dev.qRto q.val ∧ (y e).stalled = true ∧ e.flag SPL_EVENT.stalled = true)) ∧
    (∀ c : Fin 32,
      let y := d.syncQueues
      let x := y.queue q.val
      ((∀ p ∈ d.queues, d.inBoth p.1 (fun v => v == (d.queue p.1).val) = true) → y = d) ∧
      (y.inService c.val = false ∨ y.flag GLB_FATAL.fatal = true ∨ y.chooseOffer c.val t = none → s.runs (.portSendSlot c t) fun e =>
        e = y) ∧
      (∀ (k n : Nat) (o : Offer), y.chooseOffer c.val t = some (k, n, o) →
        k < 8 ∧ y.get (SPL_RC_RATE.prio (y.qClass n)) = k % 4 ∧ o.retransmit = decide (k < 4) ∧
        y.eligible c.val n t (y.queue n) o = true ∧ y.covered n o = true ∧ (4 ≤ k → y.jrn.quiesced = none) ∧
        ∀ j, j < k → ∀ m z, (m, z) ∈ y.queues → z.port = some c.val → y.qOn m = true →
          y.get (SPL_RC_RATE.prio (y.qClass m)) = j % 4 → ∀ o' : Offer,
          (if j < 4 then (if y.qW m = 0 then none else (y.queue m).retxOffer)
            else if y.jrn.quiesced.isSome then none else y.newOffer m (y.queue m)) = some o' →
          (y.eligible c.val m t (y.queue m) o' && y.covered m o') = false) ∧
      (∀ (k : Nat) (b : Bolt) (again : Bool), y.inService c.val = true → y.flag GLB_FATAL.fatal = false →
        let o : Offer := { bolt := b, heartbeat := false, retransmit := again }
        y.chooseOffer c.val t = some (k, q.val, o) →
        b ∈ x.bolts → x.port = some c.val → y.qW q.val ≠ 0 → y.armed .spl 2 = false → y.ringPoison q.val b.start b.len = none →
        let size := 78 + b.len + (if y.qTagged q.val then 4 else 0)
        let tag := if again then b.tag else y.get SPL_DEV_TAG.value
        s.runs (.portSendSlot c t) fun e =>
          (e.clothPort c.val).lastFrame = withFcs (udpFrame (y.boltHead c.val q.val)
            (boltBytes false again (y.qHome q.val != c.val) (y.ackReq q.val x o) q.val b.seq b.first b.items b.lost
              tag (y.get SPL_INCARN.value) (y.ringRead q.val b.start b.len))) ∧
          (e.queue q.val).bolts = x.bolts.map (fun z => if z.seq = b.seq then { z with sent := some t, tag := tag } else z) ∧
          (e.queue q.val).retx = (if again then x.retx.filter fun i => i != b.seq else x.retx) ∧
          (e.queue q.val).retxCount = (if again then satU 32 (x.retxCount + 1) else x.retxCount) ∧
          (e.queue q.val).timer = some t ∧ (e.queue q.val).lastSend = t ∧
          (e.queue q.val).tokens = y.bucketAt q.val t x - 1280 * size ∧
          e.pair (CLO_TX_FRAMES_LO.count_lo c.val) (CLO_TX_FRAMES_HI.count_hi c.val) =
            (y.pair (CLO_TX_FRAMES_LO.count_lo c.val) (CLO_TX_FRAMES_HI.count_hi c.val) + 1) % 2 ^ 64 ∧
          e.pair (CLO_TX_BYTES_LO.count_lo c.val) (CLO_TX_BYTES_HI.count_hi c.val) =
            (y.pair (CLO_TX_BYTES_LO.count_lo c.val) (CLO_TX_BYTES_HI.count_hi c.val) + size) % 2 ^ 64 ∧
          e.get (CLO_RETX.count c.val) = (if again then satU (CLO_RETX.count c.val).w (y.get (CLO_RETX.count c.val) + 1)
            else y.get (CLO_RETX.count c.val)) ∧
          (∀ j, j ≠ q.val → e.queue j = y.queue j) ∧ (∀ j, j ≠ c.val → e.clothPort j = y.clothPort j) ∧
          y.keeps e [.regs, .queues, .cloth, .drm]) ∧
      (∀ (k : Nat) (b : Bolt), y.inService c.val = true → y.flag GLB_FATAL.fatal = false →
        y.chooseOffer c.val t = some (k, q.val, { bolt := b, heartbeat := true, retransmit := false }) →
        let size := 78 + (if y.qTagged q.val then 4 else 0)
        s.runs (.portSendSlot c t) fun e =>
          (e.clothPort c.val).lastFrame = withFcs (udpFrame (y.boltHead c.val q.val)
            (boltBytes true false (y.qHome q.val != c.val) (x.next != x.base) q.val x.next 0xFFFF 0 (satU 16 x.lostNow)
              (y.get SPL_DEV_TAG.value) (y.get SPL_INCARN.value) [])) ∧
          e.queue q.val = { x with lastSend := t, hbDue := false, tokens := y.bucketAt q.val t x - 1280 * size, tokensAt := t } ∧
          e.pair (CLO_TX_FRAMES_LO.count_lo c.val) (CLO_TX_FRAMES_HI.count_hi c.val) =
            (y.pair (CLO_TX_FRAMES_LO.count_lo c.val) (CLO_TX_FRAMES_HI.count_hi c.val) + 1) % 2 ^ 64 ∧
          y.keeps e [.regs, .queues, .cloth])) ∧
    (∀ (c : Fin 32) (fixed lost : Nat) (fcsOk : Bool) (frame : List Byte), s.dev.liveOf (CLO_CTL.enable c.val) = 1 →
      s.dev.flag (CLO_STAT.pcs_lock c.val) = true → s.dev.flag (CLO_STAT.fec_align c.val) = true →
      let fec (e : Device) : Prop :=
        e.get (CLO_FEC.corrected c.val) = satU (CLO_FEC.corrected c.val).w (s.dev.get (CLO_FEC.corrected c.val) + fixed) ∧
        e.get (CLO_FEC.uncorrected c.val) = satU (CLO_FEC.uncorrected c.val).w (s.dev.get (CLO_FEC.uncorrected c.val) + lost)
      let fecs := [CLO_FEC.corrected c.val, CLO_FEC.uncorrected c.val]
      (s.dev.clothKeeps c.val fcsOk frame = none → s.runs (.clothRxFrame c t ⟨fixed, lost, fcsOk⟩ frame) fun e => fec e ∧
        e.get (CLO_RX_DROP.count c.val) = satU (CLO_RX_DROP.count c.val).w (s.dev.get (CLO_RX_DROP.count c.val) + 1) ∧
        d.onlyFields e (CLO_RX_DROP.count c.val :: fecs)) ∧
      (∀ (ip : Nat) (body : List Byte), s.dev.clothKeeps c.val fcsOk frame = some (ip, body) →
        parseReceipts (body.length + 1) body = ([body], true) → beAt body 4 2 = q.val →
        let n := beAt body 3 1
        let ack := beAt body 6 6
        let whole := beAt body 0 2 = 0x5243 ∧ beAt body 2 1 = 1 ∧ n ≤ 8 ∧ crc32c (body.take (16 + 8 * n)) = beAt body (16 + 8 * n) 4
        let counts (e : Device) (f : Fld) : Prop := e.get f = satU f.w (s.dev.get f + 1)
        (whole → s.dev.qOn q.val = true → s.dev.qIp q.val = ip → s.dev.qW q.val ≠ 0 → seqBefore ack x.next = true →
          (ack = x.base ∨ seqBefore x.base ack = true) → s.dev.jrn.captures = [] → n = 0 →
          s.runs (.clothRxFrame c t ⟨fixed, lost, fcsOk⟩ frame) fun e => fec e ∧ counts e (CLO_RX_RCPT.count c.val) ∧ counts e SPL_CNT_RCPT.count ∧
            (e.queue q.val).base = (ack + 1) % 2 ^ 48 ∧
            (e.queue q.val).bolts = x.bolts.filter (fun b => !seqBefore b.seq ((ack + 1) % 2 ^ 48)) ∧
            (e.queue q.val).stalled = false ∧ (e.queue q.val).expiries = 0 ∧ (e.queue q.val).timeout = s.dev.qRto q.val ∧
            (x.stalled = true → e.flag SPL_EVENT.resumed = true) ∧
            (∀ j, j ≠ q.val → e.queue j = s.dev.queue j) ∧ d.keeps e [.regs, .queues]) ∧
        (¬ whole ∨ s.dev.qOn q.val = false ∨ s.dev.qIp q.val ≠ ip ∨ s.dev.qW q.val = 0 ∨ seqBefore ack x.next = false →
          s.runs (.clothRxFrame c t ⟨fixed, lost, fcsOk⟩ frame) fun e => fec e ∧ counts e (CLO_RX_RCPT.count c.val) ∧ counts e SPL_CNT_BADRCPT.count ∧
            e.flag SPL_EVENT.bad_rcpt = true ∧
            d.onlyFields e ([CLO_RX_RCPT.count c.val, SPL_CNT_BADRCPT.count, SPL_EVENT.bad_rcpt] ++ fecs)))) ∧
    (let on := s.dev.qOn q.val
     let shown (f : Fld) (v : Nat) : Fld × Nat := (f, v % 2 ^ f.w)
     s.writes (.splQselWrite q) [(SPL_QSEL.queue, q.val),
      (SPL_QSTAT.state, if !on then 0 else if s.dev.qW q.val = 0 then 3 else if x.stalled then 2 else 1),
      (SPL_QSTAT.away, if on ∧ x.port.isSome ∧ x.port ≠ some (s.dev.qHome q.val) then 1 else 0),
      (SPL_QSTAT.unserved, if on ∧ x.port = none then 1 else 0),
      shown SPL_QSTAT.port (if on then x.port.getD x.lastPort else 0),
      shown SPL_QSTAT.outstanding (if on then min ((x.next + 2 ^ 48 - x.base) % 2 ^ 48) 65536 else 0),
      shown SPL_QNEXT_LO.seq_lo x.next, shown SPL_QNEXT_HI.seq_hi (x.next / 2 ^ 32),
      shown SPL_QBASE_LO.seq_lo x.base, shown SPL_QBASE_HI.seq_hi (x.base / 2 ^ 32),
      shown SPL_QFILL.count ((x.wr - x.free + 1023) / 1024), shown SPL_QLOST.count x.lost, shown SPL_QRETX.count x.retxCount])

/-! ### Reference (14) -/

/-- What the events of a reference do: its conditions, its qualification and the reason shown, and the selection that
follows a disqualification of the active one: a switch to the candidate left, or holdover, or free run. The corners of
a switch and of the reasons shown are the model's reading (log 30, log 31), and the offset of the DPLL output comes
with a measurement (log 82). Rules: 14 R393, R394, R395, R396, R397, R398, R399, R400, R402. -/
def Obligations.ReferencesQualifyAndSwitch : Prop :=
  ∀ (s : State) (k : Fin 4), s.dev.held = false →
    let x := s.dev
    let q := x.get REF_STAT.qualified
    let c := x.refCond k.val
    let leaves (e : Device) (y : RefCond) (r : RefState) (fs : List Fld) : Prop := e.refCond k.val = y ∧
      (∀ j, j ≠ k.val → e.refCond j = x.refCond j) ∧ { x with ref := { r with cond := e.ref.cond } }.onlyFields e fs
    let sets (e : Device) (y : RefCond) (fs : List Fld) : Prop := leaves e y x.ref fs
    let slews (n : Int) : RefState := { x.ref with slewLeft := n, slewPart := 0 }
    let gone (e : Device) (reason : Nat) : Prop :=
      e.get REF_STAT.qualified = q &&& (15 - 2 ^ k.val) ∧
      e.get REF_STAT.eligible = x.get REF_STAT.eligible &&& (15 - 2 ^ k.val) ∧
      e.get (reasonField k.val) = reason ∧ e.get REF_EVENT.disqualified = 1
    let goneFields := [REF_STAT.qualified, REF_STAT.eligible, reasonField k.val, REF_EVENT.disqualified]
    let active := x.flag REF_STAT.active_valid = true
    let stays := active ∧ x.get REF_STAT.active ≠ k.val ∧ x.qualified (x.get REF_STAT.active) = true ∧
      (x.get REF_STAT.state = 2 ∨ x.flag REF_CFG.revertive = false)
    let enabled := x.flag (REF_PRIO.enable k.val) = true
    (x.qualified k.val = true → enabled → stays → s.runs (.refClockLoss k) fun e =>
      gone e 1 ∧ sets e { c with clock := false } goneFields) ∧
    (q = 2 ^ k.val → enabled → active → x.get REF_STAT.active = k.val →
      (x.flag REF_STAT.hist_valid = true → s.runs (.refClockLoss k) fun e => gone e 1 ∧ e.get REF_STAT.state = 3 ∧
        e.get REF_STAT.active_valid = 0 ∧ e.get REF_EVENT.holdover = 1 ∧ e.get REF_HOLD_TIME.value = 0 ∧
        e.get REF_SW_CNT.holdovers = satU REF_SW_CNT.holdovers.w (x.get REF_SW_CNT.holdovers + 1) ∧
        leaves e { c with clock := false } (slews 0) (goneFields ++ [REF_STAT.state, REF_STAT.active_valid, REF_EVENT.holdover,
          REF_HOLD_TIME.value, REF_SW_CNT.holdovers])) ∧
      (x.flag REF_STAT.hist_valid = false → s.runs (.refClockLoss k) fun e => gone e 1 ∧ e.get REF_STAT.state = 0 ∧
        e.get REF_STAT.active_valid = 0 ∧ e.get REF_EVENT.free_run = 1 ∧ e.refCond k.val = { c with clock := false, window := true } ∧
        (∀ j, j < 4 → j ≠ k.val → e.refCond j = { x.refCond j with window := true } ∧
          ∀ n, e.failing j = some n → e.get (reasonField j) = n) ∧
        { x with ref := { slews 0 with cond := e.ref.cond } }.onlyFields e (goneFields ++ [REF_STAT.state, REF_STAT.active_valid,
          REF_EVENT.free_run, REF_DQ.reason0, REF_DQ.reason1, REF_DQ.reason2, REF_DQ.reason3]))) ∧
    (∀ j : Fin 4, j ≠ k → q = 2 ^ k.val + 2 ^ j.val → enabled → active → x.get REF_STAT.active = k.val → x.woven = true →
      let fields := goneFields ++ [REF_STAT.active, REF_STAT.active_valid, REF_STAT.phase_far, REF_STAT.state, REF_EVENT.switched,
        REF_SW_CNT.switches]
      let switched (e : Device) : Prop := gone e 1 ∧ e.get REF_STAT.active = j.val ∧ e.get REF_EVENT.switched = 1 ∧
        e.get REF_SW_CNT.switches = satU REF_SW_CNT.switches.w (x.get REF_SW_CNT.switches + 1)
      ((x.phaseNow j.val).natAbs ≤ 500000 → s.runs (.refClockLoss k) fun e => switched e ∧
        e.get REF_STAT.state = 2 ∧ e.get REF_STAT.phase_far = 0 ∧
        leaves e { c with clock := false } (slews (x.phaseNow j.val)) fields) ∧
      (500000 < (x.phaseNow j.val).natAbs → x.get REF_CFG.wtr ≠ 0 → s.runs (.refClockLoss k) fun e =>
        e.get REF_STAT.active = j.val ∧ e.get REF_STAT.state = 1 ∧ e.get REF_STAT.phase_far = 1 ∧
        e.get REF_EVENT.phase_far = 1 ∧ e.get REF_STAT.eligible = 0 ∧
        leaves e { c with clock := false } (slews 0) (fields ++ [REF_EVENT.phase_far]))) ∧
    (x.qualified k.val = false → enabled → s.runs (.refClockLoss k) fun e => e.get (reasonField k.val) = 1 ∧
      sets e { c with clock := false } [reasonField k.val]) ∧
    (x.qualified k.val = false → enabled → c.nominal = true → c.pulse = true → c.window = true → x.get (reasonField k.val) ≠ 5 →
      s.runs (.refClockReturn k) fun e => e.get (reasonField k.val) = 7 ∧ sets e { c with clock := true } [reasonField k.val]) ∧
    (∀ phase : BitVec 32, x.qualified k.val = true → enabled → c.clock = true → c.nominal = true → c.window = true →
      x.flag REF_STAT.phase_far = false → x.flag REF_STAT.second_valid = true → s.runs (.ppsEdge k .good phase) fun e =>
        sx 32 (e.get (REF_PHASE.value k.val)) = satS 32 (sx 32 phase.toNat - sx 20 (x.get (REF_COMP.comp k.val)) +
          sx 32 (x.get REF_THETA_APP.theta)) ∧ e.get (reasonField k.val) = 0 ∧
        leaves e { c with pulse := true } { x.ref with seenAt := Sparse.put (fun _ => 0) x.ref.seenAt k.val x.ref.moved }
          [REF_PHASE.value k.val, reasonField k.val]) ∧
    (∀ ofs dpll : BitVec 32, x.qualified k.val = true → enabled → c.clock = true → c.pulse = true → x.get REF_STAT.state ≠ 0 →
      let r : RefState := { x.ref with dpll := dpll.toInt }
      ((sx 32 ofs.toNat).natAbs ≤ 10 * x.qualWin → (∀ j, j < 4 → j ≠ k.val → x.qualified j = true → x.rank j ≠ x.rank k.val) →
        s.runs (.offsetMeasurement k ⟨ofs, dpll⟩ false) fun e => e.get (REF_OFS.value k.val) = ofs.toNat ∧
          e.get (reasonField k.val) = 0 ∧ leaves e { c with nominal := true, window := true } r [REF_OFS.value k.val, reasonField k.val]) ∧
      (10 * x.qualWin < (sx 32 ofs.toNat).natAbs → stays → s.runs (.offsetMeasurement k ⟨ofs, dpll⟩ false) fun e => gone e 4 ∧
        e.get (REF_OFS.value k.val) = ofs.toNat ∧
        leaves e { c with nominal := true, window := false } r (REF_OFS.value k.val :: goneFields)) ∧
      (∀ j, j < 4 → j ≠ k.val → x.qualified j = true → x.rank j = x.rank k.val → (sx 32 ofs.toNat).natAbs ≤ 10 * x.qualWin →
        10 * x.agreeThr < (x.refOfs j - sx 32 ofs.toNat).natAbs → s.runs (.offsetMeasurement k ⟨ofs, dpll⟩ false) fun e =>
          e.get REF_EVENT.disagree = 1)) ∧
    (x.qualified k.val = false → x.failing k.val = none →
      (stays → (∀ j, j < 4 → j ≠ k.val → x.qualified j = true → x.rank j ≠ x.rank k.val) →
        s.runs (.qualificationTimer k) fun e => e.get REF_STAT.qualified = q ||| 2 ^ k.val ∧ e.get REF_EVENT.qualified = 1 ∧
          e.get (reasonField k.val) = 0 ∧
          e.get REF_STAT.eligible = (if x.get REF_CFG.wtr = 0 then x.get REF_STAT.eligible ||| 2 ^ k.val else
            x.get REF_STAT.eligible) ∧
          x.onlyFields e [REF_STAT.qualified, REF_EVENT.qualified, reasonField k.val, REF_STAT.eligible]) ∧
      (q = 0 → x.flag REF_STAT.active_valid = false → x.woven = false → s.runs (.qualificationTimer k) fun e =>
        e.get REF_STAT.active = k.val ∧ e.get REF_STAT.active_valid = 1 ∧ e.get REF_STAT.state = 1 ∧
        e.get REF_STAT.second_valid = 1 ∧ e.get REF_EVENT.switched = 1 ∧
        e.ref = { slews 0 with moved := x.ref.moved + x.phaseNow k.val } ∧ x.keeps e [.regs, .ref])) ∧
    (x.qualified k.val = true → bit (x.get REF_STAT.eligible) k.val = false → x.get REF_STAT.state ≠ 2 → stays →
      s.writes (.wtrExpiry k) [(REF_STAT.eligible, x.get REF_STAT.eligible ||| 2 ^ k.val)]) ∧
    (x.get REF_STAT.state = 2 → x.get REF_CFG.wtr ≠ 0 →
      s.runs .switchSlewEnd fun e => e.get REF_STAT.state = 1 ∧ e.get REF_STAT.eligible = 0 ∧
        { x with ref := { slews 0 with moved := x.ref.moved + x.ref.slewLeft } }.onlyFields e [REF_STAT.state, REF_STAT.eligible])

/-- Holdover, the loss of the loom clock, phase steps, compensation, and the two outputs with their offsets. Which
offset an edge has, and that every second and boundary has one pulse, is the model's reading (log 93). Rules: 14 R388,
R401, R404, R405, R407, R408. -/
def Obligations.HoldoverStepsAndOutputs : Prop :=
  ∀ (s : State) (t : Nat), s.dev.held = false →
    let x := s.dev
    let d := x.at_ t
    (∀ est : BitVec 32, x.get REF_STAT.state = 1 →
      s.writes (.holdoverHistoryValid est) [(REF_HOLD_EST.value, est.toNat), (REF_STAT.hist_valid, 1)]) ∧
    (x.get REF_STAT.state = 3 → x.get REF_TIMES.hold_limit ≠ 0 → s.runs .holdoverExpiry fun e =>
      e.get REF_STAT.hist_valid = 0 ∧ e.get REF_EVENT.hold_expired = 1 ∧ e.get REF_STAT.state = 0 ∧ e.get REF_EVENT.free_run = 1 ∧
      (∀ k, k < 4 → e.refCond k = { x.refCond k with window := true }) ∧
      { x with ref := { x.ref with cond := e.ref.cond } }.onlyFields e [REF_STAT.hist_valid, REF_EVENT.hold_expired, REF_STAT.state,
        REF_EVENT.free_run, REF_DQ.reason0, REF_DQ.reason1, REF_DQ.reason2, REF_DQ.reason3]) ∧
    (x.armed .ref 2 = false → x.flag GLB_FATAL.fatal = false → s.runs .loclkLoss fun e =>
      bit (e.get (FSTAT.real 0x10000)) 2 = true ∧ e.get GLB_FATAL.fatal = 1 ∧ e.get GLB_FATAL.block = 0x10 ∧
      e.get GLB_FATAL.source = 2 ∧
      (let took := if x.word (FSTAT.real 0x10000).addr = 0 then x.sup.took.filter (fun b => b != 0x10000) else x.sup.took
       e.sup = { x.sup with fatalAt := some x.tm.now, fatalInj := false, took := took }) ∧
      x.keeps e [.regs, .sup]) ∧
    (∀ step : BitVec 20,
      let v := sx 20 step.toNat
      let goal := sx 32 (x.get REF_THETA.theta) + v
      let refused := 500000 < v.natAbs ∨ 500000 < (goal - sx 32 (x.get REF_THETA_APP.theta)).natAbs ∨ 1000000000 < goal.natAbs
      (refused → s.writes (.refStepWrite step) [(REF_EVENT.step_refused, 1)]) ∧
      (¬ refused → s.writes (.refStepWrite step) [(REF_THETA.theta, low 32 goal)])) ∧
    (∀ (k : Fin 4) (v : BitVec 20),
      (x.flag REF_STAT.active_valid = true → x.get REF_STAT.active = k.val →
        s.writes (.refCompWrite k v) [(REF_EVENT.comp_refused, 1)]) ∧
      (x.flag REF_STAT.active_valid = false ∨ x.get REF_STAT.active ≠ k.val →
        s.writes (.refCompWrite k v) [(REF_COMP.comp k.val, v.toNat)])) ∧
    (∀ v : BitVec 24, s.runs (.refPpsoutOfsWrite v t) fun e => e.get REF_PPSOUT_OFS.ppsout_ofs = v.toNat ∧
      e.ref = { d.ref with newPps := d.ref.newPps ++ [(sx 24 v.toNat, t + 1600000)] } ∧
      { d with ref := e.ref }.onlyFields e [REF_PPSOUT_OFS.ppsout_ofs]) ∧
    (∀ v : BitVec 12, s.runs (.refPickoutOfsWrite v t) fun e => e.get REF_PICKOUT_OFS.pickout_ofs = v.toNat ∧
      e.ref = { d.ref with newPick := d.ref.newPick ++ [(sx 12 v.toNat, t + 1600000)] } ∧
      { d with ref := e.ref }.onlyFields e [REF_PICKOUT_OFS.pickout_ofs]) ∧
    (∀ (cur : Int) (ws : List (Int × Nat)) (b : Nat), (∀ w ∈ ws, (b : Int) + w.1 < w.2) → offsetFor cur ws b = (cur, ws)) ∧
    (∀ (cur o : Int) (old new : List (Int × Nat)) (m b : Nat), (m : Int) ≤ b + o → (∀ w ∈ new, (b : Int) + w.1 < w.2) →
      offsetFor cur (old ++ (o, m) :: new) b = (o, new)) ∧
    (∀ pick : Bool,
      let edge := if pick then d.pickEdge t else d.ppsEdge t
      let at0 := if pick then some d.tm.pickStart else d.tm.second
      let p := if pick then d.period else 1600000000
      let falls (b : Nat) : Prop :=
        ((t : Int) = b + (if pick then offsetFor d.ref.pickOfs d.ref.newPick b else offsetFor d.ref.ppsOfs d.ref.newPps b).1) ∧
        ∀ y, (if pick then d.ref.pickDone else d.ref.ppsDone) = some y → y + p / 2 ≤ b
      (∀ b, edge = some b → falls b ∧ ∃ c, at0 = some c ∧ (b = c - p ∨ b = c ∨ b = c + p)) ∧
      (∀ c b, at0 = some c → b = c - p ∨ b = c ∨ b = c + p → falls b → edge ≠ none) ∧
      (edge = none → (s.runs (.outputOffsetTakesEffect pick t) fun e => e = d) ∧ s.runs (.outputEdge pick t) fun e => e = d)) ∧
    (∀ b, d.pickEdge t = some b →
      let w := offsetFor d.ref.pickOfs d.ref.newPick b
      (s.runs (.outputOffsetTakesEffect true t) fun e => e = { d with ref := { d.ref with pickOfs := w.1, newPick := w.2 } }) ∧
      (d.flag REF_OUT.pickout_en = false ∨ d.running = false → s.runs (.outputEdge true t) fun e => e = d) ∧
      (d.flag REF_OUT.pickout_en = true → d.running = true → s.runs (.outputEdge true t) fun e => e.pickoutPin = true ∧
        e = { d with ref := { d.ref with
          pickOfs := w.1, newPick := w.2, pickDone := some b, pickOut := true,
          pickEnd := if d.ref.pickOut = true ∧ t < d.ref.pickEnd then d.ref.pickEnd else t + 64 } })) ∧
    (∀ b, d.ppsEdge t = some b →
      let w := offsetFor d.ref.ppsOfs d.ref.newPps b
      (s.runs (.outputOffsetTakesEffect false t) fun e => e = { d with ref := { d.ref with ppsOfs := w.1, newPps := w.2 } }) ∧
      (d.flag REF_OUT.ppsout_en = false ∨ d.flag REF_STAT.second_valid = false → s.runs (.outputEdge false t) fun e => e = d) ∧
      (d.flag REF_OUT.ppsout_en = true → d.flag REF_STAT.second_valid = true → s.runs (.outputEdge false t) fun e =>
        e.ppsoutPin = true ∧ e = { d with ref := { d.ref with
          ppsOfs := w.1, newPps := w.2, ppsDone := some b, ppsOut := true,
          ppsEnd := if d.ref.ppsOut = true ∧ t < d.ref.ppsEnd then d.ref.ppsEnd else t + 160000 } })) ∧
    (x.ref.pickEnd ≤ t → s.runs (.outputPulseEnd true t) fun e => e = { d with ref := { d.ref with pickOut := false } } ∧
      e.pickoutPin = false) ∧
    (x.ref.ppsEnd ≤ t → s.runs (.outputPulseEnd false t) fun e => e = { d with ref := { d.ref with ppsOut := false } } ∧
      e.ppsoutPin = false)

/-! ### Faults, wear, supply (17, 20) -/

/-- What a raised source leaves in its block's fault registers, really or by an armed injection, and examples of each
kind of consequence; the patrol scrubber's finds; arming; the notices that report faults, rejections and events; the
reset a second after a fatal fault; and the IEEE 1149.1 port's lock. Of the sources of one cycle the first event is
the one R473 names. The corners of FFIRST, consequences and injection are the model's reading (log 34, log 35, log
36), that an EVENT notice leaves the bits set is too (log 38), and so are what the IEEE 1149.1 port keeps of an
instruction (log 39) and the severity of a FAULT notice (log 92). Rules: 13 R385, 17 R472, R473, R475, R476, R477,
R479, R483, R484, R485, 15 R438. -/
def Obligations.FaultsAreRecordedAndReported : Prop :=
  ∀ s : State, s.dev.held = false →
    let x := s.dev
    (∀ (b : Blk) (src : Fin 16) (detail : W32) (subject t : Nat), faultClass b src.val ≠ 0 →
      let d := x.at_ t
      let base := blkBase b
      let cls := faultClass b src.val
      let count := if cls = 1 then FCOUNT.c_count base else if cls = 2 then FCOUNT.u_count base else FCOUNT.f_count base
      let before (inj : Nat) : Prop := d.wordAtCycle (FSTAT.word base).addr = 0 ∧ (d.get (FFIRST.class_ base) < cls ∨
        (d.get (FFIRST.class_ base) = cls ∧ ((inj = 0 ∧ d.get (FFIRST.injected base) = 1) ∨
          (inj = d.get (FFIRST.injected base) ∧ src.val < d.get (FFIRST.source base)))))
      let first (e : Device) (inj : Nat) : Prop := d.word (FSTAT.word base).addr = 0 ∨ before inj →
        e.get (FFIRST.source base) = src.val ∧ e.get (FFIRST.class_ base) = cls ∧ e.get (FFIRST.valid base) = 1 ∧
        e.get (FFIRST.injected base) = inj ∧ e.get (FDETAIL.detail base) = (if hasDetail b src.val then detail.toNat else 0) ∧
        e.pair (FPN_LO.fpn_lo base) (FPN_HI.word base) = x.faultPick
      let latched (e : Device) (inj : Nat) : Prop := d.word (FSTAT.word base).addr ≠ 0 → ¬ before inj →
        e.word (FFIRST.word base).addr = d.word (FFIRST.word base).addr ∧
        e.word (FDETAIL.word base).addr = d.word (FDETAIL.word base).addr
      let fatal (e : Device) : Prop := cls = 3 → d.flag GLB_FATAL.fatal = false → e.get GLB_FATAL.fatal = 1 ∧
        e.get GLB_FATAL.block = base / 4096 ∧ e.get GLB_FATAL.source = src.val ∧ e.sup.fatalAt = some d.tm.now
      let alone := (b ≠ .hdl ∨ src.val < 2) ∧ ∀ (d : Device) (n m : Nat), d.consequence b src.val n m = d
      (alone → d.armed b src.val = false → s.runs (.faultRaised b src true false detail ⟨subject, t⟩) fun e =>
        e.get (FSTAT.real base) = d.get (FSTAT.real base) ||| 2 ^ src.val ∧
        e.get (FSTAT.injected base) = d.get (FSTAT.injected base) ∧ e.get count = satU count.w (d.get count + 1) ∧
        first e 0 ∧ latched e 0 ∧ fatal e ∧ d.keeps e [.regs, .sup]) ∧
      (alone → d.armed b src.val = true → checkedByRows b src.val = false →
        s.runs (.faultRaised b src false true detail ⟨subject, t⟩) fun e =>
        e.get (FSTAT.injected base) = d.get (FSTAT.injected base) ||| 2 ^ src.val ∧
        e.get (FSTAT.real base) = d.get (FSTAT.real base) ∧ e.get (FCOUNT.word base) = d.get (FCOUNT.word base) ∧
        e.get (FINJ.pending base) = 0 ∧ e.get (FINJ.inj_count base) = satU 16 (d.get (FINJ.inj_count base) + 1) ∧
        first e 1 ∧ latched e 1 ∧ fatal e ∧ d.keeps e [.regs, .sup]) ∧
      (d.armed b src.val = false ∨ checkedByRows b src.val = true → s.runs (.faultRaised b src false true detail ⟨subject, t⟩) fun e =>
        e = d)) ∧
    (∀ (src : Fin 16) (detail : W32) (k t : Nat), src.val = 2 ∨ src.val = 3 →
      s.runs (.faultRaised .hdl src true false detail ⟨k, t⟩) fun e => e = (x.at_ t).failPair (k % 2)) ∧
    (∀ (detail : W32) (k t : Nat), x.armed .jrn 3 = false → s.runs (.faultRaised .jrn 3 true false detail ⟨k, t⟩) fun e =>
      e.poisoned (detail.toNat + 2 ^ 32 * k) 1 = true ∧ (x.at_ t).keeps e [.regs, .sup, .poison]) ∧
    (∀ (p : Fin 64) (f : FrameAsm) (detail : W32) (t : Nat), x.armed (.wrp p) 1 = false → (x.port p.val).frame = some f →
      s.runs (.faultRaised (.wrp p) 1 true false detail ⟨0, t⟩) fun e =>
        (e.port p.val).frame = some { f with faulty := true } ∧ (x.at_ t).keeps e [.regs, .sup, .ports]) ∧
    (∀ (c : Fin 32) (detail : W32) (t : Nat), x.armed (.clo c) 1 = false → x.get (CLO_STAT.state c.val) = 2 →
      s.runs (.faultRaised (.clo c) 1 true false detail ⟨0, t⟩) fun e =>
        e.get (CLO_STAT.state c.val) = 3 ∧ (e.clothPort c.val).cause = 2 ∧ (x.at_ t).keeps e [.regs, .sup, .queues, .cloth]) ∧
    (∀ (h : Fin 64) (g : BeamPick) (detail : W32) (t : Nat), x.armed (.hrn h) 2 = false → x.beams = some g →
      s.runs (.faultRaised (.hrn h) 2 true false detail ⟨0, t⟩) fun e =>
        e.beams = some { g with partialAll := true } ∧ (x.at_ t).keeps e [.regs, .sup, .beams]) ∧
    (∀ (b : Blk) (detail : W32), b ∈ [Blk.hst, .spl] ++ (List.finRange 32).map Blk.clo →
      let bad := if b = .hst then 3 else 1
      x.armed b 0 = false → x.armed b bad = false →
      (s.runs (.sramPatrolScrub b false false detail) fun e => e = x) ∧
      s.runs (.sramPatrolScrub b true false detail) fun e => bit (e.get (FSTAT.real (blkBase b))) 0 = true ∧
        e.get (FCOUNT.c_count (blkBase b)) = satU 16 (x.get (FCOUNT.c_count (blkBase b)) + 1) ∧ x.keeps e [.regs, .sup]) ∧
    (∀ (b : Blk) (src : Fin 16),
      (x.testen = false → s.runs (.finjGo b src) fun e => e = x) ∧
      (x.testen = true → s.runs (.finjGo b src) fun e => e.get (FINJ.source (blkBase b)) = src.val ∧
        e.get (FINJ.pending (blkBase b)) = (if faultClass b src.val = 0 then 0 else 1) ∧
        { x with sup := { x.sup with armedSrc := Sparse.put (fun _ => 0) x.sup.armedSrc (blkBase b) src.val } }.onlyFields e
          [FINJ.source (blkBase b), FINJ.pending (blkBase b)])) ∧
    (∀ b : Blk, x.fwUp = true → x.rsq.queue.length < 4032 →
      let base := blkBase b
      (x.irq b = true → 3 ∉ blkClasses b → s.runs (.faultNotice b) fun e => e.word (FSTAT.word base).addr = 0 ∧
        { x with rsq := e.rsq, sup := { x.sup with took := x.sup.took.filter fun y => y != base } }.onlyFields e
          [FSTAT.real base, FSTAT.injected base] ∧
        ∃ n ∈ e.rsq.queue, n.ty = 0x10 ∧ n.subject = base ∧ n.sent = false ∧ n.pairs.map Prod.fst =
          [(FSTAT.word base).addr, (FFIRST.word base).addr, (FDETAIL.word base).addr, (FPN_LO.word base).addr,
           (FPN_HI.word base).addr]) ∧
      (x.irq b = false → s.runs (.faultNotice b) fun e => e = x)) ∧
    (x.fwUp = true → x.rsq.queue.length + 64 < 4032 → s.runs .rejectPoll fun e =>
      let seen (y : Device) (p n : Nat) : Nat := Sparse.get (fun _ => 0) y.sup.rejSeen (16 * p + n)
      (∀ p n, p < 64 → 1 ≤ n → n ≤ 11 → seen e p n = x.get (WRP_REJ.count p n)) ∧
      (∀ p n, p < 64 → 1 ≤ n → n ≤ 11 → seen x p n < x.get (WRP_REJ.count p n) →
        ∃ k ∈ e.rsq.queue, k.ty = 0x11 ∧ k.subject = 0x100000 + 0x1000 * p ∧ k.sent = false) ∧
      ((∀ p n, p < 64 → 1 ≤ n → n ≤ 11 → x.get (WRP_REJ.count p n) ≤ seen x p n) → e.rsq = x.rsq) ∧ x.keeps e [.rsq, .sup]) ∧
    (∀ addr : W32,
      let shown := (∃ f, eventEnable addr.toNat = some f ∧ (x.word addr.toNat).toNat &&& x.get f ≠ 0) ∨
        (eventEnable addr.toNat = none ∧ ∃ f ∈ fieldsAt addr.toNat, f.acc = .w1c ∧ x.get ⟨addr.toNat, f.lo, f.w⟩ ≠ 0)
      (x.fwUp = true → x.rsq.queue.length < 4032 → shown → addr.toNat % 4096 < 0xF00 → s.runs (.eventNotice addr) fun e =>
        (∃ n ∈ e.rsq.queue, n.ty = 0x11 ∧ n.subject = instanceBase addr.toNat ∧ n.sent = false ∧
          n.pairs.map Prod.fst = [addr.toNat]) ∧ x.keeps e [.rsq]) ∧
      (x.fwUp = false ∨ ¬ shown ∨ 0xF00 ≤ addr.toNat % 4096 → s.runs (.eventNotice addr) fun e => e = x)) ∧
    (∀ t f : Nat, x.sup.fatalAt = some f → x.flag GLB_FATAL.fatal = true →
      (x.flag GLB_CTL.fatal_hold = false → f + 1600000000 ≤ t → s.runs (.fatalResetTimer t) fun e =>
        e.mem = [] ∧ e.jrn = Journal.cold ∧ e.get GLB_LAST_FATAL.valid = 1 ∧
        e.get GLB_LAST_FATAL.block = x.get GLB_FATAL.block ∧ e.get GLB_LAST_FATAL.source = x.get GLB_FATAL.source) ∧
      (x.flag GLB_CTL.fatal_hold = true ∨ t < f + 1600000000 → s.runs (.fatalResetTimer t) fun e => e = x)) ∧
    (∀ (code : BitVec 16) (standard : Bool), s.runs (.tapInstruction code standard) fun e => e = { x with sup := { x.sup with
      tap := if x.flag GLB_TEST.jtag_locked = true ∧ standard = false then none else some (code.toNat, standard) } })

/-- A gauge reading is started and stored; the daily plan takes each domain to the code its reading requires, lowering
by two at most, once the rail is high enough, and keeps the histories; bobbins switched off stay off; the supply's
alert is reported. What a plan takes in its corners is the model's reading (log 37), and so is what goes out on the
bus (log 95). Rules: 17 R482, R486, R487, R488, 20 R537, R538. -/
def Obligations.WearReadingsPlanTheSupply : Prop :=
  ∀ s : State, s.dev.held = false →
    let x := s.dev
    let commands (e : Device) (c : Nat) : Prop :=
      e.sup.vout = some (x.boot.vrAddress, Config.voutWord (codeMicrovolts c))
    (∀ (n : Fin 5) (v : W32), s.writes (.wgeStartWrite n v)
      [(WGE_BUSY.busy n.val, x.get (WGE_BUSY.busy n.val) ||| (v.toNat % (if n.val = 4 then 32 else 2 ^ 32)))]) ∧
    (∀ (k : Fin 133) (path sram : Byte) (temp : BitVec 16),
      let busy := WGE_BUSY.busy (k.val / 32)
      (bit (x.get busy) (k.val % 32) = true → x.armed .wge 2 = false → s.writes (.gaugeDone k path sram temp)
        [(busy, x.get busy - 2 ^ (k.val % 32)), (WGE_DOM_READ.path_code k.val, path.toNat),
         (WGE_DOM_READ.sram_code k.val, sram.toNat), (WGE_DOM_READ.temp k.val, temp.toNat)]) ∧
      (bit (x.get busy) (k.val % 32) = false → s.runs (.gaugeDone k path sram temp) fun e => e = x)) ∧
    (∀ (n : Fin 3) (v : W32), (∀ j, j < 32 → bit v.toNat j = true → 32 * n.val + j < 68 →
        x.flag (LOM_ROLE.bobbin_ok (32 * n.val + j)) = false) →
      s.writes (.wgeBobOffWrite n v) [(WGE_BOB_OFF.off n.val, v.toNat % (if n.val = 2 then 16 else 2 ^ 32))]) ∧
    (∀ (n : Fin 3) (v : W32) (j : Nat), j < 32 → bit v.toNat j = true → 32 * n.val + j < 68 →
      s.runs (.wgeBobOffWrite n v) fun e => e.flag (LOM_ROLE.bobbin_ok (32 * n.val + j)) = false ∧
        e.get (WGE_BOB_OFF.off n.val) = v.toNat % (if n.val = 2 then 16 else 2 ^ 32)) ∧
    (x.boot.phase = .running → x.svcHeld = false → (∀ k, k < 133 → x.need k ≤ 80) → (∀ k, k < 68 → x.get (WGE_DOM_READ.sram_code k) < 52) →
      let code (k : Nat) : Nat := max (x.need k) (x.domSet k - 2)
      let kept (e : Device) : Prop := (∀ k, k < 133 →
          e.get (WGE_DOM_HIST.days k) = satU 16 (x.get (WGE_DOM_HIST.days k) + 1) ∧
          e.get (WGE_DOM_HIST.peak k) = max (x.get (WGE_DOM_HIST.peak k)) (x.need k) ∧
          e.get (WGE_DOM_HIST.first k) = if x.get (WGE_DOM_HIST.days k) = 0 then x.need k else x.get (WGE_DOM_HIST.first k)) ∧
        x.keeps e [.regs, .sup, .rsq]
      (∀ k, k < 133 → x.sup.rail < code k → s.runs .wearReplan fun e => kept e ∧
        (∃ p, e.sup.plan = some p ∧ p.tries = 1 ∧ p.codes = (List.range 133).map (fun k => (k, code k)) ∧
          (∀ k, k < 133 → code k ≤ p.rail) ∧ (∃ k, k < 133 ∧ p.rail = code k) ∧ commands e p.rail) ∧ e.sup.rail = x.sup.rail ∧
        ∀ k, k < 133 → e.get (WGE_DOM_SET.set_ k) = x.get (WGE_DOM_SET.set_ k)) ∧
      ((∀ k, k < 133 → code k ≤ x.sup.rail) → s.runs .wearReplan fun e => kept e ∧ e.sup.plan = none ∧
        (∀ k, k < 133 → e.domSet k = code k) ∧ e.sup.rail = e.railCode ∧ e.railCode ≤ x.sup.rail ∧
        (e.railCode ≠ x.sup.sent → e.sup.settling = some 1 ∧ commands e e.railCode))) ∧
    (x.boot.phase ≠ .running ∨ x.svcHeld = true → s.runs .wearReplan fun e => e = x) ∧
    (∀ p : Replan, x.sup.plan = some p → (p.codes.Pairwise fun a b => a.1 ≠ b.1) → (∀ a ∈ p.codes, a.1 < 133 ∧ a.2 ≤ 80) →
      s.runs .voutSettled fun e => (∀ a ∈ p.codes, e.domSet a.1 = a.2) ∧ e.sup.plan = none ∧ e.sup.rail = e.railCode ∧
        (e.railCode ≠ p.rail → e.sup.settling = some 1 ∧ commands e e.railCode) ∧ x.keeps e [.regs, .sup, .rsq]) ∧
    (x.sup.plan = none → s.runs .voutSettled fun e => e = { x with sup := { x.sup with settling := none } }) ∧
    (x.boot.phase = .running → x.svcHeld = false → s.runs .wearReplan fun e => ∀ k, k < 68 → 80 < x.need k → e.get (LOM_RETIRE.retire_req k) = 1) ∧
    (∀ p : Replan, x.sup.plan = some p →
      (p.tries < 3 → s.runs .vrSettleTimeout fun e =>
        commands e p.rail ∧
        e = { x with sup := { x.sup with plan := some { p with tries := p.tries + 1 }, vout := e.sup.vout } }) ∧
      (3 ≤ p.tries → (∀ a ∈ p.codes, 68 ≤ a.1 ∨ a.2 ≤ x.domSet a.1) → x.rsq.queue.length < 4096 →
        s.runs .vrSettleTimeout fun e => e.sup.plan = none ∧ e.sup.rail = x.railCode ∧
          (x.railCode ≠ p.rail → e.sup.settling = none ∧ commands e x.railCode) ∧ (∃ n ∈ e.rsq.queue, n.ty = 0x20 ∧ n.subject = 0x7e0000 ∧ n.sent = false) ∧ x.keeps e [.sup, .rsq]) ∧
      (3 ≤ p.tries → s.runs .vrSettleTimeout fun e => e.sup.plan = none ∧
        ∀ a ∈ p.codes, a.1 < 68 → x.domSet a.1 < a.2 → e.get (LOM_RETIRE.retire_req a.1) = 1)) ∧
    (x.sup.plan = none →
      (x.sup.settling = none → s.runs .vrSettleTimeout fun e => e = x) ∧
      (∀ n, x.sup.settling = some n → n < 3 → s.runs .vrSettleTimeout fun e => commands e x.sup.rail ∧
        e = { x with sup := { x.sup with settling := some (n + 1), vout := e.sup.vout } }) ∧
      (∀ n, x.sup.settling = some n → 3 ≤ n → x.rsq.queue.length < 4096 → s.runs .vrSettleTimeout fun e =>
        e.sup = { x.sup with settling := none } ∧ (∃ n ∈ e.rsq.queue, n.ty = 0x20 ∧ n.subject = 0x7e0000 ∧ n.sent = false) ∧
        x.keeps e [.sup, .rsq])) ∧
    (∀ status : BitVec 16, x.boot.phase = .running → x.rsq.queue.length < 4096 → (∀ n ∈ x.rsq.queue, n.sent = true) →
      s.runs (.vrAlert status) fun e => (∃ n : Notice, e.rsq.queue = x.rsq.queue ++ [n] ∧ n.ty = 0x20 ∧ n.severity = 2 ∧
        n.subject = 0x7e0000 ∧ n.pairs.map Prod.snd = [status.toNat]) ∧ x.keeps e [.rsq, .freeN])

/-! ### Reset values (00, 19) -/

/-- In State.reset every register holds the value that its table gives, of which some are named here, the queue is
empty and every store listed is at its cold value. That State.reset is this instant, and the contents of the stores,
are choices of the model (log 4, log 24). Rules: 00 R7, 02 R53, 03 R83, 05 R151, R152, R544, 14 R402, 18 R496. -/
def Obligations.ResetHoldsTheSpecsValues : Prop :=
  let d := State.reset.dev
  State.reset.pending = [] ∧ (∀ a, d.word a = resetWord a) ∧ d.pn = 0 ∧ d.get PCK_STATE.state = 0 ∧ d.get PCK_CFG.period = 2500 ∧
  d.get PCK_CFG.shed_log2 = 0 ∧ d.stage = 0 ∧ d.woven = false ∧ d.get REF_STAT.state = 0 ∧ d.get REF_STAT.qualified = 0 ∧
  (∀ k, k < 4 → d.rank k = k) ∧ (∀ k, k < 64 → d.role k = 0 ∧ d.get (LOM_ROLE.logical k) = k) ∧
  (∀ k, 64 ≤ k → k < 68 → d.role k = 1) ∧ (∀ k, k < 68 → d.get (LOM_ROLE.bobbin_ok k) = 1) ∧
  (∀ l, l < 64 → d.get (CRL_LMAP.physical l) = l) ∧ (∀ n, n < 16 → d.capState n = 0) ∧ (∀ q, d.queue q = Queue.cold) ∧
  (∀ k, d.loom k = Loom.cold) ∧ (∀ e, e < 4 → d.trdState e = 0) ∧ d.drafts = Drafts.cold ∧ d.ref = RefState.cold
end

