-- ==== Sys2Proof/Laws/Bits.lean ====
section
/-! SUPPORT. Reading a field after writing a field, and the ranges of the arithmetic helpers. -/

namespace Sys2Proof.Machine

theorem Fld.of_lt (f : Fld) (x : W32) : f.of x < 2 ^ f.w := Nat.mod_lt _ (Nat.two_pow_pos _)

theorem Fld.testBit_of (f : Fld) (x : W32) (i : Nat) :
    (f.of x).testBit i = (decide (i < f.w) && x.toNat.testBit (f.lo + i)) := by
  simp [Fld.of, Nat.testBit_mod_two_pow, Nat.testBit_div_two_pow, Nat.add_comm]

theorem Fld.toNat_into (f : Fld) (x : W32) (v : Nat) (h : f.fits) :
    (f.into x v).toNat =
      2 ^ (f.lo + f.w) * (x.toNat / 2 ^ (f.lo + f.w)) + (2 ^ f.lo * (v % 2 ^ f.w) + x.toNat % 2 ^ f.lo) := by
  have h1 : x.toNat % 2 ^ f.lo < 2 ^ f.lo := Nat.mod_lt _ (Nat.two_pow_pos _)
  have h2 : v % 2 ^ f.w < 2 ^ f.w := Nat.mod_lt _ (Nat.two_pow_pos _)
  have h3 : 2 ^ f.lo * (v % 2 ^ f.w) + x.toNat % 2 ^ f.lo < 2 ^ (f.lo + f.w) := by
    rw [Nat.pow_add]
    calc 2 ^ f.lo * (v % 2 ^ f.w) + x.toNat % 2 ^ f.lo < 2 ^ f.lo * (v % 2 ^ f.w) + 2 ^ f.lo := by omega
      _ = 2 ^ f.lo * (v % 2 ^ f.w + 1) := by rw [Nat.mul_add, Nat.mul_one]
      _ ≤ 2 ^ f.lo * 2 ^ f.w := Nat.mul_le_mul_left _ h2
  have h4 : x.toNat / 2 ^ (f.lo + f.w) < 2 ^ (32 - (f.lo + f.w)) := by
    apply Nat.div_lt_of_lt_mul
    rw [← Nat.pow_add, Nat.add_sub_cancel' h]
    exact x.isLt
  have h5 : 2 ^ (f.lo + f.w) * (x.toNat / 2 ^ (f.lo + f.w)) + (2 ^ f.lo * (v % 2 ^ f.w) + x.toNat % 2 ^ f.lo) < 2 ^ 32 := by
    calc _ < 2 ^ (f.lo + f.w) * (x.toNat / 2 ^ (f.lo + f.w)) + 2 ^ (f.lo + f.w) := by omega
      _ = 2 ^ (f.lo + f.w) * (x.toNat / 2 ^ (f.lo + f.w) + 1) := by rw [Nat.mul_add, Nat.mul_one]
      _ ≤ 2 ^ (f.lo + f.w) * 2 ^ (32 - (f.lo + f.w)) := Nat.mul_le_mul_left _ h4
      _ = 2 ^ 32 := by rw [← Nat.pow_add, Nat.add_sub_cancel' h]
  rw [Fld.into, BitVec.toNat_ofNat, Nat.mul_comm (x.toNat / _), Nat.mul_comm (v % _), Nat.add_assoc]
  exact Nat.mod_eq_of_lt h5

theorem Fld.testBit_into (f : Fld) (x : W32) (v i : Nat) (h : f.fits) :
    (f.into x v).toNat.testBit i =
      if i < f.lo ∨ f.lo + f.w ≤ i then x.toNat.testBit i else v.testBit (i - f.lo) := by
  have h1 : x.toNat % 2 ^ f.lo < 2 ^ f.lo := Nat.mod_lt _ (Nat.two_pow_pos _)
  have h2 : v % 2 ^ f.w < 2 ^ f.w := Nat.mod_lt _ (Nat.two_pow_pos _)
  have h3 : 2 ^ f.lo * (v % 2 ^ f.w) + x.toNat % 2 ^ f.lo < 2 ^ (f.lo + f.w) := by
    rw [Nat.pow_add]
    calc 2 ^ f.lo * (v % 2 ^ f.w) + x.toNat % 2 ^ f.lo < 2 ^ f.lo * (v % 2 ^ f.w) + 2 ^ f.lo := by omega
      _ = 2 ^ f.lo * (v % 2 ^ f.w + 1) := by rw [Nat.mul_add, Nat.mul_one]
      _ ≤ 2 ^ f.lo * 2 ^ f.w := Nat.mul_le_mul_left _ h2
  rw [Fld.toNat_into f x v h, Nat.testBit_two_pow_mul_add _ h3]
  by_cases ha : i < f.lo + f.w
  · rw [if_pos ha, Nat.testBit_two_pow_mul_add _ h1]
    by_cases hb : i < f.lo
    · rw [if_pos hb, if_pos (Or.inl hb), Nat.testBit_mod_two_pow]
      simp [hb]
    · have hc : ¬ (i < f.lo ∨ f.lo + f.w ≤ i) := by omega
      rw [if_neg hb, if_neg hc, Nat.testBit_mod_two_pow]
      have hd : i - f.lo < f.w := by omega
      simp [hd]
  · have hc : i < f.lo ∨ f.lo + f.w ≤ i := by omega
    rw [if_neg ha, if_pos hc, Nat.testBit_div_two_pow]
    congr 1
    omega

/-- Reading the field just written gives the low bits of the value. -/
theorem Fld.of_into (f : Fld) (x : W32) (v : Nat) (h : f.fits) : f.of (f.into x v) = v % 2 ^ f.w := by
  apply Nat.eq_of_testBit_eq
  intro i
  rw [Fld.testBit_of, Fld.testBit_into f x v _ h, Nat.testBit_mod_two_pow]
  by_cases hi : i < f.w
  · rw [if_neg (by omega)]
    simp [hi]
  · simp [hi]

/-- Writing a field leaves the register's other fields. -/
theorem Fld.of_into_apart (f g : Fld) (x : W32) (v : Nat) (h : f.fits) (ha : f.apart g) :
    g.of (f.into x v) = g.of x := by
  apply Nat.eq_of_testBit_eq
  intro i
  rw [Fld.testBit_of, Fld.testBit_of, Fld.testBit_into f x v _ h]
  by_cases hi : i < g.w
  · rw [if_pos (by unfold Fld.apart at ha; omega)]
  · simp [hi]

theorem satU_le (n x : Nat) : satU n x ≤ 2 ^ n - 1 := by
  unfold satU
  split <;> omega

theorem satU_of_lt (n x : Nat) (h : x < 2 ^ n) : satU n x = x := if_pos h

theorem low_lt (n : Nat) (x : Int) : low n x < 2 ^ n := by
  have h : (0 : Int) < ((2 ^ n : Nat) : Int) := by exact_mod_cast Nat.two_pow_pos n
  have h1 := Int.emod_lt_of_pos x h
  have h2 := Int.emod_nonneg x (Int.ne_of_gt h)
  unfold low
  omega

/-- Two's complement read back from the low bits. -/
theorem sx_low (n : Nat) (x : Int) (hn : 0 < n) (h1 : -((2 ^ (n - 1) : Nat) : Int) ≤ x)
    (h2 : x < ((2 ^ (n - 1) : Nat) : Int)) : sx n (low n x) = x := by
  have hp : 2 ^ n = 2 * 2 ^ (n - 1) := by
    obtain ⟨m, rfl⟩ := Nat.exists_eq_succ_of_ne_zero (Nat.ne_of_gt hn)
    simp [Nat.pow_succ, Nat.mul_comm]
  have hlt := low_lt n x
  unfold sx
  rw [Nat.mod_eq_of_lt hlt]
  unfold low at *
  generalize hk : 2 ^ (n - 1) = k at *
  rw [hp] at hlt ⊢
  by_cases hx : 0 ≤ x
  · have : x % ((2 * k : Nat) : Int) = x := Int.emod_eq_of_lt hx (by omega)
    rw [this]
    dsimp only
    split <;> omega
  · have : x % ((2 * k : Nat) : Int) = x + 2 * k := by
      rw [← Int.add_emod_right]
      rw [Int.emod_eq_of_lt (by push_cast; omega) (by push_cast; omega)]
      push_cast
      rfl
    rw [this]
    dsimp only
    split <;> omega

theorem satS_bounds (n : Nat) (x : Int) :
    -((2 ^ (n - 1) : Nat) : Int) ≤ satS n x ∧ satS n x < ((2 ^ (n - 1) : Nat) : Int) := by
  have : (0 : Int) < ((2 ^ (n - 1) : Nat) : Int) := by exact_mod_cast Nat.two_pow_pos (n - 1)
  simp only [satS]
  split
  · omega
  · split <;> omega

end Sys2Proof.Machine
end

