-- ==== Sys2Proof/Laws/Store.lean ====
section
/-! SUPPORT. What the sparse stores do: a read after a write, and the canonical form that every operation keeps. -/

namespace Sys2Proof.Machine

variable {α : Type}

/-- Every key of `m` is above `k`. -/
def Sparse.above (k : Nat) (m : Sparse α) : Prop := ∀ e ∈ m, k < e.1

@[simp] theorem Sparse.get_nil (dflt : Nat → α) (k : Nat) : Sparse.get dflt [] k = dflt k := rfl

theorem Sparse.get_cons (dflt : Nat → α) (j : Nat) (v : α) (m : Sparse α) (k : Nat) :
    Sparse.get dflt ((j, v) :: m) k = if j = k then v else Sparse.get dflt m k := rfl

theorem Sparse.get_of_not_mem (dflt : Nat → α) (m : Sparse α) (k : Nat) (h : ∀ e ∈ m, e.1 ≠ k) :
    Sparse.get dflt m k = dflt k := by
  induction m with
  | nil => rfl
  | cons e m ih =>
    obtain ⟨j, v⟩ := e
    rw [Sparse.get_cons, if_neg (h (j, v) (by simp))]
    exact ih fun e he => h e (by simp [he])

@[simp] theorem Sparse.rising_nil : Sparse.rising ([] : Sparse α) = true := rfl

theorem Sparse.rising_cons (e : Nat × α) (m : Sparse α) :
    Sparse.rising (e :: m) = true ↔ Sparse.above e.1 m ∧ Sparse.rising m = true := by
  induction m generalizing e with
  | nil => simp [Sparse.rising, Sparse.above]
  | cons f m ih =>
    obtain ⟨i, v⟩ := e
    obtain ⟨j, w⟩ := f
    have hj := ih (j, w)
    constructor
    · intro h
      simp only [Sparse.rising, Bool.and_eq_true, decide_eq_true_eq] at h
      refine ⟨?_, h.2⟩
      intro e he
      rcases List.mem_cons.mp he with rfl | he
      · exact h.1
      · exact Nat.lt_trans h.1 ((hj.mp h.2).1 e he)
    · intro h
      simp only [Sparse.rising, Bool.and_eq_true, decide_eq_true_eq]
      exact ⟨h.1 (j, w) (by simp), h.2⟩

variable [DecidableEq α]

theorem Sparse.wf_iff (dflt : Nat → α) (m : Sparse α) :
    Sparse.wf dflt m = true ↔ Sparse.rising m = true ∧ ∀ e ∈ m, e.2 ≠ dflt e.1 := by
  simp [Sparse.wf]

@[simp] theorem Sparse.wf_nil (dflt : Nat → α) : Sparse.wf dflt [] = true := rfl

/-- Dropping entries keeps the canonical form. -/
theorem Sparse.keep_wf (dflt : Nat → α) (p : Nat → Bool) (m : Sparse α) (h : Sparse.wf dflt m = true) :
    Sparse.wf dflt (Sparse.keep p m) = true := by
  induction m with
  | nil => rfl
  | cons e m ih =>
    obtain ⟨hr, hd⟩ := (Sparse.wf_iff _ _).mp h
    obtain ⟨ha, hrm⟩ := (Sparse.rising_cons _ _).mp hr
    have hm : Sparse.wf dflt m = true := (Sparse.wf_iff _ _).mpr ⟨hrm, fun e he => hd e (by simp [he])⟩
    have h' := (Sparse.wf_iff _ _).mp (ih hm)
    simp only [Sparse.keep] at h' ⊢
    rw [List.filter_cons]
    split
    · refine (Sparse.wf_iff _ _).mpr ⟨(Sparse.rising_cons _ _).mpr ⟨?_, h'.1⟩, ?_⟩
      · intro f hf
        exact ha f (List.mem_filter.mp hf).1
      · intro f hf
        rcases List.mem_cons.mp hf with rfl | hf
        · exact hd f (by simp)
        · exact h'.2 f hf
    · exact ih hm

omit [DecidableEq α] in
/-- What a kept store reads. -/
theorem Sparse.get_keep (dflt : Nat → α) (p : Nat → Bool) (m : Sparse α) (k : Nat) :
    Sparse.get dflt (Sparse.keep p m) k = if p k then Sparse.get dflt m k else dflt k := by
  induction m with
  | nil => simp [Sparse.keep]
  | cons e m ih =>
    obtain ⟨j, v⟩ := e
    simp only [Sparse.keep] at ih ⊢
    rw [List.filter_cons]
    by_cases hj : j = k
    · subst hj
      by_cases hp : p j = true
      · simp [hp, Sparse.get]
      · simp only [hp]
        simp [ih, hp]
    · by_cases hp : p j = true
      · simp [hp, Sparse.get, hj, ih]
      · simp [hp, Sparse.get, hj, ih]

omit [DecidableEq α] in
theorem Sparse.get_insert_same (dflt : Nat → α) (m : Sparse α) (k : Nat) (v : α) :
    Sparse.get dflt (Sparse.insert m k v) k = v := by
  induction m with
  | nil => simp [Sparse.insert, Sparse.get]
  | cons e m ih =>
    obtain ⟨j, w⟩ := e
    simp only [Sparse.insert]
    split
    · simp [Sparse.get]
    · split
      · simp [Sparse.get]
      · rename_i hk
        rw [Sparse.get_cons, if_neg (Ne.symm hk)]
        exact ih

omit [DecidableEq α] in
theorem Sparse.get_insert_other (dflt : Nat → α) (m : Sparse α) (k i : Nat) (v : α) (h : i ≠ k) :
    Sparse.get dflt (Sparse.insert m k v) i = Sparse.get dflt m i := by
  induction m with
  | nil => simp [Sparse.insert, Sparse.get, Ne.symm h]
  | cons e m ih =>
    obtain ⟨j, w⟩ := e
    simp only [Sparse.insert]
    split
    · simp [Sparse.get, Ne.symm h]
    · split
      · rename_i hk
        subst hk
        simp [Sparse.get, Ne.symm h]
      · simp only [Sparse.get, ih]

/-- Reading the key just written gives the value written. -/
@[simp] theorem Sparse.get_put_same (dflt : Nat → α) (m : Sparse α) (k : Nat) (v : α) :
    Sparse.get dflt (Sparse.put dflt m k v) k = v := by
  unfold Sparse.put
  split
  · rename_i h
    simp [Sparse.get_keep, h]
  · exact Sparse.get_insert_same dflt m k v

/-- A write leaves every other key alone. -/
theorem Sparse.get_put_other (dflt : Nat → α) (m : Sparse α) (k i : Nat) (v : α) (h : i ≠ k) :
    Sparse.get dflt (Sparse.put dflt m k v) i = Sparse.get dflt m i := by
  unfold Sparse.put
  split
  · simp [Sparse.get_keep, h]
  · exact Sparse.get_insert_other dflt m k i v h

omit [DecidableEq α] in
theorem Sparse.insert_above (m : Sparse α) (b k : Nat) (v : α) (hb : b < k) (h : Sparse.above b m) :
    Sparse.above b (Sparse.insert m k v) := by
  induction m with
  | nil =>
    intro e he
    simp only [Sparse.insert, List.mem_singleton] at he
    subst he
    exact hb
  | cons e m ih =>
    obtain ⟨j, w⟩ := e
    have hm : Sparse.above b m := fun e he => h e (by simp [he])
    have hj : b < j := h (j, w) (by simp)
    simp only [Sparse.insert]
    split
    · intro e he
      rcases List.mem_cons.mp he with rfl | he
      · exact hb
      · exact h e he
    · split
      · intro e he
        rcases List.mem_cons.mp he with rfl | he
        · exact hb
        · exact hm e he
      · intro e he
        rcases List.mem_cons.mp he with rfl | he
        · exact hj
        · exact ih hm e he

theorem Sparse.insert_wf (dflt : Nat → α) (m : Sparse α) (k : Nat) (v : α) (hv : v ≠ dflt k)
    (h : Sparse.wf dflt m = true) : Sparse.wf dflt (Sparse.insert m k v) = true := by
  induction m with
  | nil => simp [Sparse.insert, Sparse.wf, Sparse.rising, hv]
  | cons e m ih =>
    obtain ⟨j, w⟩ := e
    obtain ⟨hr, hd⟩ := (Sparse.wf_iff _ _).mp h
    obtain ⟨ha, hrm⟩ := (Sparse.rising_cons _ _).mp hr
    have hdm : ∀ e ∈ m, e.2 ≠ dflt e.1 := fun e he => hd e (by simp [he])
    have hm : Sparse.wf dflt m = true := (Sparse.wf_iff _ _).mpr ⟨hrm, hdm⟩
    simp only [Sparse.insert]
    split
    · rename_i hk
      refine (Sparse.wf_iff _ _).mpr ⟨(Sparse.rising_cons _ _).mpr ⟨?_, hr⟩, ?_⟩
      · intro e he
        rcases List.mem_cons.mp he with rfl | he
        · exact hk
        · exact Nat.lt_trans hk (ha e he)
      · intro e he
        rcases List.mem_cons.mp he with rfl | he
        · exact hv
        · exact hd e he
    · split
      · rename_i hk
        subst hk
        refine (Sparse.wf_iff _ _).mpr ⟨(Sparse.rising_cons _ _).mpr ⟨ha, hrm⟩, ?_⟩
        intro e he
        rcases List.mem_cons.mp he with rfl | he
        · exact hv
        · exact hdm e he
      · rename_i hk hne
        have hjk : j < k := by omega
        have h' := (Sparse.wf_iff _ _).mp (ih hm)
        refine (Sparse.wf_iff _ _).mpr ⟨(Sparse.rising_cons _ _).mpr ⟨Sparse.insert_above m j k v hjk ha, h'.1⟩, ?_⟩
        intro e he
        rcases List.mem_cons.mp he with rfl | he
        · exact hd (j, w) (by simp)
        · exact h'.2 e he

/-- A write keeps the canonical form. -/
theorem Sparse.put_wf (dflt : Nat → α) (m : Sparse α) (k : Nat) (v : α) (h : Sparse.wf dflt m = true) :
    Sparse.wf dflt (Sparse.put dflt m k v) = true := by
  unfold Sparse.put
  split
  · exact Sparse.keep_wf dflt _ m h
  · rename_i hv
    exact Sparse.insert_wf dflt m k v hv h

theorem Sparse.entries_range (dflt : Nat → α) (k : Nat) (vs : List α) :
    ∀ e ∈ Sparse.entries dflt k vs, k ≤ e.1 ∧ e.1 < k + vs.length := by
  induction vs generalizing k with
  | nil => simp [Sparse.entries]
  | cons v vs ih =>
    intro e he
    have hi := ih (k + 1)
    simp only [Sparse.entries] at he
    split at he
    · have := hi e he
      simp only [List.length_cons]
      omega
    · rcases List.mem_cons.mp he with rfl | he
      · simp
      · have := hi e he
        simp only [List.length_cons]
        omega

theorem Sparse.entries_wf (dflt : Nat → α) (k : Nat) (vs : List α) :
    Sparse.wf dflt (Sparse.entries dflt k vs) = true := by
  induction vs generalizing k with
  | nil => rfl
  | cons v vs ih =>
    simp only [Sparse.entries]
    split
    · exact ih (k + 1)
    · rename_i hv
      have h := (Sparse.wf_iff _ _).mp (ih (k + 1))
      refine (Sparse.wf_iff _ _).mpr ⟨(Sparse.rising_cons _ _).mpr ⟨?_, h.1⟩, ?_⟩
      · intro e he
        have := Sparse.entries_range dflt (k + 1) vs e he
        show k < e.1
        omega
      · intro e he
        rcases List.mem_cons.mp he with rfl | he
        · exact hv
        · exact h.2 e he

theorem Sparse.wf_append (dflt : Nat → α) (a b : Sparse α) (ha : Sparse.wf dflt a = true) (hb : Sparse.wf dflt b = true)
    (h : ∀ x ∈ a, ∀ y ∈ b, x.1 < y.1) : Sparse.wf dflt (a ++ b) = true := by
  induction a with
  | nil => exact hb
  | cons e a ih =>
    obtain ⟨hr, hd⟩ := (Sparse.wf_iff _ _).mp ha
    obtain ⟨hab, hra⟩ := (Sparse.rising_cons _ _).mp hr
    have h1 : Sparse.wf dflt a = true := (Sparse.wf_iff _ _).mpr ⟨hra, fun f hf => hd f (by simp [hf])⟩
    have h2 := (Sparse.wf_iff _ _).mp (ih h1 fun x hx y hy => h x (by simp [hx]) y hy)
    refine (Sparse.wf_iff _ _).mpr ⟨(Sparse.rising_cons _ _).mpr ⟨?_, h2.1⟩, ?_⟩
    · intro f hf
      rcases List.mem_append.mp hf with hf | hf
      · exact hab f hf
      · exact h e (by simp) f hf
    · intro f hf
      rcases List.mem_cons.mp hf with rfl | hf
      · exact hd f (by simp)
      · exact h2.2 f hf

/-- Writing a run of values keeps the canonical form. -/
theorem Sparse.putAll_wf (dflt : Nat → α) (m : Sparse α) (k : Nat) (vs : List α) (h : Sparse.wf dflt m = true) :
    Sparse.wf dflt (Sparse.putAll dflt m k vs) = true := by
  have hlow : ∀ x ∈ Sparse.keep (fun j => decide (j < k)) m, x.1 < k := by
    intro x hx
    have := (List.mem_filter.mp hx).2
    simpa using this
  have hhigh : ∀ x ∈ Sparse.keep (fun j => decide (k + vs.length ≤ j)) m, k + vs.length ≤ x.1 := by
    intro x hx
    have := (List.mem_filter.mp hx).2
    simpa using this
  simp only [Sparse.putAll]
  refine Sparse.wf_append dflt _ _ (Sparse.keep_wf dflt _ m h)
    (Sparse.wf_append dflt _ _ (Sparse.entries_wf dflt k vs) (Sparse.keep_wf dflt _ m h) ?_) ?_
  · intro x hx y hy
    have h1 := Sparse.entries_range dflt k vs x hx
    have h2 := hhigh y hy
    omega
  · intro x hx y hy
    have h1 := hlow x hx
    rcases List.mem_append.mp hy with hy | hy
    · have h2 := Sparse.entries_range dflt k vs y hy
      omega
    · have h2 := hhigh y hy
      omega

omit [DecidableEq α] in
theorem Sparse.get_append_left (dflt : Nat → α) (a b : Sparse α) (k : Nat) (h : ∀ e ∈ b, e.1 ≠ k) :
    Sparse.get dflt (a ++ b) k = Sparse.get dflt a k := by
  induction a with
  | nil => exact Sparse.get_of_not_mem dflt b k h
  | cons e a ih =>
    obtain ⟨j, v⟩ := e
    simp only [List.cons_append, Sparse.get, ih]

omit [DecidableEq α] in
theorem Sparse.get_append_right (dflt : Nat → α) (a b : Sparse α) (k : Nat) (h : ∀ e ∈ a, e.1 ≠ k) :
    Sparse.get dflt (a ++ b) k = Sparse.get dflt b k := by
  induction a with
  | nil => rfl
  | cons e a ih =>
    obtain ⟨j, v⟩ := e
    simp only [List.cons_append, Sparse.get]
    rw [if_neg (h (j, v) (by simp))]
    exact ih fun e he => h e (by simp [he])

theorem Sparse.get_entries (dflt : Nat → α) (k : Nat) (vs : List α) (i : Nat) :
    Sparse.get dflt (Sparse.entries dflt k vs) i =
      if k ≤ i then vs.getD (i - k) (dflt i) else dflt i := by
  induction vs generalizing k with
  | nil => simp [Sparse.entries]
  | cons v vs ih =>
    simp only [Sparse.entries]
    by_cases hik : i = k
    · subst hik
      split
      · rename_i hv
        rw [ih, if_neg (by omega)]
        simp [hv]
      · simp [Sparse.get]
    · have hrest : Sparse.get dflt (Sparse.entries dflt (k + 1) vs) i =
          if k ≤ i then (v :: vs).getD (i - k) (dflt i) else dflt i := by
        rw [ih]
        by_cases hki : k ≤ i
        · have h1 : k + 1 ≤ i := by omega
          have h2 : i - k = (i - (k + 1)) + 1 := by omega
          simp only [h1, hki, if_true, h2, List.getD_cons_succ]
        · have h1 : ¬ k + 1 ≤ i := by omega
          simp only [h1, hki, if_false]
      split
      · exact hrest
      · rw [Sparse.get_cons, if_neg (Ne.symm hik)]
        exact hrest

/-- Reading after a run of values was written at `k`: the run where it lies, the store as before elsewhere. -/
theorem Sparse.get_putAll (dflt : Nat → α) (m : Sparse α) (k : Nat) (vs : List α) (i : Nat) :
    Sparse.get dflt (Sparse.putAll dflt m k vs) i =
      if k ≤ i ∧ i < k + vs.length then vs.getD (i - k) (dflt i) else Sparse.get dflt m i := by
  have hlow : ∀ x ∈ Sparse.keep (fun j => decide (j < k)) m, x.1 < k := by
    intro x hx
    have := (List.mem_filter.mp hx).2
    simpa using this
  have hhigh : ∀ x ∈ Sparse.keep (fun j => decide (k + vs.length ≤ j)) m, k + vs.length ≤ x.1 := by
    intro x hx
    have := (List.mem_filter.mp hx).2
    simpa using this
  simp only [Sparse.putAll]
  by_cases h1 : i < k
  · rw [Sparse.get_append_left, Sparse.get_keep]
    · have : ¬ (k ≤ i ∧ i < k + vs.length) := by omega
      simp [h1, this]
    · intro e he
      rcases List.mem_append.mp he with he | he
      · have := Sparse.entries_range dflt k vs e he
        omega
      · have := hhigh e he
        omega
  · rw [Sparse.get_append_right]
    · by_cases h2 : i < k + vs.length
      · rw [Sparse.get_append_left, Sparse.get_entries]
        · have h3 : k ≤ i := by omega
          simp [h2, h3]
        · intro e he
          have := hhigh e he
          omega
      · rw [Sparse.get_append_right, Sparse.get_keep]
        · have h3 : k + vs.length ≤ i := by omega
          have h4 : ¬ (k ≤ i ∧ i < k + vs.length) := by omega
          simp [h3, h4]
        · intro e he
          have := Sparse.entries_range dflt k vs e he
          omega
    · intro e he
      have := hlow e he
      omega

end Sys2Proof.Machine
end

