-- ==== Sys2Proof/Laws/State.lean ====
section
/-! SUPPORT. What each update of the device leaves of every field, and what a register or a field reads after a write. -/

namespace Sys2Proof.Machine

variable (d : Device) (f g : Fld) (a b v n : Nat) (x : W32) (p : Bool)

/-! ### The register file -/

theorem Device.word_eq : d.word a = Sparse.get resetWord d.regs a := rfl

/-- The word of a record that is written out. -/
@[simp] theorem Device.get_regs : Sparse.get resetWord d.regs a = d.word a := rfl

/-- The live word of a record that is written out. -/
@[simp] theorem Device.get_live : Sparse.get resetWord d.live a = d.liveWord a := rfl

@[simp] theorem Device.word_setWord_same : (d.setWord a x).word a = x := Sparse.get_put_same _ _ _ _

theorem Device.word_setWord_other (h : b ≠ a) : (d.setWord a x).word b = d.word b :=
  Sparse.get_put_other _ _ _ _ _ h

@[simp] theorem Device.word_set_same : (d.set f v).word f.addr = f.into (d.word f.addr) v :=
  Device.word_setWord_same _ _ _

theorem Device.word_set_other (h : b ≠ f.addr) : (d.set f v).word b = d.word b :=
  Device.word_setWord_other _ _ _ _ h

/-- A field reads as the low bits of what was written to it. -/
theorem Device.get_set_same (h : f.fits) : (d.set f v).get f = v % 2 ^ f.w := by
  rw [Device.get, Device.word_set_same, Fld.of_into f _ v h]

/-- A write to one register leaves every field of the others. -/
theorem Device.get_set_other (h : g.addr ≠ f.addr) : (d.set f v).get g = d.get g := by
  rw [Device.get, Device.word_set_other d f g.addr v h]
  rfl

/-- A write to a field leaves the other fields of its register. -/
theorem Device.get_set_apart (hf : f.fits) (h : g.addr ≠ f.addr ∨ f.apart g) : (d.set f v).get g = d.get g := by
  by_cases ha : g.addr = f.addr
  · rw [Device.get, ha, Device.word_set_same, Fld.of_into_apart f g _ v hf (h.resolve_left fun hn => hn ha), ← ha]
    rfl
  · exact Device.get_set_other d f g v ha

theorem Device.get_lt : d.get f < 2 ^ f.w := Fld.of_lt _ _

theorem Device.flag_eq : d.flag f = (d.get f != 0) := rfl

theorem Device.put_eq : d.put f p = d.set f (if p then 1 else 0) := rfl

theorem Device.add_eq : d.add f n = d.set f (satU f.w (d.get f + n)) := rfl

theorem Device.inc_eq : d.inc f = d.set f (satU f.w (d.get f + 1)) := rfl

theorem Device.incMod_eq : d.incMod f = d.set f (d.get f + 1) := rfl

theorem Device.setBit_eq : d.setBit f n = (d.set f (d.get f ||| 2 ^ n)).heat f.addr (f.lo + n) (decide (n < f.w)) := rfl

theorem Device.setPair_eq : d.setPair f g v = (d.set f (v % 2 ^ 32)).set g (v / 2 ^ 32) := rfl

theorem Device.pair_eq : d.pair f g = d.get f + 2 ^ 32 * d.get g := rfl

theorem Device.get_put_same (h : f.fits) (hw : 0 < f.w) : (d.put f p).get f = if p then 1 else 0 := by
  have h2 : 2 ≤ 2 ^ f.w := by
    calc 2 = 2 ^ 1 := rfl
      _ ≤ 2 ^ f.w := Nat.pow_le_pow_right (by omega) hw
  rw [Device.put_eq, Device.get_set_same d f _ h]
  cases p
  · exact Nat.zero_mod _
  · exact Nat.mod_eq_of_lt h2

theorem Device.flag_put_same (h : f.fits) (hw : 0 < f.w) : (d.put f p).flag f = p := by
  rw [Device.flag_eq, Device.get_put_same d f p h hw]
  cases p <;> rfl

theorem satU_lt (w k : Nat) : satU w k < 2 ^ w := by
  have := satU_le w k
  have := Nat.two_pow_pos w
  omega

/-- A saturating counter after adding. -/
theorem Device.get_add_same (h : f.fits) : (d.add f n).get f = satU f.w (d.get f + n) := by
  rw [Device.add_eq, Device.get_set_same d f _ h]
  exact Nat.mod_eq_of_lt (satU_lt _ _)

/-- A saturating counter after counting one. -/
theorem Device.get_inc_same (h : f.fits) : (d.inc f).get f = satU f.w (d.get f + 1) := Device.get_add_same d f 1 h

/-- A 64-bit pair reads back what was written. -/
theorem Device.pair_setPair (hf : f.lo = 0 ∧ f.w = 32) (hg : g.lo = 0 ∧ g.w = 32) (h : f.addr ≠ g.addr) (hv : v < 2 ^ 64) :
    (d.setPair f g v).pair f g = v := by
  have h1 : f.fits := by simp [Fld.fits, hf]
  have h2 : g.fits := by simp [Fld.fits, hg]
  rw [Device.pair_eq, Device.setPair_eq, Device.get_set_same _ g _ h2, Device.get_set_other _ g f _ h,
    Device.get_set_same _ f _ h1, hf.2, hg.2]
  omega


/-! ### Updates of other fields do not touch the register file, updates of the register file nothing else -/

@[simp] theorem Device.setWord_held : (d.setWord a x).held = d.held := (rfl)
@[simp] theorem Device.setWord_powered : (d.setWord a x).powered = d.powered := (rfl)
@[simp] theorem Device.setWord_testen : (d.setWord a x).testen = d.testen := (rfl)
@[simp] theorem Device.setWord_freeN : (d.setWord a x).freeN = d.freeN := (rfl)
@[simp] theorem Device.setWord_tm : (d.setWord a x).tm = d.tm := (rfl)
@[simp] theorem Device.setWord_hot : (d.setWord a x).hot = d.hot := (rfl)
@[simp] theorem Device.setWord_live : (d.setWord a x).live = d.live := (rfl)
@[simp] theorem Device.setWord_rlatch : (d.setWord a x).rlatch = d.rlatch := (rfl)
@[simp] theorem Device.setWord_wlatch : (d.setWord a x).wlatch = d.wlatch := (rfl)
@[simp] theorem Device.setWord_lanes : (d.setWord a x).lanes = d.lanes := (rfl)
@[simp] theorem Device.setWord_ports : (d.setWord a x).ports = d.ports := (rfl)
@[simp] theorem Device.setWord_creel : (d.setWord a x).creel = d.creel := (rfl)
@[simp] theorem Device.setWord_looms : (d.setWord a x).looms = d.looms := (rfl)
@[simp] theorem Device.setWord_apu : (d.setWord a x).apu = d.apu := (rfl)
@[simp] theorem Device.setWord_sheds : (d.setWord a x).sheds = d.sheds := (rfl)
@[simp] theorem Device.setWord_setter : (d.setWord a x).setter = d.setter := (rfl)
@[simp] theorem Device.setWord_beams : (d.setWord a x).beams = d.beams := (rfl)
@[simp] theorem Device.setWord_apBuf : (d.setWord a x).apBuf = d.apBuf := (rfl)
@[simp] theorem Device.setWord_chains : (d.setWord a x).chains = d.chains := (rfl)
@[simp] theorem Device.setWord_engines : (d.setWord a x).engines = d.engines := (rfl)
@[simp] theorem Device.setWord_jrn : (d.setWord a x).jrn = d.jrn := (rfl)
@[simp] theorem Device.setWord_queues : (d.setWord a x).queues = d.queues := (rfl)
@[simp] theorem Device.setWord_cloth : (d.setWord a x).cloth = d.cloth := (rfl)
@[simp] theorem Device.setWord_drafts : (d.setWord a x).drafts = d.drafts := (rfl)
@[simp] theorem Device.setWord_mem : (d.setWord a x).mem = d.mem := (rfl)
@[simp] theorem Device.setWord_poison : (d.setWord a x).poison = d.poison := (rfl)
@[simp] theorem Device.setWord_drm : (d.setWord a x).drm = d.drm := (rfl)
@[simp] theorem Device.setWord_ref : (d.setWord a x).ref = d.ref := (rfl)
@[simp] theorem Device.setWord_rsq : (d.setWord a x).rsq = d.rsq := (rfl)
@[simp] theorem Device.setWord_boot : (d.setWord a x).boot = d.boot := (rfl)
@[simp] theorem Device.setWord_hdl : (d.setWord a x).hdl = d.hdl := (rfl)
@[simp] theorem Device.setWord_sup : (d.setWord a x).sup = d.sup := (rfl)
@[simp] theorem Device.setWord_trigAck : (d.setWord a x).trigAck = d.trigAck := (rfl)

@[simp] theorem Device.set_held : (d.set f v).held = d.held := (rfl)
@[simp] theorem Device.set_powered : (d.set f v).powered = d.powered := (rfl)
@[simp] theorem Device.set_testen : (d.set f v).testen = d.testen := (rfl)
@[simp] theorem Device.set_freeN : (d.set f v).freeN = d.freeN := (rfl)
@[simp] theorem Device.set_tm : (d.set f v).tm = d.tm := (rfl)
@[simp] theorem Device.set_live : (d.set f v).live = d.live := (rfl)
@[simp] theorem Device.set_rlatch : (d.set f v).rlatch = d.rlatch := (rfl)
@[simp] theorem Device.set_wlatch : (d.set f v).wlatch = d.wlatch := (rfl)
@[simp] theorem Device.set_lanes : (d.set f v).lanes = d.lanes := (rfl)
@[simp] theorem Device.set_ports : (d.set f v).ports = d.ports := (rfl)
@[simp] theorem Device.set_creel : (d.set f v).creel = d.creel := (rfl)
@[simp] theorem Device.set_looms : (d.set f v).looms = d.looms := (rfl)
@[simp] theorem Device.set_apu : (d.set f v).apu = d.apu := (rfl)
@[simp] theorem Device.set_sheds : (d.set f v).sheds = d.sheds := (rfl)
@[simp] theorem Device.set_setter : (d.set f v).setter = d.setter := (rfl)
@[simp] theorem Device.set_beams : (d.set f v).beams = d.beams := (rfl)
@[simp] theorem Device.set_apBuf : (d.set f v).apBuf = d.apBuf := (rfl)
@[simp] theorem Device.set_chains : (d.set f v).chains = d.chains := (rfl)
@[simp] theorem Device.set_engines : (d.set f v).engines = d.engines := (rfl)
@[simp] theorem Device.set_jrn : (d.set f v).jrn = d.jrn := (rfl)
@[simp] theorem Device.set_queues : (d.set f v).queues = d.queues := (rfl)
@[simp] theorem Device.set_cloth : (d.set f v).cloth = d.cloth := (rfl)
@[simp] theorem Device.set_drafts : (d.set f v).drafts = d.drafts := (rfl)
@[simp] theorem Device.set_mem : (d.set f v).mem = d.mem := (rfl)
@[simp] theorem Device.set_poison : (d.set f v).poison = d.poison := (rfl)
@[simp] theorem Device.set_drm : (d.set f v).drm = d.drm := (rfl)
@[simp] theorem Device.set_ref : (d.set f v).ref = d.ref := (rfl)
@[simp] theorem Device.set_rsq : (d.set f v).rsq = d.rsq := (rfl)
@[simp] theorem Device.set_boot : (d.set f v).boot = d.boot := (rfl)
@[simp] theorem Device.set_hdl : (d.set f v).hdl = d.hdl := (rfl)
@[simp] theorem Device.set_sup : (d.set f v).sup = d.sup := (rfl)
@[simp] theorem Device.set_trigAck : (d.set f v).trigAck = d.trigAck := (rfl)

@[simp] theorem Device.put_held : (d.put f p).held = d.held := (rfl)
@[simp] theorem Device.put_powered : (d.put f p).powered = d.powered := (rfl)
@[simp] theorem Device.put_testen : (d.put f p).testen = d.testen := (rfl)
@[simp] theorem Device.put_freeN : (d.put f p).freeN = d.freeN := (rfl)
@[simp] theorem Device.put_tm : (d.put f p).tm = d.tm := (rfl)
@[simp] theorem Device.put_live : (d.put f p).live = d.live := (rfl)
@[simp] theorem Device.put_rlatch : (d.put f p).rlatch = d.rlatch := (rfl)
@[simp] theorem Device.put_wlatch : (d.put f p).wlatch = d.wlatch := (rfl)
@[simp] theorem Device.put_lanes : (d.put f p).lanes = d.lanes := (rfl)
@[simp] theorem Device.put_ports : (d.put f p).ports = d.ports := (rfl)
@[simp] theorem Device.put_creel : (d.put f p).creel = d.creel := (rfl)
@[simp] theorem Device.put_looms : (d.put f p).looms = d.looms := (rfl)
@[simp] theorem Device.put_apu : (d.put f p).apu = d.apu := (rfl)
@[simp] theorem Device.put_sheds : (d.put f p).sheds = d.sheds := (rfl)
@[simp] theorem Device.put_setter : (d.put f p).setter = d.setter := (rfl)
@[simp] theorem Device.put_beams : (d.put f p).beams = d.beams := (rfl)
@[simp] theorem Device.put_apBuf : (d.put f p).apBuf = d.apBuf := (rfl)
@[simp] theorem Device.put_chains : (d.put f p).chains = d.chains := (rfl)
@[simp] theorem Device.put_engines : (d.put f p).engines = d.engines := (rfl)
@[simp] theorem Device.put_jrn : (d.put f p).jrn = d.jrn := (rfl)
@[simp] theorem Device.put_queues : (d.put f p).queues = d.queues := (rfl)
@[simp] theorem Device.put_cloth : (d.put f p).cloth = d.cloth := (rfl)
@[simp] theorem Device.put_drafts : (d.put f p).drafts = d.drafts := (rfl)
@[simp] theorem Device.put_mem : (d.put f p).mem = d.mem := (rfl)
@[simp] theorem Device.put_poison : (d.put f p).poison = d.poison := (rfl)
@[simp] theorem Device.put_drm : (d.put f p).drm = d.drm := (rfl)
@[simp] theorem Device.put_ref : (d.put f p).ref = d.ref := (rfl)
@[simp] theorem Device.put_rsq : (d.put f p).rsq = d.rsq := (rfl)
@[simp] theorem Device.put_boot : (d.put f p).boot = d.boot := (rfl)
@[simp] theorem Device.put_hdl : (d.put f p).hdl = d.hdl := (rfl)
@[simp] theorem Device.put_sup : (d.put f p).sup = d.sup := (rfl)
@[simp] theorem Device.put_trigAck : (d.put f p).trigAck = d.trigAck := (rfl)

@[simp] theorem Device.add_held : (d.add f n).held = d.held := (rfl)
@[simp] theorem Device.add_powered : (d.add f n).powered = d.powered := (rfl)
@[simp] theorem Device.add_testen : (d.add f n).testen = d.testen := (rfl)
@[simp] theorem Device.add_freeN : (d.add f n).freeN = d.freeN := (rfl)
@[simp] theorem Device.add_tm : (d.add f n).tm = d.tm := (rfl)
@[simp] theorem Device.add_live : (d.add f n).live = d.live := (rfl)
@[simp] theorem Device.add_rlatch : (d.add f n).rlatch = d.rlatch := (rfl)
@[simp] theorem Device.add_wlatch : (d.add f n).wlatch = d.wlatch := (rfl)
@[simp] theorem Device.add_lanes : (d.add f n).lanes = d.lanes := (rfl)
@[simp] theorem Device.add_ports : (d.add f n).ports = d.ports := (rfl)
@[simp] theorem Device.add_creel : (d.add f n).creel = d.creel := (rfl)
@[simp] theorem Device.add_looms : (d.add f n).looms = d.looms := (rfl)
@[simp] theorem Device.add_apu : (d.add f n).apu = d.apu := (rfl)
@[simp] theorem Device.add_sheds : (d.add f n).sheds = d.sheds := (rfl)
@[simp] theorem Device.add_setter : (d.add f n).setter = d.setter := (rfl)
@[simp] theorem Device.add_beams : (d.add f n).beams = d.beams := (rfl)
@[simp] theorem Device.add_apBuf : (d.add f n).apBuf = d.apBuf := (rfl)
@[simp] theorem Device.add_chains : (d.add f n).chains = d.chains := (rfl)
@[simp] theorem Device.add_engines : (d.add f n).engines = d.engines := (rfl)
@[simp] theorem Device.add_jrn : (d.add f n).jrn = d.jrn := (rfl)
@[simp] theorem Device.add_queues : (d.add f n).queues = d.queues := (rfl)
@[simp] theorem Device.add_cloth : (d.add f n).cloth = d.cloth := (rfl)
@[simp] theorem Device.add_drafts : (d.add f n).drafts = d.drafts := (rfl)
@[simp] theorem Device.add_mem : (d.add f n).mem = d.mem := (rfl)
@[simp] theorem Device.add_poison : (d.add f n).poison = d.poison := (rfl)
@[simp] theorem Device.add_drm : (d.add f n).drm = d.drm := (rfl)
@[simp] theorem Device.add_ref : (d.add f n).ref = d.ref := (rfl)
@[simp] theorem Device.add_rsq : (d.add f n).rsq = d.rsq := (rfl)
@[simp] theorem Device.add_boot : (d.add f n).boot = d.boot := (rfl)
@[simp] theorem Device.add_hdl : (d.add f n).hdl = d.hdl := (rfl)
@[simp] theorem Device.add_sup : (d.add f n).sup = d.sup := (rfl)
@[simp] theorem Device.add_trigAck : (d.add f n).trigAck = d.trigAck := (rfl)

@[simp] theorem Device.inc_held : (d.inc f).held = d.held := (rfl)
@[simp] theorem Device.inc_powered : (d.inc f).powered = d.powered := (rfl)
@[simp] theorem Device.inc_testen : (d.inc f).testen = d.testen := (rfl)
@[simp] theorem Device.inc_freeN : (d.inc f).freeN = d.freeN := (rfl)
@[simp] theorem Device.inc_tm : (d.inc f).tm = d.tm := (rfl)
@[simp] theorem Device.inc_live : (d.inc f).live = d.live := (rfl)
@[simp] theorem Device.inc_rlatch : (d.inc f).rlatch = d.rlatch := (rfl)
@[simp] theorem Device.inc_wlatch : (d.inc f).wlatch = d.wlatch := (rfl)
@[simp] theorem Device.inc_lanes : (d.inc f).lanes = d.lanes := (rfl)
@[simp] theorem Device.inc_ports : (d.inc f).ports = d.ports := (rfl)
@[simp] theorem Device.inc_creel : (d.inc f).creel = d.creel := (rfl)
@[simp] theorem Device.inc_looms : (d.inc f).looms = d.looms := (rfl)
@[simp] theorem Device.inc_apu : (d.inc f).apu = d.apu := (rfl)
@[simp] theorem Device.inc_sheds : (d.inc f).sheds = d.sheds := (rfl)
@[simp] theorem Device.inc_setter : (d.inc f).setter = d.setter := (rfl)
@[simp] theorem Device.inc_beams : (d.inc f).beams = d.beams := (rfl)
@[simp] theorem Device.inc_apBuf : (d.inc f).apBuf = d.apBuf := (rfl)
@[simp] theorem Device.inc_chains : (d.inc f).chains = d.chains := (rfl)
@[simp] theorem Device.inc_engines : (d.inc f).engines = d.engines := (rfl)
@[simp] theorem Device.inc_jrn : (d.inc f).jrn = d.jrn := (rfl)
@[simp] theorem Device.inc_queues : (d.inc f).queues = d.queues := (rfl)
@[simp] theorem Device.inc_cloth : (d.inc f).cloth = d.cloth := (rfl)
@[simp] theorem Device.inc_drafts : (d.inc f).drafts = d.drafts := (rfl)
@[simp] theorem Device.inc_mem : (d.inc f).mem = d.mem := (rfl)
@[simp] theorem Device.inc_poison : (d.inc f).poison = d.poison := (rfl)
@[simp] theorem Device.inc_drm : (d.inc f).drm = d.drm := (rfl)
@[simp] theorem Device.inc_ref : (d.inc f).ref = d.ref := (rfl)
@[simp] theorem Device.inc_rsq : (d.inc f).rsq = d.rsq := (rfl)
@[simp] theorem Device.inc_boot : (d.inc f).boot = d.boot := (rfl)
@[simp] theorem Device.inc_hdl : (d.inc f).hdl = d.hdl := (rfl)
@[simp] theorem Device.inc_sup : (d.inc f).sup = d.sup := (rfl)
@[simp] theorem Device.inc_trigAck : (d.inc f).trigAck = d.trigAck := (rfl)

@[simp] theorem Device.incMod_held : (d.incMod f).held = d.held := (rfl)
@[simp] theorem Device.incMod_powered : (d.incMod f).powered = d.powered := (rfl)
@[simp] theorem Device.incMod_testen : (d.incMod f).testen = d.testen := (rfl)
@[simp] theorem Device.incMod_freeN : (d.incMod f).freeN = d.freeN := (rfl)
@[simp] theorem Device.incMod_tm : (d.incMod f).tm = d.tm := (rfl)
@[simp] theorem Device.incMod_live : (d.incMod f).live = d.live := (rfl)
@[simp] theorem Device.incMod_rlatch : (d.incMod f).rlatch = d.rlatch := (rfl)
@[simp] theorem Device.incMod_wlatch : (d.incMod f).wlatch = d.wlatch := (rfl)
@[simp] theorem Device.incMod_lanes : (d.incMod f).lanes = d.lanes := (rfl)
@[simp] theorem Device.incMod_ports : (d.incMod f).ports = d.ports := (rfl)
@[simp] theorem Device.incMod_creel : (d.incMod f).creel = d.creel := (rfl)
@[simp] theorem Device.incMod_looms : (d.incMod f).looms = d.looms := (rfl)
@[simp] theorem Device.incMod_apu : (d.incMod f).apu = d.apu := (rfl)
@[simp] theorem Device.incMod_sheds : (d.incMod f).sheds = d.sheds := (rfl)
@[simp] theorem Device.incMod_setter : (d.incMod f).setter = d.setter := (rfl)
@[simp] theorem Device.incMod_beams : (d.incMod f).beams = d.beams := (rfl)
@[simp] theorem Device.incMod_apBuf : (d.incMod f).apBuf = d.apBuf := (rfl)
@[simp] theorem Device.incMod_chains : (d.incMod f).chains = d.chains := (rfl)
@[simp] theorem Device.incMod_engines : (d.incMod f).engines = d.engines := (rfl)
@[simp] theorem Device.incMod_jrn : (d.incMod f).jrn = d.jrn := (rfl)
@[simp] theorem Device.incMod_queues : (d.incMod f).queues = d.queues := (rfl)
@[simp] theorem Device.incMod_cloth : (d.incMod f).cloth = d.cloth := (rfl)
@[simp] theorem Device.incMod_drafts : (d.incMod f).drafts = d.drafts := (rfl)
@[simp] theorem Device.incMod_mem : (d.incMod f).mem = d.mem := (rfl)
@[simp] theorem Device.incMod_poison : (d.incMod f).poison = d.poison := (rfl)
@[simp] theorem Device.incMod_drm : (d.incMod f).drm = d.drm := (rfl)
@[simp] theorem Device.incMod_ref : (d.incMod f).ref = d.ref := (rfl)
@[simp] theorem Device.incMod_rsq : (d.incMod f).rsq = d.rsq := (rfl)
@[simp] theorem Device.incMod_boot : (d.incMod f).boot = d.boot := (rfl)
@[simp] theorem Device.incMod_hdl : (d.incMod f).hdl = d.hdl := (rfl)
@[simp] theorem Device.incMod_sup : (d.incMod f).sup = d.sup := (rfl)
@[simp] theorem Device.incMod_trigAck : (d.incMod f).trigAck = d.trigAck := (rfl)

@[simp] theorem Device.setBit_held : (d.setBit f n).held = d.held := (rfl)
@[simp] theorem Device.setBit_powered : (d.setBit f n).powered = d.powered := (rfl)
@[simp] theorem Device.setBit_testen : (d.setBit f n).testen = d.testen := (rfl)
@[simp] theorem Device.setBit_freeN : (d.setBit f n).freeN = d.freeN := (rfl)
@[simp] theorem Device.setBit_tm : (d.setBit f n).tm = d.tm := (rfl)
@[simp] theorem Device.setBit_live : (d.setBit f n).live = d.live := (rfl)
@[simp] theorem Device.setBit_rlatch : (d.setBit f n).rlatch = d.rlatch := (rfl)
@[simp] theorem Device.setBit_wlatch : (d.setBit f n).wlatch = d.wlatch := (rfl)
@[simp] theorem Device.setBit_lanes : (d.setBit f n).lanes = d.lanes := (rfl)
@[simp] theorem Device.setBit_ports : (d.setBit f n).ports = d.ports := (rfl)
@[simp] theorem Device.setBit_creel : (d.setBit f n).creel = d.creel := (rfl)
@[simp] theorem Device.setBit_looms : (d.setBit f n).looms = d.looms := (rfl)
@[simp] theorem Device.setBit_apu : (d.setBit f n).apu = d.apu := (rfl)
@[simp] theorem Device.setBit_sheds : (d.setBit f n).sheds = d.sheds := (rfl)
@[simp] theorem Device.setBit_setter : (d.setBit f n).setter = d.setter := (rfl)
@[simp] theorem Device.setBit_beams : (d.setBit f n).beams = d.beams := (rfl)
@[simp] theorem Device.setBit_apBuf : (d.setBit f n).apBuf = d.apBuf := (rfl)
@[simp] theorem Device.setBit_chains : (d.setBit f n).chains = d.chains := (rfl)
@[simp] theorem Device.setBit_engines : (d.setBit f n).engines = d.engines := (rfl)
@[simp] theorem Device.setBit_jrn : (d.setBit f n).jrn = d.jrn := (rfl)
@[simp] theorem Device.setBit_queues : (d.setBit f n).queues = d.queues := (rfl)
@[simp] theorem Device.setBit_cloth : (d.setBit f n).cloth = d.cloth := (rfl)
@[simp] theorem Device.setBit_drafts : (d.setBit f n).drafts = d.drafts := (rfl)
@[simp] theorem Device.setBit_mem : (d.setBit f n).mem = d.mem := (rfl)
@[simp] theorem Device.setBit_poison : (d.setBit f n).poison = d.poison := (rfl)
@[simp] theorem Device.setBit_drm : (d.setBit f n).drm = d.drm := (rfl)
@[simp] theorem Device.setBit_ref : (d.setBit f n).ref = d.ref := (rfl)
@[simp] theorem Device.setBit_rsq : (d.setBit f n).rsq = d.rsq := (rfl)
@[simp] theorem Device.setBit_boot : (d.setBit f n).boot = d.boot := (rfl)
@[simp] theorem Device.setBit_hdl : (d.setBit f n).hdl = d.hdl := (rfl)
@[simp] theorem Device.setBit_sup : (d.setBit f n).sup = d.sup := (rfl)
@[simp] theorem Device.setBit_trigAck : (d.setBit f n).trigAck = d.trigAck := (rfl)

@[simp] theorem Device.setPair_held : (d.setPair f g v).held = d.held := (rfl)
@[simp] theorem Device.setPair_powered : (d.setPair f g v).powered = d.powered := (rfl)
@[simp] theorem Device.setPair_testen : (d.setPair f g v).testen = d.testen := (rfl)
@[simp] theorem Device.setPair_freeN : (d.setPair f g v).freeN = d.freeN := (rfl)
@[simp] theorem Device.setPair_tm : (d.setPair f g v).tm = d.tm := (rfl)
@[simp] theorem Device.setPair_live : (d.setPair f g v).live = d.live := (rfl)
@[simp] theorem Device.setPair_rlatch : (d.setPair f g v).rlatch = d.rlatch := (rfl)
@[simp] theorem Device.setPair_wlatch : (d.setPair f g v).wlatch = d.wlatch := (rfl)
@[simp] theorem Device.setPair_lanes : (d.setPair f g v).lanes = d.lanes := (rfl)
@[simp] theorem Device.setPair_ports : (d.setPair f g v).ports = d.ports := (rfl)
@[simp] theorem Device.setPair_creel : (d.setPair f g v).creel = d.creel := (rfl)
@[simp] theorem Device.setPair_looms : (d.setPair f g v).looms = d.looms := (rfl)
@[simp] theorem Device.setPair_apu : (d.setPair f g v).apu = d.apu := (rfl)
@[simp] theorem Device.setPair_sheds : (d.setPair f g v).sheds = d.sheds := (rfl)
@[simp] theorem Device.setPair_setter : (d.setPair f g v).setter = d.setter := (rfl)
@[simp] theorem Device.setPair_beams : (d.setPair f g v).beams = d.beams := (rfl)
@[simp] theorem Device.setPair_apBuf : (d.setPair f g v).apBuf = d.apBuf := (rfl)
@[simp] theorem Device.setPair_chains : (d.setPair f g v).chains = d.chains := (rfl)
@[simp] theorem Device.setPair_engines : (d.setPair f g v).engines = d.engines := (rfl)
@[simp] theorem Device.setPair_jrn : (d.setPair f g v).jrn = d.jrn := (rfl)
@[simp] theorem Device.setPair_queues : (d.setPair f g v).queues = d.queues := (rfl)
@[simp] theorem Device.setPair_cloth : (d.setPair f g v).cloth = d.cloth := (rfl)
@[simp] theorem Device.setPair_drafts : (d.setPair f g v).drafts = d.drafts := (rfl)
@[simp] theorem Device.setPair_mem : (d.setPair f g v).mem = d.mem := (rfl)
@[simp] theorem Device.setPair_poison : (d.setPair f g v).poison = d.poison := (rfl)
@[simp] theorem Device.setPair_drm : (d.setPair f g v).drm = d.drm := (rfl)
@[simp] theorem Device.setPair_ref : (d.setPair f g v).ref = d.ref := (rfl)
@[simp] theorem Device.setPair_rsq : (d.setPair f g v).rsq = d.rsq := (rfl)
@[simp] theorem Device.setPair_boot : (d.setPair f g v).boot = d.boot := (rfl)
@[simp] theorem Device.setPair_hdl : (d.setPair f g v).hdl = d.hdl := (rfl)
@[simp] theorem Device.setPair_sup : (d.setPair f g v).sup = d.sup := (rfl)
@[simp] theorem Device.setPair_trigAck : (d.setPair f g v).trigAck = d.trigAck := (rfl)

@[simp] theorem Device.setBoth_held : (d.setBoth f v).held = d.held := (rfl)
@[simp] theorem Device.setBoth_powered : (d.setBoth f v).powered = d.powered := (rfl)
@[simp] theorem Device.setBoth_testen : (d.setBoth f v).testen = d.testen := (rfl)
@[simp] theorem Device.setBoth_freeN : (d.setBoth f v).freeN = d.freeN := (rfl)
@[simp] theorem Device.setBoth_tm : (d.setBoth f v).tm = d.tm := (rfl)
@[simp] theorem Device.setBoth_rlatch : (d.setBoth f v).rlatch = d.rlatch := (rfl)
@[simp] theorem Device.setBoth_wlatch : (d.setBoth f v).wlatch = d.wlatch := (rfl)
@[simp] theorem Device.setBoth_lanes : (d.setBoth f v).lanes = d.lanes := (rfl)
@[simp] theorem Device.setBoth_ports : (d.setBoth f v).ports = d.ports := (rfl)
@[simp] theorem Device.setBoth_creel : (d.setBoth f v).creel = d.creel := (rfl)
@[simp] theorem Device.setBoth_looms : (d.setBoth f v).looms = d.looms := (rfl)
@[simp] theorem Device.setBoth_apu : (d.setBoth f v).apu = d.apu := (rfl)
@[simp] theorem Device.setBoth_sheds : (d.setBoth f v).sheds = d.sheds := (rfl)
@[simp] theorem Device.setBoth_setter : (d.setBoth f v).setter = d.setter := (rfl)
@[simp] theorem Device.setBoth_beams : (d.setBoth f v).beams = d.beams := (rfl)
@[simp] theorem Device.setBoth_apBuf : (d.setBoth f v).apBuf = d.apBuf := (rfl)
@[simp] theorem Device.setBoth_chains : (d.setBoth f v).chains = d.chains := (rfl)
@[simp] theorem Device.setBoth_engines : (d.setBoth f v).engines = d.engines := (rfl)
@[simp] theorem Device.setBoth_jrn : (d.setBoth f v).jrn = d.jrn := (rfl)
@[simp] theorem Device.setBoth_queues : (d.setBoth f v).queues = d.queues := (rfl)
@[simp] theorem Device.setBoth_cloth : (d.setBoth f v).cloth = d.cloth := (rfl)
@[simp] theorem Device.setBoth_drafts : (d.setBoth f v).drafts = d.drafts := (rfl)
@[simp] theorem Device.setBoth_mem : (d.setBoth f v).mem = d.mem := (rfl)
@[simp] theorem Device.setBoth_poison : (d.setBoth f v).poison = d.poison := (rfl)
@[simp] theorem Device.setBoth_drm : (d.setBoth f v).drm = d.drm := (rfl)
@[simp] theorem Device.setBoth_ref : (d.setBoth f v).ref = d.ref := (rfl)
@[simp] theorem Device.setBoth_rsq : (d.setBoth f v).rsq = d.rsq := (rfl)
@[simp] theorem Device.setBoth_boot : (d.setBoth f v).boot = d.boot := (rfl)
@[simp] theorem Device.setBoth_hdl : (d.setBoth f v).hdl = d.hdl := (rfl)
@[simp] theorem Device.setBoth_sup : (d.setBoth f v).sup = d.sup := (rfl)
@[simp] theorem Device.setBoth_trigAck : (d.setBoth f v).trigAck = d.trigAck := (rfl)

@[simp] theorem Device.nextFree_held : (d.nextFree).held = d.held := (rfl)
@[simp] theorem Device.nextFree_powered : (d.nextFree).powered = d.powered := (rfl)
@[simp] theorem Device.nextFree_testen : (d.nextFree).testen = d.testen := (rfl)
@[simp] theorem Device.nextFree_tm : (d.nextFree).tm = d.tm := (rfl)
@[simp] theorem Device.nextFree_regs : (d.nextFree).regs = d.regs := (rfl)
@[simp] theorem Device.nextFree_hot : (d.nextFree).hot = d.hot := (rfl)
@[simp] theorem Device.nextFree_live : (d.nextFree).live = d.live := (rfl)
@[simp] theorem Device.nextFree_rlatch : (d.nextFree).rlatch = d.rlatch := (rfl)
@[simp] theorem Device.nextFree_wlatch : (d.nextFree).wlatch = d.wlatch := (rfl)
@[simp] theorem Device.nextFree_lanes : (d.nextFree).lanes = d.lanes := (rfl)
@[simp] theorem Device.nextFree_ports : (d.nextFree).ports = d.ports := (rfl)
@[simp] theorem Device.nextFree_creel : (d.nextFree).creel = d.creel := (rfl)
@[simp] theorem Device.nextFree_looms : (d.nextFree).looms = d.looms := (rfl)
@[simp] theorem Device.nextFree_apu : (d.nextFree).apu = d.apu := (rfl)
@[simp] theorem Device.nextFree_sheds : (d.nextFree).sheds = d.sheds := (rfl)
@[simp] theorem Device.nextFree_setter : (d.nextFree).setter = d.setter := (rfl)
@[simp] theorem Device.nextFree_beams : (d.nextFree).beams = d.beams := (rfl)
@[simp] theorem Device.nextFree_apBuf : (d.nextFree).apBuf = d.apBuf := (rfl)
@[simp] theorem Device.nextFree_chains : (d.nextFree).chains = d.chains := (rfl)
@[simp] theorem Device.nextFree_engines : (d.nextFree).engines = d.engines := (rfl)
@[simp] theorem Device.nextFree_jrn : (d.nextFree).jrn = d.jrn := (rfl)
@[simp] theorem Device.nextFree_queues : (d.nextFree).queues = d.queues := (rfl)
@[simp] theorem Device.nextFree_cloth : (d.nextFree).cloth = d.cloth := (rfl)
@[simp] theorem Device.nextFree_drafts : (d.nextFree).drafts = d.drafts := (rfl)
@[simp] theorem Device.nextFree_mem : (d.nextFree).mem = d.mem := (rfl)
@[simp] theorem Device.nextFree_poison : (d.nextFree).poison = d.poison := (rfl)
@[simp] theorem Device.nextFree_drm : (d.nextFree).drm = d.drm := (rfl)
@[simp] theorem Device.nextFree_ref : (d.nextFree).ref = d.ref := (rfl)
@[simp] theorem Device.nextFree_rsq : (d.nextFree).rsq = d.rsq := (rfl)
@[simp] theorem Device.nextFree_boot : (d.nextFree).boot = d.boot := (rfl)
@[simp] theorem Device.nextFree_hdl : (d.nextFree).hdl = d.hdl := (rfl)
@[simp] theorem Device.nextFree_sup : (d.nextFree).sup = d.sup := (rfl)
@[simp] theorem Device.nextFree_trigAck : (d.nextFree).trigAck = d.trigAck := (rfl)

@[simp] theorem Device.heat_held : (d.heat a n p).held = d.held := (rfl)
@[simp] theorem Device.heat_powered : (d.heat a n p).powered = d.powered := (rfl)
@[simp] theorem Device.heat_testen : (d.heat a n p).testen = d.testen := (rfl)
@[simp] theorem Device.heat_freeN : (d.heat a n p).freeN = d.freeN := (rfl)
@[simp] theorem Device.heat_tm : (d.heat a n p).tm = d.tm := (rfl)
@[simp] theorem Device.heat_regs : (d.heat a n p).regs = d.regs := (rfl)
@[simp] theorem Device.heat_live : (d.heat a n p).live = d.live := (rfl)
@[simp] theorem Device.heat_rlatch : (d.heat a n p).rlatch = d.rlatch := (rfl)
@[simp] theorem Device.heat_wlatch : (d.heat a n p).wlatch = d.wlatch := (rfl)
@[simp] theorem Device.heat_lanes : (d.heat a n p).lanes = d.lanes := (rfl)
@[simp] theorem Device.heat_ports : (d.heat a n p).ports = d.ports := (rfl)
@[simp] theorem Device.heat_creel : (d.heat a n p).creel = d.creel := (rfl)
@[simp] theorem Device.heat_looms : (d.heat a n p).looms = d.looms := (rfl)
@[simp] theorem Device.heat_apu : (d.heat a n p).apu = d.apu := (rfl)
@[simp] theorem Device.heat_sheds : (d.heat a n p).sheds = d.sheds := (rfl)
@[simp] theorem Device.heat_setter : (d.heat a n p).setter = d.setter := (rfl)
@[simp] theorem Device.heat_beams : (d.heat a n p).beams = d.beams := (rfl)
@[simp] theorem Device.heat_apBuf : (d.heat a n p).apBuf = d.apBuf := (rfl)
@[simp] theorem Device.heat_chains : (d.heat a n p).chains = d.chains := (rfl)
@[simp] theorem Device.heat_engines : (d.heat a n p).engines = d.engines := (rfl)
@[simp] theorem Device.heat_jrn : (d.heat a n p).jrn = d.jrn := (rfl)
@[simp] theorem Device.heat_queues : (d.heat a n p).queues = d.queues := (rfl)
@[simp] theorem Device.heat_cloth : (d.heat a n p).cloth = d.cloth := (rfl)
@[simp] theorem Device.heat_drafts : (d.heat a n p).drafts = d.drafts := (rfl)
@[simp] theorem Device.heat_mem : (d.heat a n p).mem = d.mem := (rfl)
@[simp] theorem Device.heat_poison : (d.heat a n p).poison = d.poison := (rfl)
@[simp] theorem Device.heat_drm : (d.heat a n p).drm = d.drm := (rfl)
@[simp] theorem Device.heat_ref : (d.heat a n p).ref = d.ref := (rfl)
@[simp] theorem Device.heat_rsq : (d.heat a n p).rsq = d.rsq := (rfl)
@[simp] theorem Device.heat_boot : (d.heat a n p).boot = d.boot := (rfl)
@[simp] theorem Device.heat_hdl : (d.heat a n p).hdl = d.hdl := (rfl)
@[simp] theorem Device.heat_sup : (d.heat a n p).sup = d.sup := (rfl)
@[simp] theorem Device.heat_trigAck : (d.heat a n p).trigAck = d.trigAck := (rfl)

@[simp] theorem Device.peak_held : (d.peak f v).held = d.held := by unfold Device.peak; split <;> rfl
@[simp] theorem Device.peak_powered : (d.peak f v).powered = d.powered := by unfold Device.peak; split <;> rfl
@[simp] theorem Device.peak_testen : (d.peak f v).testen = d.testen := by unfold Device.peak; split <;> rfl
@[simp] theorem Device.peak_freeN : (d.peak f v).freeN = d.freeN := by unfold Device.peak; split <;> rfl
@[simp] theorem Device.peak_tm : (d.peak f v).tm = d.tm := by unfold Device.peak; split <;> rfl
@[simp] theorem Device.peak_live : (d.peak f v).live = d.live := by unfold Device.peak; split <;> rfl
@[simp] theorem Device.peak_rlatch : (d.peak f v).rlatch = d.rlatch := by unfold Device.peak; split <;> rfl
@[simp] theorem Device.peak_wlatch : (d.peak f v).wlatch = d.wlatch := by unfold Device.peak; split <;> rfl
@[simp] theorem Device.peak_lanes : (d.peak f v).lanes = d.lanes := by unfold Device.peak; split <;> rfl
@[simp] theorem Device.peak_ports : (d.peak f v).ports = d.ports := by unfold Device.peak; split <;> rfl
@[simp] theorem Device.peak_creel : (d.peak f v).creel = d.creel := by unfold Device.peak; split <;> rfl
@[simp] theorem Device.peak_looms : (d.peak f v).looms = d.looms := by unfold Device.peak; split <;> rfl
@[simp] theorem Device.peak_apu : (d.peak f v).apu = d.apu := by unfold Device.peak; split <;> rfl
@[simp] theorem Device.peak_sheds : (d.peak f v).sheds = d.sheds := by unfold Device.peak; split <;> rfl
@[simp] theorem Device.peak_setter : (d.peak f v).setter = d.setter := by unfold Device.peak; split <;> rfl
@[simp] theorem Device.peak_beams : (d.peak f v).beams = d.beams := by unfold Device.peak; split <;> rfl
@[simp] theorem Device.peak_apBuf : (d.peak f v).apBuf = d.apBuf := by unfold Device.peak; split <;> rfl
@[simp] theorem Device.peak_chains : (d.peak f v).chains = d.chains := by unfold Device.peak; split <;> rfl
@[simp] theorem Device.peak_engines : (d.peak f v).engines = d.engines := by unfold Device.peak; split <;> rfl
@[simp] theorem Device.peak_jrn : (d.peak f v).jrn = d.jrn := by unfold Device.peak; split <;> rfl
@[simp] theorem Device.peak_queues : (d.peak f v).queues = d.queues := by unfold Device.peak; split <;> rfl
@[simp] theorem Device.peak_cloth : (d.peak f v).cloth = d.cloth := by unfold Device.peak; split <;> rfl
@[simp] theorem Device.peak_drafts : (d.peak f v).drafts = d.drafts := by unfold Device.peak; split <;> rfl
@[simp] theorem Device.peak_mem : (d.peak f v).mem = d.mem := by unfold Device.peak; split <;> rfl
@[simp] theorem Device.peak_poison : (d.peak f v).poison = d.poison := by unfold Device.peak; split <;> rfl
@[simp] theorem Device.peak_drm : (d.peak f v).drm = d.drm := by unfold Device.peak; split <;> rfl
@[simp] theorem Device.peak_ref : (d.peak f v).ref = d.ref := by unfold Device.peak; split <;> rfl
@[simp] theorem Device.peak_rsq : (d.peak f v).rsq = d.rsq := by unfold Device.peak; split <;> rfl
@[simp] theorem Device.peak_boot : (d.peak f v).boot = d.boot := by unfold Device.peak; split <;> rfl
@[simp] theorem Device.peak_hdl : (d.peak f v).hdl = d.hdl := by unfold Device.peak; split <;> rfl
@[simp] theorem Device.peak_sup : (d.peak f v).sup = d.sup := by unfold Device.peak; split <;> rfl
@[simp] theorem Device.peak_trigAck : (d.peak f v).trigAck = d.trigAck := by unfold Device.peak; split <;> rfl

/-- The word of a device that is written out field by field. -/
@[simp] theorem Device.word_mk (x0 x1 x2 x3 x4 x5 x6 x7 x8 x9 x10 x11 x12 x13 x14 x15 x16 x17 x18 x19 x20 x21 x22 x23 x24 x25 x26 x27 x28 x29 x30 x31 x32 x33) (k : Nat) :
    Device.word (Device.mk x0 x1 x2 x3 x4 x5 x6 x7 x8 x9 x10 x11 x12 x13 x14 x15 x16 x17 x18 x19 x20 x21 x22 x23 x24 x25 x26 x27 x28 x29 x30 x31 x32 x33) k = Sparse.get resetWord x5 k := rfl

/-- The live word of a device that is written out field by field. -/
@[simp] theorem Device.liveWord_mk (x0 x1 x2 x3 x4 x5 x6 x7 x8 x9 x10 x11 x12 x13 x14 x15 x16 x17 x18 x19 x20 x21 x22 x23 x24 x25 x26 x27 x28 x29 x30 x31 x32 x33) (k : Nat) :
    Device.liveWord (Device.mk x0 x1 x2 x3 x4 x5 x6 x7 x8 x9 x10 x11 x12 x13 x14 x15 x16 x17 x18 x19 x20 x21 x22 x23 x24 x25 x26 x27 x28 x29 x30 x31 x32 x33) k = Sparse.get resetWord x7 k := rfl


theorem Device.word_congr (d e : Device) (h : e.regs = d.regs) (k : Nat) : e.word k = d.word k := by
  rw [Device.word_eq, Device.word_eq, h]

theorem Device.get_congr (d e : Device) (h : e.regs = d.regs) : e.get f = d.get f := by
  rw [Device.get, Device.get, Device.word_congr d e h]

/-! ### Commands -/

variable (s : State) (h : Device → Device)

/-- A command acts on a device that is not held, and leaves the queue and the pins. -/
theorem State.act_next (hs : s.dev.held = false) :
    s.act h = .next { s with dev := { h s.dev with held := false, powered := s.dev.powered } } := by
  simp [State.act, hs]

/-- Reset holds every such command back. -/
theorem State.act_held (hs : s.dev.held = true) : s.act h = .next s := by
  simp [State.act, hs]

theorem State.actReg_eq (m : Nat) : s.actReg m h = s.act fun d => if d.issues m then h (d.request m 1) else d := (rfl)

/-- A master of which nothing waits has nothing to be served first. -/
theorem Device.finishMaster_idle (m : Nat)
    (hq : ∀ ch, ch < 24 → ∀ y ∈ (d.dram ch).queue, y.user = .matrix (Fin.ofNat 5 m) → y.owed = false)
    (hp : ∀ y ∈ d.hdl.atPort, y.user ≠ .matrix (Fin.ofNat 5 m)) : d.finishMaster m = d := by
  have h1 : (d.hdl.atPort.filter fun y => !(y.user == .matrix (Fin.ofNat 5 m))) = d.hdl.atPort :=
    List.filter_eq_self.mpr fun y hy => by simpa using hp y hy
  have h2 : (d.hdl.atPort.filter fun y => y.user == .matrix (Fin.ofNat 5 m)) = [] :=
    List.filter_eq_nil_iff.mpr fun y hy => by simpa using hp y hy
  have h3 (l : List Nat) (hl : ∀ ch ∈ l, ch < 24) : l.foldl (fun (e : Device) ch =>
      if ((e.dram ch).queue.any fun y => y.user == .matrix (Fin.ofNat 5 m) && y.owed) = true then e.drainChannel ch else e) d = d := by
    induction l with
    | nil => rfl
    | cons ch l ih =>
      have : ((d.dram ch).queue.any fun y => y.user == .matrix (Fin.ofNat 5 m) && y.owed) = false :=
        List.any_eq_false.mpr fun y hy => by
          have := hq ch (hl ch List.mem_cons_self) y hy
          simpa using this
      rw [List.foldl_cons, if_neg (by rw [this]; exact Bool.false_ne_true)]
      exact ih fun c hc => hl c (List.mem_cons_of_mem _ hc)
  simp only [Device.finishMaster, h1, h2, List.foldl_nil]
  exact h3 _ fun ch hc => List.mem_range.mp hc

/-- A single request of such a master counts in its peak and does nothing else. -/
theorem Device.request_idle (m : Nat)
    (hq : ∀ ch, ch < 24 → ∀ y ∈ (d.dram ch).queue, y.user = .matrix (Fin.ofNat 5 m) → y.owed = false)
    (hp : ∀ y ∈ d.hdl.atPort, y.user ≠ .matrix (Fin.ofNat 5 m)) :
    d.request m 1 = d.set (mtxPeak m) (max (d.get (mtxPeak m)) 1) := by
  simp only [Device.request, Device.finishMaster_idle d m hq hp]
  rfl

/-- A register command of a master that can issue it is one request of that master. -/
theorem State.actReg_next (m : Nat) (hs : s.dev.held = false) (hm : s.dev.issues m = true) :
    s.actReg m h = .next { s with dev := { h (s.dev.request m 1) with held := false, powered := s.dev.powered } } := by
  simp [State.actReg, State.act, hs, hm]

/-- A register command of a master that cannot issue it changes nothing. -/
theorem State.actReg_cannot (m : Nat) (hm : s.dev.issues m = false) : s.actReg m h = .next s := by
  by_cases hs : s.dev.held = true
  · simp [State.actReg, State.act, hs]
  · simp only [Bool.not_eq_true] at hs
    simp [State.actReg, State.act, hs, hm]
    rw [← hs]

end Sys2Proof.Machine
end

