-- ==== Sys2Proof/Laws/Frame.lean ====
section
/-! SUPPORT. Frames: which fields of the register file an effect changes, built up write by write. -/

namespace Sys2Proof.Machine

variable {d e : Device} {fs : List Fld}

theorem Device.onlyFields_refl : d.onlyFields d fs := ⟨rfl, fun _ _ => rfl⟩

/-- Writing a whole register. -/
theorem Device.onlyFields_setWord (h : d.onlyFields e fs) (a : Nat) (x : W32) (ha : (⟨a, 0, 32⟩ : Fld) ∈ fs) :
    d.onlyFields (e.setWord a x) fs := by
  refine ⟨?_, fun g hg => ?_⟩
  · rw [h.1]; rfl
  · rw [← h.2 g hg, Device.get, Device.get]
    rcases hg _ ha with h1 | h1
    · rw [Device.word_setWord_other _ _ _ _ h1]
    · have hz : ∀ y : W32, g.of y = 0 := by
        intro y
        unfold Fld.of
        rcases h1 with h1 | h1
        · have : y.toNat < 2 ^ g.lo := Nat.lt_of_lt_of_le y.isLt (Nat.pow_le_pow_right (by omega) (by simpa using h1))
          rw [Nat.div_eq_of_lt this, Nat.zero_mod]
        · have : g.w = 0 := by simp only at h1; omega
          rw [this, Nat.pow_zero, Nat.mod_one]
      rw [hz, hz]

theorem Device.onlyFields_set (h : d.onlyFields e fs) (f : Fld) (v : Nat) (hf : f.fits) (hm : f ∈ fs) :
    d.onlyFields (e.set f v) fs := by
  refine ⟨?_, fun g hg => ?_⟩
  · rw [h.1]; rfl
  · rw [← h.2 g hg]
    exact Device.get_set_apart e f g v hf (hg f hm)

theorem Device.onlyFields_put (h : d.onlyFields e fs) (f : Fld) (b : Bool) (hf : f.fits) (hm : f ∈ fs) :
    d.onlyFields (e.put f b) fs := Device.onlyFields_set h f _ hf hm

theorem Device.onlyFields_inc (h : d.onlyFields e fs) (f : Fld) (hf : f.fits) (hm : f ∈ fs) :
    d.onlyFields (e.inc f) fs := Device.onlyFields_set h f _ hf hm

theorem Device.onlyFields_add (h : d.onlyFields e fs) (f : Fld) (n : Nat) (hf : f.fits) (hm : f ∈ fs) :
    d.onlyFields (e.add f n) fs := Device.onlyFields_set h f _ hf hm

/-- That hardware has just set a bit changes no field. -/
theorem Device.onlyFields_heat (h : d.onlyFields e fs) (a n : Nat) (b : Bool) : d.onlyFields (e.heat a n b) fs :=
  ⟨by rw [h.1]; rfl, h.2⟩

theorem Device.onlyFields_setBit (h : d.onlyFields e fs) (f : Fld) (n : Nat) (hf : f.fits) (hm : f ∈ fs) :
    d.onlyFields (e.setBit f n) fs := Device.onlyFields_heat (Device.onlyFields_set h f _ hf hm) _ _ _

theorem Device.onlyFields_ite (c : Prop) [Decidable c] {e' : Device} (h : d.onlyFields e fs) (h' : d.onlyFields e' fs) :
    d.onlyFields (if c then e else e') fs := by
  split
  · exact h
  · exact h'

theorem Device.onlyFields_mono {gs : List Fld} (h : d.onlyFields e fs) (hs : ∀ f ∈ fs, f ∈ gs) : d.onlyFields e gs :=
  ⟨h.1, fun g hg => h.2 g fun f hf => hg f (hs f hf)⟩

theorem Device.onlyFields_trans {e' : Device} (h : d.onlyFields e fs) (h' : e.onlyFields e' fs) : d.onlyFields e' fs := by
  refine ⟨?_, fun g hg => (h'.2 g hg).trans (h.2 g hg)⟩
  rw [h'.1, h.1]

/-- Setting each field of a list to 0. -/
theorem Device.onlyFields_fold (l : List Fld) (hl : ∀ f ∈ l, f.fits ∧ f ∈ fs) (h : d.onlyFields e fs) :
    d.onlyFields (l.foldl (fun d f => d.set f 0) e) fs := by
  induction l generalizing e with
  | nil => exact h
  | cons f l ih =>
    exact ih (fun g hg => hl g (by simp [hg])) (Device.onlyFields_set h f 0 (hl f (by simp)).1 (hl f (by simp)).2)

/-- A command whose effect stays in the register file. -/
theorem State.act_regs (s : State) (f : Device → Device) (hs : s.dev.held = false)
    (h : f s.dev = { s.dev with regs := (f s.dev).regs, hot := (f s.dev).hot }) : s.act f = .next { s with dev := f s.dev } := by
  rw [State.act_next s f hs]
  congr 2
  rw [h, ← hs]

/-- An effect that keeps the pins. -/
theorem State.act_pins (s : State) (f : Device → Device) (hs : s.dev.held = false) (h1 : (f s.dev).held = s.dev.held)
    (h2 : (f s.dev).powered = s.dev.powered) : s.act f = .next { s with dev := f s.dev } := by
  rw [State.act_next s f hs]
  congr 2
  rw [← hs, ← h1, ← h2]

/-- Writes to other fields leave a field. -/
theorem Device.get_fold_other (g : Fld) (l : List (Fld × Nat)) (d : Device) (hl : ∀ p ∈ l, p.1.fits)
    (hp : ∀ p ∈ l, g.addr ≠ p.1.addr ∨ p.1.apart g) : (l.foldl (fun d p => d.set p.1 p.2) d).get g = d.get g := by
  induction l generalizing d with
  | nil => rfl
  | cons p l ih =>
    rw [List.foldl_cons, ih _ (fun f hf => hl f (by simp [hf])) (fun f hf => hp f (by simp [hf]))]
    exact Device.get_set_apart d p.1 g p.2 (hl p (by simp)) (hp p (by simp))

/-- After a run of writes each field reads what was written to it. -/
theorem Device.get_fold_same (l : List (Fld × Nat)) (d : Device) (hl : ∀ p ∈ l, p.1.fits ∧ p.2 < 2 ^ p.1.w)
    (hp : l.Pairwise fun p q => p.1.addr ≠ q.1.addr ∨ q.1.apart p.1) : ∀ p ∈ l, (l.foldl (fun d p => d.set p.1 p.2) d).get p.1 = p.2 := by
  induction l generalizing d with
  | nil => simp
  | cons p l ih =>
    intro q hq
    have hp' := List.pairwise_cons.mp hp
    rcases List.mem_cons.mp hq with rfl | hq
    · rw [List.foldl_cons, Device.get_fold_other _ l _ (fun f hf => (hl f (by simp [hf])).1) hp'.1,
          Device.get_set_same _ _ _ (hl q (by simp)).1, Nat.mod_eq_of_lt (hl q (by simp)).2]
    · exact ih _ (fun f hf => hl f (by simp [hf])) hp'.2 q hq

/-- A run of writes changes its fields alone. -/
theorem Device.onlyFields_writes {d e : Device} {fs : List Fld} (l : List (Fld × Nat)) (hl : ∀ p ∈ l, p.1.fits ∧ p.1 ∈ fs) (h : d.onlyFields e fs) :
    d.onlyFields (l.foldl (fun d p => d.set p.1 p.2) e) fs := by
  induction l generalizing e with
  | nil => exact h
  | cons f l ih =>
    exact ih (fun g hg => hl g (by simp [hg])) (Device.onlyFields_set h f.1 f.2 (hl f (by simp)).1 (hl f (by simp)).2)

/-- A command whose effect is a run of writes. -/
theorem State.writes_of_fold (s : State) (c : Instr) (f : Device → Device) (l : List (Fld × Nat)) (hs : s.dev.held = false)
    (hc : exec c s = s.act f) (hf : f s.dev = l.foldl (fun d p => d.set p.1 p.2) s.dev)
    (hl : ∀ p ∈ l, p.1.fits ∧ p.2 < 2 ^ p.1.w) (hp : l.Pairwise fun p q => p.1.addr ≠ q.1.addr ∨ q.1.apart p.1) : s.writes c l := by
  have h0 : s.dev.onlyFields (l.foldl (fun d p => d.set p.1 p.2) s.dev) (l.map Prod.fst) :=
    Device.onlyFields_writes l (fun f hf => ⟨(hl f hf).1, List.mem_map_of_mem hf⟩) Device.onlyFields_refl
  refine ⟨_, ?_, Device.get_fold_same l s.dev hl hp, h0⟩
  rw [hc, State.act_regs s f hs (by rw [hf]; exact h0.1), hf]

/-- A command whose effect is a run of writes of 0. -/
theorem State.zeroes_of_fold (s : State) (c : Instr) (f : Device → Device) (l : List Fld) (hs : s.dev.held = false)
    (hc : exec c s = s.act f) (hf : f s.dev = l.foldl (fun d f => d.set f 0) s.dev)
    (hl : ∀ f ∈ l, f.fits) (hp : l.Pairwise fun f g => f.addr ≠ g.addr ∨ g.apart f) : s.zeroes c l := by
  have h := State.writes_of_fold s c f (l.map fun f => (f, 0)) hs hc (by rw [hf, List.foldl_map]) 
    (by intro p hp; obtain ⟨f, hf, rfl⟩ := List.mem_map.mp hp; exact ⟨hl f hf, Nat.two_pow_pos _⟩)
    (List.pairwise_map.mpr hp)
  obtain ⟨e, h1, h2, h3⟩ := h
  refine ⟨e, h1, fun f hf => h2 (f, 0) (List.mem_map_of_mem hf), ?_⟩
  rw [List.map_map, show Prod.fst ∘ (fun f : Fld => (f, 0)) = id from rfl, List.map_id] at h3
  exact h3

/-- A command that acts on a device that is not held, and keeps the pins, completes. -/
theorem State.runs_of_act {qs : List Part} (s : State) (c : Instr) (f : Device → Device) (post : Device → Prop)
    (hs : s.dev.held = false) (hc : exec c s = s.act f) (h : s.dev.keeps (f s.dev) qs) (h1 : Part.held ∉ qs)
    (h2 : Part.powered ∉ qs) (hp : post (f s.dev)) : s.runs c post :=
  ⟨_, by rw [hc]; exact State.act_pins s f hs (h _ h1) (h _ h2), hp⟩

end Sys2Proof.Machine
end

