-- ==== Sys2Proof/Laws/Keeps.lean ====
section
/-! SUPPORT. Which parts of the device an operation may change: the laws of `keeps`, and one lemma for each shared operation. -/

namespace Sys2Proof.Machine

variable {d e f : Device} {ps qs : List Part}

theorem Device.keeps_refl : d.keeps d ps := fun p _ => by cases p <;> rfl

theorem Device.keeps_trans (h : d.keeps e ps) (h' : e.keeps f qs) (hs : ∀ p ∈ qs, p ∈ ps) : d.keeps f ps := by
  intro p hp
  have h1 := h p hp
  have h2 := h' p fun hq => hp (hs p hq)
  cases p <;> exact Eq.trans h2 h1

theorem Device.keeps_mono (h : d.keeps e qs) (hs : ∀ p ∈ qs, p ∈ ps) : d.keeps e ps :=
  fun p hp => h p fun hq => hp (hs p hq)

/-- One effect more. -/
theorem Device.keeps_then (g : Device → Device) (hg : ∀ x : Device, x.keeps (g x) qs) (h : d.keeps e ps)
    (hs : ∀ p ∈ qs, p ∈ ps) : d.keeps (g e) ps := Device.keeps_trans h (hg e) hs

theorem Device.keeps_ite (c : Prop) [Decidable c] (h : c → d.keeps e ps) (h' : ¬ c → d.keeps f ps) :
    d.keeps (if c then e else f) ps := by
  split
  · exact h ‹_›
  · exact h' ‹_›

theorem Device.keeps_foldl {α : Type} (l : List α) (g : Device → α → Device) (hg : ∀ (x : Device) (a : α), x.keeps (g x a) ps)
    (h : d.keeps e ps) : d.keeps (l.foldl g e) ps := by
  induction l generalizing e with
  | nil => exact h
  | cons a l ih => exact ih (Device.keeps_trans h (hg e a) fun _ hp => hp)

/-- A fold over a device and something beside it. -/
theorem Device.keeps_foldl_pair {α β : Type} (l : List α) (g : β × Device → α → β × Device)
    (hg : ∀ (x : β × Device) (a : α), x.2.keeps (g x a).2 ps) (b : β × Device) (h : d.keeps b.2 ps) :
    d.keeps (l.foldl g b).2 ps := by
  induction l generalizing b with
  | nil => exact h
  | cons a l ih => exact ih (g b a) (Device.keeps_trans h (hg b a) fun _ hp => hp)

theorem Device.onlyFields_keeps {fs : List Fld} (h : d.onlyFields e fs) : d.keeps e [.regs] := by
  intro p hp
  rw [h.1]
  cases p <;> first | rfl | simp at hp

/-! ### Updates of one part -/

theorem Device.keeps_held (x : _) (h : d.keeps e ps) (hs : Part.held ∈ ps) : d.keeps { e with held := x } ps := by
  refine Device.keeps_trans (qs := [.held]) h ?_ (by simpa using hs)
  intro p hp
  cases p <;> first | rfl | simp at hp

theorem Device.keeps_powered (x : _) (h : d.keeps e ps) (hs : Part.powered ∈ ps) : d.keeps { e with powered := x } ps := by
  refine Device.keeps_trans (qs := [.powered]) h ?_ (by simpa using hs)
  intro p hp
  cases p <;> first | rfl | simp at hp

theorem Device.keeps_testen (x : _) (h : d.keeps e ps) (hs : Part.testen ∈ ps) : d.keeps { e with testen := x } ps := by
  refine Device.keeps_trans (qs := [.testen]) h ?_ (by simpa using hs)
  intro p hp
  cases p <;> first | rfl | simp at hp

theorem Device.keeps_freeN (x : _) (h : d.keeps e ps) (hs : Part.freeN ∈ ps) : d.keeps { e with freeN := x } ps := by
  refine Device.keeps_trans (qs := [.freeN]) h ?_ (by simpa using hs)
  intro p hp
  cases p <;> first | rfl | simp at hp

theorem Device.keeps_tm (x : _) (h : d.keeps e ps) (hs : Part.tm ∈ ps) : d.keeps { e with tm := x } ps := by
  refine Device.keeps_trans (qs := [.tm]) h ?_ (by simpa using hs)
  intro p hp
  cases p <;> first | rfl | simp at hp

theorem Device.keeps_regs (x : _) (h : d.keeps e ps) (hs : Part.regs ∈ ps) : d.keeps { e with regs := x } ps := by
  refine Device.keeps_trans (qs := [.regs]) h ?_ (by simpa using hs)
  intro p hp
  cases p <;> first | rfl | simp at hp

theorem Device.keeps_live (x : _) (h : d.keeps e ps) (hs : Part.live ∈ ps) : d.keeps { e with live := x } ps := by
  refine Device.keeps_trans (qs := [.live]) h ?_ (by simpa using hs)
  intro p hp
  cases p <;> first | rfl | simp at hp

theorem Device.keeps_rlatch (x : _) (h : d.keeps e ps) (hs : Part.rlatch ∈ ps) : d.keeps { e with rlatch := x } ps := by
  refine Device.keeps_trans (qs := [.rlatch]) h ?_ (by simpa using hs)
  intro p hp
  cases p <;> first | rfl | simp at hp

theorem Device.keeps_wlatch (x : _) (h : d.keeps e ps) (hs : Part.wlatch ∈ ps) : d.keeps { e with wlatch := x } ps := by
  refine Device.keeps_trans (qs := [.wlatch]) h ?_ (by simpa using hs)
  intro p hp
  cases p <;> first | rfl | simp at hp

theorem Device.keeps_lanes (x : _) (h : d.keeps e ps) (hs : Part.lanes ∈ ps) : d.keeps { e with lanes := x } ps := by
  refine Device.keeps_trans (qs := [.lanes]) h ?_ (by simpa using hs)
  intro p hp
  cases p <;> first | rfl | simp at hp

theorem Device.keeps_ports (x : _) (h : d.keeps e ps) (hs : Part.ports ∈ ps) : d.keeps { e with ports := x } ps := by
  refine Device.keeps_trans (qs := [.ports]) h ?_ (by simpa using hs)
  intro p hp
  cases p <;> first | rfl | simp at hp

theorem Device.keeps_creel (x : _) (h : d.keeps e ps) (hs : Part.creel ∈ ps) : d.keeps { e with creel := x } ps := by
  refine Device.keeps_trans (qs := [.creel]) h ?_ (by simpa using hs)
  intro p hp
  cases p <;> first | rfl | simp at hp

theorem Device.keeps_looms (x : _) (h : d.keeps e ps) (hs : Part.looms ∈ ps) : d.keeps { e with looms := x } ps := by
  refine Device.keeps_trans (qs := [.looms]) h ?_ (by simpa using hs)
  intro p hp
  cases p <;> first | rfl | simp at hp

theorem Device.keeps_apu (x : _) (h : d.keeps e ps) (hs : Part.apu ∈ ps) : d.keeps { e with apu := x } ps := by
  refine Device.keeps_trans (qs := [.apu]) h ?_ (by simpa using hs)
  intro p hp
  cases p <;> first | rfl | simp at hp

theorem Device.keeps_sheds (x : _) (h : d.keeps e ps) (hs : Part.sheds ∈ ps) : d.keeps { e with sheds := x } ps := by
  refine Device.keeps_trans (qs := [.sheds]) h ?_ (by simpa using hs)
  intro p hp
  cases p <;> first | rfl | simp at hp

theorem Device.keeps_setter (x : _) (h : d.keeps e ps) (hs : Part.setter ∈ ps) : d.keeps { e with setter := x } ps := by
  refine Device.keeps_trans (qs := [.setter]) h ?_ (by simpa using hs)
  intro p hp
  cases p <;> first | rfl | simp at hp

theorem Device.keeps_beams (x : _) (h : d.keeps e ps) (hs : Part.beams ∈ ps) : d.keeps { e with beams := x } ps := by
  refine Device.keeps_trans (qs := [.beams]) h ?_ (by simpa using hs)
  intro p hp
  cases p <;> first | rfl | simp at hp

theorem Device.keeps_apBuf (x : _) (h : d.keeps e ps) (hs : Part.apBuf ∈ ps) : d.keeps { e with apBuf := x } ps := by
  refine Device.keeps_trans (qs := [.apBuf]) h ?_ (by simpa using hs)
  intro p hp
  cases p <;> first | rfl | simp at hp

theorem Device.keeps_chains (x : _) (h : d.keeps e ps) (hs : Part.chains ∈ ps) : d.keeps { e with chains := x } ps := by
  refine Device.keeps_trans (qs := [.chains]) h ?_ (by simpa using hs)
  intro p hp
  cases p <;> first | rfl | simp at hp

theorem Device.keeps_engines (x : _) (h : d.keeps e ps) (hs : Part.engines ∈ ps) : d.keeps { e with engines := x } ps := by
  refine Device.keeps_trans (qs := [.engines]) h ?_ (by simpa using hs)
  intro p hp
  cases p <;> first | rfl | simp at hp

theorem Device.keeps_jrn (x : _) (h : d.keeps e ps) (hs : Part.jrn ∈ ps) : d.keeps { e with jrn := x } ps := by
  refine Device.keeps_trans (qs := [.jrn]) h ?_ (by simpa using hs)
  intro p hp
  cases p <;> first | rfl | simp at hp

theorem Device.keeps_queues (x : _) (h : d.keeps e ps) (hs : Part.queues ∈ ps) : d.keeps { e with queues := x } ps := by
  refine Device.keeps_trans (qs := [.queues]) h ?_ (by simpa using hs)
  intro p hp
  cases p <;> first | rfl | simp at hp

theorem Device.keeps_cloth (x : _) (h : d.keeps e ps) (hs : Part.cloth ∈ ps) : d.keeps { e with cloth := x } ps := by
  refine Device.keeps_trans (qs := [.cloth]) h ?_ (by simpa using hs)
  intro p hp
  cases p <;> first | rfl | simp at hp

theorem Device.keeps_drafts (x : _) (h : d.keeps e ps) (hs : Part.drafts ∈ ps) : d.keeps { e with drafts := x } ps := by
  refine Device.keeps_trans (qs := [.drafts]) h ?_ (by simpa using hs)
  intro p hp
  cases p <;> first | rfl | simp at hp

theorem Device.keeps_mem (x : _) (h : d.keeps e ps) (hs : Part.mem ∈ ps) : d.keeps { e with mem := x } ps := by
  refine Device.keeps_trans (qs := [.mem]) h ?_ (by simpa using hs)
  intro p hp
  cases p <;> first | rfl | simp at hp

theorem Device.keeps_poison (x : _) (h : d.keeps e ps) (hs : Part.poison ∈ ps) : d.keeps { e with poison := x } ps := by
  refine Device.keeps_trans (qs := [.poison]) h ?_ (by simpa using hs)
  intro p hp
  cases p <;> first | rfl | simp at hp

theorem Device.keeps_drm (x : _) (h : d.keeps e ps) (hs : Part.drm ∈ ps) : d.keeps { e with drm := x } ps := by
  refine Device.keeps_trans (qs := [.drm]) h ?_ (by simpa using hs)
  intro p hp
  cases p <;> first | rfl | simp at hp

theorem Device.keeps_ref (x : _) (h : d.keeps e ps) (hs : Part.ref ∈ ps) : d.keeps { e with ref := x } ps := by
  refine Device.keeps_trans (qs := [.ref]) h ?_ (by simpa using hs)
  intro p hp
  cases p <;> first | rfl | simp at hp

theorem Device.keeps_rsq (x : _) (h : d.keeps e ps) (hs : Part.rsq ∈ ps) : d.keeps { e with rsq := x } ps := by
  refine Device.keeps_trans (qs := [.rsq]) h ?_ (by simpa using hs)
  intro p hp
  cases p <;> first | rfl | simp at hp

theorem Device.keeps_boot (x : _) (h : d.keeps e ps) (hs : Part.boot ∈ ps) : d.keeps { e with boot := x } ps := by
  refine Device.keeps_trans (qs := [.boot]) h ?_ (by simpa using hs)
  intro p hp
  cases p <;> first | rfl | simp at hp

theorem Device.keeps_hdl (x : _) (h : d.keeps e ps) (hs : Part.hdl ∈ ps) : d.keeps { e with hdl := x } ps := by
  refine Device.keeps_trans (qs := [.hdl]) h ?_ (by simpa using hs)
  intro p hp
  cases p <;> first | rfl | simp at hp

theorem Device.keeps_sup (x : _) (h : d.keeps e ps) (hs : Part.sup ∈ ps) : d.keeps { e with sup := x } ps := by
  refine Device.keeps_trans (qs := [.sup]) h ?_ (by simpa using hs)
  intro p hp
  cases p <;> first | rfl | simp at hp

theorem Device.keeps_trigAck (x : _) (h : d.keeps e ps) (hs : Part.trigAck ∈ ps) : d.keeps { e with trigAck := x } ps := by
  refine Device.keeps_trans (qs := [.trigAck]) h ?_ (by simpa using hs)
  intro p hp
  cases p <;> first | rfl | simp at hp

/-- That hardware has just set a bit changes no part. -/
theorem Device.keeps_heat (a n : Nat) (b : Bool) (h : d.keeps e ps) : d.keeps (e.heat a n b) ps := by
  refine Device.keeps_trans (qs := []) h ?_ (by simp)
  intro p _
  cases p <;> rfl

theorem Device.keeps_setWord (a : Nat) (x : W32) (h : d.keeps e ps) (hs : Part.regs ∈ ps) : d.keeps (e.setWord a x) ps :=
  Device.keeps_regs _ h hs

theorem Device.keeps_set (f : Fld) (v : Nat) (h : d.keeps e ps) (hs : Part.regs ∈ ps) : d.keeps (e.set f v) ps :=
  Device.keeps_heat _ _ _ (Device.keeps_setWord _ _ h hs)

theorem Device.keeps_put (f : Fld) (b : Bool) (h : d.keeps e ps) (hs : Part.regs ∈ ps) : d.keeps (e.put f b) ps :=
  Device.keeps_set f _ h hs

theorem Device.keeps_add (f : Fld) (n : Nat) (h : d.keeps e ps) (hs : Part.regs ∈ ps) : d.keeps (e.add f n) ps :=
  Device.keeps_set f _ h hs

theorem Device.keeps_inc (f : Fld) (h : d.keeps e ps) (hs : Part.regs ∈ ps) : d.keeps (e.inc f) ps :=
  Device.keeps_set f _ h hs

theorem Device.keeps_incMod (f : Fld) (h : d.keeps e ps) (hs : Part.regs ∈ ps) : d.keeps (e.incMod f) ps :=
  Device.keeps_set f _ h hs

theorem Device.keeps_setBit (f : Fld) (n : Nat) (h : d.keeps e ps) (hs : Part.regs ∈ ps) : d.keeps (e.setBit f n) ps :=
  Device.keeps_heat _ _ _ (Device.keeps_set f _ h hs)

theorem Device.keeps_setPair (f g : Fld) (v : Nat) (h : d.keeps e ps) (hs : Part.regs ∈ ps) : d.keeps (e.setPair f g v) ps :=
  Device.keeps_set g _ (Device.keeps_set f _ h hs) hs

theorem Device.keeps_nextFree(h : d.keeps e ps) (hs : Part.freeN ∈ ps) : d.keeps (e.nextFree) ps :=
  Device.keeps_freeN _ h hs

theorem Device.keeps_setBoth (f : Fld) (v : Nat) (h : d.keeps e ps) (hs : Part.regs ∈ ps) (hs' : Part.live ∈ ps) :
    d.keeps (e.setBoth f v) ps := Device.keeps_live _ (Device.keeps_set f v h hs) hs'

theorem Device.keeps_peak (f : Fld) (v : Nat) (h : d.keeps e ps) (hs : Part.regs ∈ ps) : d.keeps (e.peak f v) ps :=
  Device.keeps_ite _ (fun _ => Device.keeps_set _ _ h hs) fun _ => h

/-! ### The shared operations -/

/-- A switch's slew moves what is left of it. -/
theorem Device.slewSwitch_keeps (n : Nat) : d.keeps (d.slewSwitch n) [.ref] := by
  unfold Device.slewSwitch
  exact Device.keeps_ref _ Device.keeps_refl (by simp)

/-- The passing of time moves the clock and the applied θ. -/
theorem Device.slewTheta_keeps (n : Nat) : d.keeps (d.slewTheta n) [.regs, .ref] := by
  unfold Device.slewTheta
  dsimp only
  split
  · exact Device.keeps_mono (Device.slewSwitch_keeps _) (by simp)
  · split
    · exact Device.keeps_ref _ Device.keeps_refl (by simp)
    · exact Device.keeps_ref _ (Device.keeps_set _ _ Device.keeps_refl (by simp)) (by simp)

/-- A matrix cycle begins. -/
theorem Device.newCycle_keeps : d.keeps d.newCycle [.regs, .ref, .tm] := by
  intro p hp
  cases p <;> first | rfl | simp at hp

/-- A dated command moves the clock, the applied θ, and nothing else. -/
theorem Device.at_keeps (t : Nat) : d.keeps (d.at_ t) [.regs, .ref, .tm] := by
  unfold Device.at_
  split
  · refine Device.keeps_tm _ (Device.keeps_trans ?_ (Device.slewTheta_keeps _) (by simp)) (by simp)
    exact Device.keeps_ite _ (fun _ => Device.keeps_refl) fun _ => Device.newCycle_keeps
  · exact Device.keeps_refl

/-- A fatal fault is named once. -/
theorem Device.fatal_keeps (b n : Nat) (i : Bool) : d.keeps (d.fatal b n i) [.regs, .sup] := by
  unfold Device.fatal
  split
  · exact Device.keeps_refl
  · exact Device.keeps_sup _ (Device.keeps_set _ _ (Device.keeps_set _ _ (Device.keeps_put _ _ Device.keeps_refl (by simp))
      (by simp)) (by simp)) (by simp)

/-- A captured event stands in the block's fault registers. -/
theorem Device.firstEvent_keeps (b : Blk) (n : Nat) (r : Bool) (x : Nat) : d.keeps (d.firstEvent b n r x) [.regs] := by
  have k : ∀ {e : Device}, d.keeps e [.regs] → ∀ f v, d.keeps (e.set f v) [.regs] :=
    fun h f v => Device.keeps_set f v h (by simp)
  exact k (k (k (k (k (k (k Device.keeps_refl _ _) _ _) _ _) _ _) _ _) _ _) _ _

/-- An event is recorded in the block's fault registers. -/
theorem Device.faultBits_keeps (b : Blk) (n : Nat) (r i : Bool) : d.keeps (d.faultBits b n r i) [.regs, .sup] := by
  have kb : ∀ {e : Device}, d.keeps e [.regs, .sup] → ∀ f g v, d.keeps ((e.setBit f v).inc g) [.regs, .sup] :=
    fun h f g v => Device.keeps_inc g (Device.keeps_setBit f v h (by simp)) (by simp)
  have k0 (c : Bool) (x : Supply) : d.keeps (if c = true then { d with sup := x } else d) [.regs, .sup] :=
    Device.keeps_ite _ (fun _ => Device.keeps_sup _ Device.keeps_refl (by simp)) fun _ => Device.keeps_refl
  unfold Device.faultBits
  refine Device.keeps_ite _ (fun _ => kb ?_ _ _ _) fun _ => ?_
  all_goals exact Device.keeps_ite _ (fun _ => kb (k0 _ _) _ _ _) fun _ => k0 _ _

/-- Raising a source changes fault registers, what the block's faults have taken away and, for a fatal one, the fatal fault in
force. -/
theorem Device.raise_keeps (b : Blk) (n : Nat) (r i : Bool) (x : Nat) : d.keeps (d.raise b n r i x) [.regs, .sup] := by
  have h (c : Bool) : d.keeps (if c = true then (d.faultBits b n r i).firstEvent b n r x else d.faultBits b n r i) [.regs, .sup] :=
    Device.keeps_ite _ (fun _ => Device.keeps_trans (Device.faultBits_keeps b n r i) (Device.firstEvent_keeps _ _ _ _) (by simp))
      fun _ => Device.faultBits_keeps b n r i
  unfold Device.raise
  refine Device.keeps_ite _ (fun _ => Device.keeps_refl) fun _ => ?_
  exact Device.keeps_ite _ (fun _ => Device.keeps_trans (h _) (Device.fatal_keeps _ _ _) (by simp)) fun _ => h _

/-- A check changes only what raising its source changes. -/
theorem Device.check_keeps (b : Blk) (n : Nat) (r : Bool) (x : Nat) : d.keeps (d.check b n r x).2 [.regs, .sup] := by
  unfold Device.check
  split
  · exact Device.keeps_trans (Device.keeps_put _ _ Device.keeps_refl (by simp)) (Device.raise_keeps _ _ _ _ _) (by simp)
  · split
    · exact Device.raise_keeps _ _ _ _ _
    · exact Device.keeps_refl

/-- The LOST notice takes the drops. -/
theorem Device.settleLost_keeps : d.keeps d.settleLost [.rsq] := by
  unfold Device.settleLost
  dsimp only
  split
  · exact Device.keeps_refl
  · split
    · exact Device.keeps_rsq _ Device.keeps_refl (by simp)
    · split
      · exact Device.keeps_refl
      · exact Device.keeps_rsq _ Device.keeps_refl (by simp)

/-- A notice changes the protocol state alone. -/
theorem Device.noticeRef_keeps (ty sev sub : Nat) (r : List Byte) (ps : List (Nat × Nat)) :
    d.keeps (d.noticeRef ty sev sub r ps) [.rsq] := by
  unfold Device.noticeRef
  dsimp only
  split
  · exact Device.keeps_rsq _ Device.keeps_refl (by simp)
  · generalize (if 2 ≤ sev then 4096 else 4032 : Nat) = n
    split
    · exact Device.keeps_rsq _ Device.keeps_refl (by simp)
    · exact Device.keeps_trans (Device.keeps_rsq _ Device.keeps_refl (by simp)) Device.settleLost_keeps (by simp)

theorem Device.notice_keeps (ty sev sub : Nat) (ps : List (Nat × Nat)) : d.keeps (d.notice ty sev sub ps) [.rsq] :=
  Device.noticeRef_keeps _ _ _ _ _

theorem Device.eventNotice_keeps (sub a : Nat) : d.keeps (d.eventNotice sub a) [.rsq] := Device.noticeRef_keeps _ _ _ _ _

/-- A ledger event: its entry in both copies, JRN_LSEQ, and the check of the copy's write. -/
theorem Device.ledgerAt_keeps (s : Bool) (ty p : Nat) (b : List Byte) : d.keeps (d.ledgerAt s ty p b) [.regs, .jrn] :=
  Device.keeps_jrn _ (Device.keeps_setPair _ _ _ Device.keeps_refl (by simp)) (by simp)

/-- The check of a ledger write, which may fail a quiesce. -/
theorem Device.ledgerCheck_keeps : d.keeps d.ledgerCheck.2 [.regs, .sup, .jrn] := by
  unfold Device.ledgerCheck
  dsimp only
  exact Device.keeps_ite _
    (fun _ => Device.keeps_jrn _ (Device.keeps_mono (Device.check_keeps _ _ _ _) (by simp)) (by simp))
    fun _ => Device.keeps_mono (Device.check_keeps _ _ _ _) (by simp)

/-- An access that enters the controllers' queues changes nothing else. -/
theorem Device.enters_keeps (u : MemUser) (a n : Nat) (w o : Bool) : d.keeps (d.enters u a n w o) [.drm] := by
  unfold Device.enters
  refine Device.keeps_ite _ (fun _ => Device.keeps_refl) fun _ => ?_
  refine Device.keeps_foldl _ _ (fun x ch => ?_) Device.keeps_refl
  exact Device.keeps_ite _ (fun _ => Device.keeps_drm _ Device.keeps_refl (by simp)) fun _ => Device.keeps_refl

theorem Device.ledgerEnters_keeps (off n : Nat) (w : Bool) : d.keeps (d.ledgerEnters off n w) [.drm] :=
  Device.keeps_trans (Device.enters_keeps _ _ _ _ _) (Device.enters_keeps _ _ _ _ _) fun _ h => h

theorem Device.ledger_keeps (ty p : Nat) (b : List Byte) : d.keeps (d.ledger ty p b) [.regs, .sup, .jrn, .drm] := by
  unfold Device.ledger
  refine Device.keeps_ite _ (fun _ => Device.keeps_refl) fun _ => ?_
  show d.keeps ((d.ledgerCheck.2.ledgerAt _ ty p b).ledgerEnters _ _ _) _
  exact Device.keeps_trans (Device.keeps_trans (Device.keeps_mono Device.ledgerCheck_keeps (by simp))
    (Device.ledgerAt_keeps _ _ _ _) (by simp)) (Device.ledgerEnters_keeps _ _ _) (by simp)

end Sys2Proof.Machine
end

