-- ==== Sys2Proof/Laws/Memory.lean ====
section
/-! SUPPORT. Attached memory: a byte after a write, and the canonical form that every memory operation keeps. -/

namespace Sys2Proof.Machine

variable (d : Device) (a n i : Nat) (bs : List Byte)

/-- Reading after a store: the stored bytes where they lie, memory as before elsewhere. -/
theorem Device.byte_store : (d.store a bs).byte i = if a ≤ i ∧ i < a + bs.length then bs.getD (i - a) 0 else d.byte i :=
  Sparse.get_putAll memDflt d.mem a bs i

theorem Device.store_wf (h : d.memWf) : (d.store a bs).memWf := Sparse.putAll_wf memDflt d.mem a bs h

theorem Device.zeroRange_wf (h : d.memWf) : (d.zeroRange a n).memWf := by
  unfold Device.zeroRange Device.memWf Memory.wf
  dsimp only
  exact Sparse.keep_wf memDflt _ d.mem h

theorem Device.byte_zeroRange : (d.zeroRange a n).byte i = if a ≤ i ∧ i < a + n then 0 else d.byte i := by
  unfold Device.byte Device.zeroRange
  rw [Sparse.get_keep]
  by_cases h : a ≤ i ∧ i < a + n
  · simp [h, memDflt]
  · rw [if_neg h, if_pos]
    simp only [Bool.not_eq_true', Bool.and_eq_false_iff, decide_eq_false_iff_not]
    omega

theorem Device.renew_wf (h : d.memWf) : (d.renew a n).memWf := h

theorem Device.poisonLine_mem : (d.poisonLine a).mem = d.mem := by
  unfold Device.poisonLine
  dsimp only
  split <;> rfl

theorem Device.store_keeps : d.keeps (d.store a bs) [.mem, .poison] := by
  intro p hp
  cases p <;> first | rfl | simp at hp

theorem Device.zeroRange_keeps : d.keeps (d.zeroRange a n) [.mem, .poison] := by
  unfold Device.zeroRange
  refine Device.keeps_mem _ ?_ (by simp)
  unfold Device.renew
  exact Device.keeps_poison _ Device.keeps_refl (by simp)

theorem Device.poisonLine_keeps : d.keeps (d.poisonLine a) [.poison] := by
  unfold Device.poisonLine
  dsimp only
  split
  · exact Device.keeps_refl
  · exact Device.keeps_poison _ Device.keeps_refl (by simp)

theorem Device.linePoisoned_keeps (ch : Nat) : d.keeps (d.linePoisoned ch a) [.regs, .poison] := by
  unfold Device.linePoisoned
  have h : d.keeps ((d.inc (DRM_ECC_CNT.uncorrected ch)).poisonLine (a / 64 * 64)) [.regs, .poison] :=
    Device.keeps_trans (Device.keeps_inc _ Device.keeps_refl (by simp)) (Device.poisonLine_keeps _ _) (by simp)
  refine Device.keeps_ite _ (fun _ => h) fun _ => ?_
  exact Device.keeps_put _ _ (Device.keeps_set _ _ (Device.keeps_set _ _ h (by simp)) (by simp)) (by simp)

/-- Poisoned lines that are delivered are raised, counted and captured. -/
theorem Device.delivered_keeps : d.keeps (d.delivered a n) [.regs, .sup, .poison] := by
  unfold Device.delivered
  generalize d.poisonIn a n = ls
  have go : ∀ (e : Device), d.keeps e [.regs, .sup, .poison] → d.keeps (ls.foldl (fun (e : Device) l =>
      (e.raiseReal (drmBlk (lineChannel (64 * l + a - e.phys a))) 1 ((64 * l + a - e.phys a) % 2 ^ 32)).linePoisoned
        (lineChannel (64 * l + a - e.phys a)) (64 * l + a - e.phys a)) e) [.regs, .sup, .poison] := by
    induction ls with
    | nil => exact fun e h => h
    | cons l ls ih =>
      intro e h
      exact ih _ (Device.keeps_trans (Device.keeps_trans h (Device.raise_keeps _ _ _ _ _) (by simp))
        (Device.linePoisoned_keeps _ _ _) (by simp))
  exact go d Device.keeps_refl

/-- An effect that leaves memory alone keeps its form. -/
theorem Device.keeps_wf {e : Device} {ps : List Part} (h : d.keeps e ps) (hm : Part.mem ∉ ps) (hw : d.memWf) : e.memWf := by
  have : e.mem = d.mem := h .mem hm
  unfold Device.memWf
  rw [this]
  exact hw

theorem Device.foldl_wf {β : Type} (l : List β) (g : Device → β → Device) (hg : ∀ x b, x.memWf → (g x b).memWf)
    (h : d.memWf) : (l.foldl g d).memWf := by
  induction l generalizing d with
  | nil => exact h
  | cons b l ih => exact ih _ (hg d b h)

theorem Device.ite_wf (c : Prop) [Decidable c] (x y : Device) (hx : x.memWf) (hy : y.memWf) :
    (if c then x else y).memWf := by
  split
  · exact hx
  · exact hy

/-- The replacement of lost elements stores whole elements and renews lines. -/
theorem Device.replaceLost_wf (base : Nat) (h : d.memWf) : (d.replaceLost base a).memWf := by
  unfold Device.replaceLost
  refine Device.foldl_wf _ _ _ (fun x l hx => ?_) h
  refine Device.renew_wf _ _ _ (Device.foldl_wf _ _ _ (fun y j hy => ?_) (Device.foldl_wf _ _ _ (fun y j hy => ?_) hx))
  · exact Device.ite_wf _ _ _ (Device.store_wf _ _ _ hy) hy
  · exact Device.ite_wf _ _ _ (Device.store_wf _ _ _ hy) hy

theorem Device.addStored_wf (base : Nat) (re im : Int) (f : Bool) (c : Nat) (h : d.memWf) :
    (d.addStored base a re im f c).memWf := by
  unfold Device.addStored
  exact Device.store_wf _ _ _ (Device.ite_wf _ _ _ (Device.replaceLost_wf _ _ _ h) h)

theorem Device.addElem_wf (base : Nat) (re im : Int) (f : Bool) (c : Nat) (h : d.memWf) :
    (d.addElem base a re im f c).2.memWf :=
  Device.addStored_wf _ _ _ _ _ _ _ (Device.keeps_wf _ (Device.delivered_keeps _ _ _) (by simp) h)

theorem Device.addAuto_wf (base sum c : Nat) (f : Bool) (h : d.memWf) : (d.addAuto base i sum c f).2.memWf := by
  unfold Device.addAuto
  exact Device.store_wf _ _ _ (Device.ite_wf _ _ _
    (Device.replaceLost_wf _ _ _ (Device.keeps_wf _ (Device.delivered_keeps _ _ _) (by simp) h)) h)

theorem Device.defaultHit_keeps (m addr : Nat) (w r : Bool) : d.keeps (d.defaultHit m addr w r) [.regs] := by
  unfold Device.defaultHit
  refine Device.keeps_inc _ ?_ (by simp)
  refine Device.keeps_ite _ (fun _ => Device.keeps_refl) fun _ => ?_
  exact Device.keeps_setPair _ _ _ Device.keeps_refl (by simp)

theorem Device.missed_keeps (m addr : Nat) (h w : Bool) : d.keeps (d.missed m h addr w) [.regs] :=
  Device.keeps_ite _ (fun _ => Device.defaultHit_keeps d m addr w false) fun _ => Device.keeps_refl

/-- A write of the staging slot changes the slot and the registers that report it. -/
theorem Device.writeStaging_keeps {e : Device} (h : d.writeStaging a bs = some e) : d.keeps e [.drafts, .poison, .regs] := by
  unfold Device.writeStaging at h
  split at h
  · cases h
  · cases h
    refine Device.keeps_setPair _ _ _ (Device.keeps_set _ _ ?_ (by simp)) (by simp)
    exact Device.keeps_poison (e := { d with drafts := d.drafts.putStaging _ bs }) _
      (Device.keeps_drafts _ Device.keeps_refl (by simp)) (by simp)

/-- A refused write of a bank is shown and counted. -/
theorem Device.bankRefused_keeps : d.keeps ((d.put HST_EVENT.write_refused true).inc HST_CNT_REFUSED.count) [.regs] :=
  Device.keeps_inc _ (Device.keeps_put _ _ Device.keeps_refl (by simp)) (by simp)

theorem Device.storeFor_keeps (u : MemUser) : d.keeps (d.storeFor u a bs) [.mem, .poison, .drm] :=
  Device.keeps_trans (Device.keeps_mono (Device.store_keeps d a bs) (by simp)) (Device.enters_keeps _ _ _ _ _) (by simp)

theorem Device.storeFor_wf (u : MemUser) (h : d.memWf) : (d.storeFor u a bs).memWf :=
  Device.keeps_wf _ (Device.enters_keeps _ _ _ _ _) (by simp) (Device.store_wf d a bs h)

/-- A write through the windows changes memory, the staging slot, registers that report it, and the controllers' queues. -/
theorem Device.winWrite_keeps (m : Nat) (heddle : Bool) :
    d.keeps (d.winWrite m heddle a bs).2 [.mem, .poison, .regs, .drafts, .drm] := by
  unfold Device.winWrite
  split
  · exact Device.keeps_mono (Device.missed_keeps _ _ _ _ _) (by simp)
  · split
    · exact Device.keeps_refl
    · split
      · split
        · exact Device.keeps_refl
        · rename_i h
          exact Device.keeps_trans (Device.keeps_mono (Device.writeStaging_keeps _ _ _ h) (by simp))
            (Device.enters_keeps _ _ _ _ _) (by simp)
      · split
        · exact Device.keeps_mono (Device.bankRefused_keeps d) (by simp)
        · exact Device.keeps_mono (Device.storeFor_keeps _ _ _ _) (by simp)

theorem Device.winWrite_wf (m : Nat) (heddle : Bool) (h : d.memWf) : (d.winWrite m heddle a bs).2.memWf := by
  unfold Device.winWrite
  split
  · exact Device.keeps_wf _ (Device.missed_keeps d m a heddle true) (by simp) h
  · split
    · exact h
    · split
      · split
        · exact h
        · rename_i hs
          exact Device.keeps_wf _ (Device.enters_keeps _ _ _ _ _) (by simp)
            (Device.keeps_wf _ (Device.writeStaging_keeps _ _ _ hs) (by simp) h)
      · split
        · exact Device.keeps_wf _ (Device.bankRefused_keeps d) (by simp) h
        · exact Device.storeFor_wf _ _ _ _ h

end Sys2Proof.Machine
end

