-- ==== Sys2Proof/Laws/Controller.lean ====
section
/-! SUPPORT. What the operations of a channel's controller and of the matrix's masters may change. -/

namespace Sys2Proof.Machine

variable (d : Device) (ch a : Nat)

theorem Device.closeRows_keeps (p : Nat → Bool) : d.keeps (d.closeRows ch p) [.drm] :=
  Device.keeps_drm _ Device.keeps_refl (by simp)

theorem Device.serveMarks_keeps : d.keeps (d.serveMarks ch) [.regs, .drm] := by
  unfold Device.serveMarks
  exact Device.keeps_ite _ (fun _ => Device.keeps_refl) fun _ =>
    Device.keeps_add _ _ (Device.keeps_drm _ Device.keeps_refl (by simp)) (by simp)

/-- Opening a row changes the channel and its count of DRFM commands. -/
theorem Device.openRow_keeps (b r : Nat) : d.keeps (d.openRow ch b r) [.regs, .drm] := by
  have h : d.keeps ((d.closeRows ch fun k => k == b).serveMarks ch) [.regs, .drm] :=
    Device.keeps_trans (Device.keeps_mono (Device.closeRows_keeps d ch _) (by simp)) (Device.serveMarks_keeps _ _) (by simp)
  unfold Device.openRow
  refine Device.keeps_ite _ (fun _ => Device.keeps_refl) fun _ => ?_
  exact Device.keeps_ite _ (fun _ => Device.keeps_inc _ (Device.keeps_drm _ h (by simp)) (by simp))
    fun _ => Device.keeps_drm _ h (by simp)

theorem Device.portWait_keeps (p w : Nat) : d.keeps (d.portWait ch p w) [.regs] := by
  have h : d.keeps (d.peak (DRM_PWAIT.peak ch p) w) [.regs] := Device.keeps_peak _ _ Device.keeps_refl (by simp)
  exact Device.keeps_ite _ (fun _ => Device.keeps_inc _ h (by simp)) fun _ => h

theorem Device.caCheck_keeps : d.keeps (d.caCheck ch a) [.regs, .sup] := Device.check_keeps _ _ _ _

/-- A command slot changes the channel, its registers and, by an injection, the fault state. -/
theorem Device.serveSlot_keeps (x : MemSlot) (t : Nat) : d.keeps (d.serveSlot ch x t) [.regs, .sup, .drm] := by
  unfold Device.serveSlot
  refine Device.keeps_trans (Device.keeps_trans ?_ (Device.portWait_keeps _ _ _ _) (by simp)) (Device.caCheck_keeps _ _ _) (by simp)
  exact Device.keeps_foldl _ _ (fun y u => Device.keeps_mono (Device.openRow_keeps y ch _ _) (by simp)) Device.keeps_refl

theorem Device.drainChannel_keeps : d.keeps (d.drainChannel ch) [.regs, .sup, .drm] :=
  Device.keeps_foldl _ _ (fun y x => Device.serveSlot_keeps y ch x _) (Device.keeps_drm _ Device.keeps_refl (by simp))

theorem Device.settleMemory_keeps : d.keeps d.settleMemory [.regs, .sup, .drm] := by
  refine Device.keeps_foldl _ _ (fun y c => ?_) Device.keeps_refl
  exact Device.keeps_trans (Device.keeps_trans (Device.drainChannel_keeps y c) (Device.closeRows_keeps _ _ _) (by simp))
    (Device.serveMarks_keeps _ _) (by simp)

theorem Device.lineCorrected_keeps (v r : Nat) : d.keeps (d.lineCorrected ch v r) [.regs] := by
  have k : ∀ {e : Device} (f : Fld) (v : Nat), d.keeps e [.regs] → d.keeps (e.set f v) [.regs] :=
    fun f v h => Device.keeps_set f v h (by simp)
  exact k _ _ (k _ _ (k _ _ (k _ _ (k _ _ Device.keeps_refl))))

theorem Device.lineFound_keeps (e : LineEcc) : d.keeps (d.lineFound ch a e) [.regs, .sup, .poison] := by
  have h : d.keeps (d.check (drmBlk ch) 1 (lineSeen e == .bad || d.poisoned a 1) (a / 64 * 64 % 2 ^ 32)).2 [.regs, .sup, .poison] :=
    Device.keeps_mono (Device.check_keeps _ _ _ _) (by simp)
  unfold Device.lineFound
  dsimp only
  refine Device.keeps_ite _ (fun _ => Device.keeps_trans h (Device.linePoisoned_keeps _ _ _) (by simp)) fun _ => ?_
  split
  · exact Device.keeps_trans h (Device.lineCorrected_keeps _ _ _ _) (by simp)
  · exact h

theorem Device.replaceLost_keeps (base : Nat) : d.keeps (d.replaceLost base a) [.mem, .poison] := by
  unfold Device.replaceLost
  refine Device.keeps_foldl _ _ (fun x l => ?_) Device.keeps_refl
  refine Device.keeps_poison _ ?_ (by simp)
  refine Device.keeps_foldl _ _ (fun y j => ?_) (Device.keeps_foldl _ _ (fun y j => ?_) Device.keeps_refl)
  · exact Device.keeps_ite _ (fun _ => Device.store_keeps _ _ _) fun _ => Device.keeps_refl
  · exact Device.keeps_ite _ (fun _ => Device.store_keeps _ _ _) fun _ => Device.keeps_refl

theorem Device.addStored_keeps (base : Nat) (re im : Int) (f : Bool) (c : Nat) :
    d.keeps (d.addStored base a re im f c) [.mem, .poison] := by
  unfold Device.addStored
  refine Device.keeps_trans ?_ (Device.store_keeps _ _ _) (by simp)
  exact Device.keeps_ite _ (fun _ => Device.replaceLost_keeps d a base) fun _ => Device.keeps_refl

/-- The parts that an accepted request may change. -/
def requestParts : List Part := [.regs, .freeN, .sup, .poison, .drm, .hdl, .mem, .drafts]

theorem Device.serve_keeps (u : MemUser) (q : MemReq) : d.keeps (d.serve u q) requestParts := by
  cases q with
  | read a n => exact Device.keeps_mono (Device.enters_keeps _ _ _ _ _) (by simp [requestParts])
  | add a re im f n =>
    exact Device.keeps_trans (Device.keeps_mono (Device.addStored_keeps d a _ re im f n) (by simp [requestParts]))
      (Device.enters_keeps _ _ _ _ _) (by simp [requestParts])
  | write a bs =>
    unfold Device.serve
    dsimp only
    split
    · exact Device.keeps_mono (Device.winWrite_keeps _ _ _ _ _) (by simp [requestParts])
    · exact Device.keeps_mono (Device.enters_keeps _ _ _ _ _) (by simp [requestParts])
    · exact Device.keeps_ite _ (fun _ => Device.keeps_mono (Device.storeFor_keeps _ _ _ _) (by simp [requestParts]))
        fun _ => Device.keeps_refl

theorem Device.grant_keeps (x : MemAsk) : d.keeps (d.grant x) requestParts :=
  Device.keeps_trans (Device.keeps_foldl _ _ (fun y e => Device.keeps_mono (Device.lineFound_keeps y _ _ _) (by simp [requestParts]))
    Device.keeps_refl) (Device.serve_keeps _ _ _) fun _ h => h

/-- A request that comes changes no more than an accepted one. -/
theorem Device.accept_keeps (x : MemAsk) : d.keeps (d.accept x) requestParts := by
  unfold Device.accept
  dsimp only
  split
  · refine Device.keeps_ite _ (fun _ => Device.keeps_refl) fun _ => Device.keeps_ite _
      (fun _ => Device.keeps_hdl _ Device.keeps_refl (by simp [requestParts])) fun _ => ?_
    have h {m v : Nat} : d.keeps (d.peak (mtxPeak m) v) requestParts :=
      Device.keeps_peak _ _ Device.keeps_refl (by simp [requestParts])
    split
    · exact Device.keeps_trans h (Device.missed_keeps _ _ _ _ _) (by simp [requestParts])
    · exact Device.keeps_ite _ (fun _ => Device.keeps_trans h (Device.grant_keeps _ _) fun _ h => h) fun _ => h
  · exact Device.keeps_ite _ (fun _ => Device.grant_keeps _ _) fun _ => Device.keeps_refl

/-- What a master has waiting is served. -/
theorem Device.finishMaster_keeps (m : Nat) : d.keeps (d.finishMaster m) requestParts := by
  have k (e : Device) (l : List Nat) (p : MemSlot → Bool) : e.keeps (l.foldl (fun (d : Device) ch =>
      if ((d.dram ch).queue.any p) = true then d.drainChannel ch else d) e) requestParts :=
    Device.keeps_foldl _ _ (fun y c => Device.keeps_ite _
      (fun _ => Device.keeps_mono (Device.drainChannel_keeps y c) (by simp [requestParts])) fun _ => Device.keeps_refl) Device.keeps_refl
  unfold Device.finishMaster
  refine Device.keeps_foldl _ _ (fun y x => ?_) ?_
  · exact Device.keeps_trans (Device.accept_keeps y x) (k _ _ _) fun _ h => h
  · exact Device.keeps_trans (Device.keeps_hdl _ Device.keeps_refl (by simp [requestParts])) (k _ _ _) fun _ h => h

/-- A request of a matrix master follows what it has waiting, shows in its peak, and takes a free value where it is one of several. -/
theorem Device.request_keeps (m n : Nat) : d.keeps (d.request m n) requestParts := by
  have h := Device.finishMaster_keeps d m
  unfold Device.request
  exact Device.keeps_set _ _ (Device.keeps_ite _ (fun _ => h) fun _ => Device.keeps_freeN _ h (by simp [requestParts]))
    (by simp [requestParts])

/-! ### The canonical form -/

theorem Device.serve_wf (u : MemUser) (q : MemReq) (h : d.memWf) : (d.serve u q).memWf := by
  cases q with
  | read a n => exact Device.keeps_wf _ (Device.enters_keeps _ _ _ _ _) (by simp) h
  | add a re im f n =>
    exact Device.keeps_wf _ (Device.enters_keeps _ _ _ _ _) (by simp) (Device.addStored_wf _ _ _ _ _ _ _ h)
  | write a bs =>
    unfold Device.serve
    dsimp only
    split
    · exact Device.winWrite_wf _ _ _ _ _ h
    · exact Device.keeps_wf _ (Device.enters_keeps _ _ _ _ _) (by simp) h
    · exact Device.ite_wf _ _ _ (Device.storeFor_wf _ _ _ _ h) h

theorem Device.grant_wf (x : MemAsk) (h : d.memWf) : (d.grant x).memWf :=
  Device.serve_wf _ _ _ (Device.foldl_wf _ _ _ (fun y _ hy =>
    Device.keeps_wf y (Device.lineFound_keeps y _ _ _) (by simp) hy) h)

theorem Device.accept_wf (x : MemAsk) (h : d.memWf) : (d.accept x).memWf := by
  unfold Device.accept
  dsimp only
  split
  · refine Device.ite_wf _ _ _ h (Device.ite_wf _ _ _ h ?_)
    have hp {m v : Nat} : (d.peak (mtxPeak m) v).memWf :=
      Device.keeps_wf d (Device.keeps_peak (ps := [.regs]) _ _ Device.keeps_refl (by simp)) (by simp) h
    split
    · exact Device.keeps_wf _ (Device.missed_keeps _ _ _ _ _) (by simp) hp
    · exact Device.ite_wf _ _ _ (Device.grant_wf _ _ hp) hp
  · exact Device.ite_wf _ _ _ (Device.grant_wf _ _ h) h

/-- A request keeps memory's canonical form. -/
theorem Device.request_wf (m n : Nat) (h : d.memWf) : (d.request m n).memWf := by
  have k (e : Device) (l : List Nat) (p : MemSlot → Bool) (he : e.memWf) : (l.foldl (fun (d : Device) ch =>
      if ((d.dram ch).queue.any p) = true then d.drainChannel ch else d) e).memWf :=
    Device.foldl_wf _ _ _ (fun y c hy => Device.ite_wf _ _ _
      (Device.keeps_wf y (Device.drainChannel_keeps y c) (by simp) hy) hy) he
  have hf : (d.finishMaster m).memWf := by
    unfold Device.finishMaster
    exact Device.foldl_wf _ _ _ (fun y x hy => k _ _ _ (Device.accept_wf _ x hy)) (k _ _ _ h)
  unfold Device.request
  exact Device.ite_wf (n ≤ 1) (d.finishMaster m) (d.finishMaster m).nextFree hf hf

end Sys2Proof.Machine
end

