-- ==== Sys2Proof/Laws/Dispatch.lean ====
section
/-! SUPPORT. What every command does to the state as a whole: it acts on a device that is not held, and leaves the queue. -/

namespace Sys2Proof.Machine

/-- Every command but the three of the pins PWROK and RST_N is an effect that reset holds back. -/
theorem exec_act (c : Instr) (h1 : c ≠ .powerOnReset) (h2 : c ≠ .pwrokFall) (h3 : ∀ t b, c ≠ .coldStart t b) :
    ∃ f, ∀ s, exec c s = s.act f := by
  cases c
  case powerOnReset => exact absurd rfl h1
  case pwrokFall => exact absurd rfl h2
  case coldStart t b => exact absurd rfl (h3 t b)
  all_goals
    apply Exists.intro
    intro s
    dsimp only [exec]
    first
      | rfl
      | exact State.actReg_eq _ _ _
      | (unfold execSetHost; rfl)
      | (unfold execHostAck; rfl)

end Sys2Proof.Machine
end

