-- ==== Sys2Proof/WellFormed.lean ====
section
/-! DEFINITION. Which commands are well formed: numbers within the widths the spec gives them, lists of the lengths it
gives. The machine executes any command of the type; these are the ones the block's surroundings can send. -/

namespace Sys2Proof

/-- An extended pick number: 16 bits of epoch, 48 of PN (02 R40). -/
def okPick (n : Nat) : Bool := n < 2 ^ 64

/-- The line bits of one block: 256, and at most one stuffed bit after every 31 (03 R57, R61). -/
def okBlock (bits : List Bool) : Bool := 256 ≤ bits.length && bits.length ≤ 265

/-- The commands whose operands lie in the spec's ranges. -/
def Instr.wellFormed : Instr → Bool
  | .dramTrainingDone rs => rs.length == 24 && rs.all fun r => r.lanes.length == 10
  | .selfRefreshExit _ (.retrained ls) => ls.length == 10
  | .resume n => okPick n
  | .periodEnd e => e < 4096
  | .matrixReadoutEnd e _ => e < 4096
  | .dataBlock _ _ _ bits _ => okBlock bits
  | .idleBlock _ _ _ bits => okBlock bits
  | .trainBlock _ _ _ bits => okBlock bits
  | .markerBlock _ _ _ bits => okBlock bits
  | .invalidTypeBlock _ _ _ bits => okBlock bits
  | .adaptWindowEnd _ _ ns => ns.length == 8
  | .clothRxFrame _ _ _ f => f.length ≤ 9216
  | .heddleRxFrame _ _ f => f.length ≤ 9216
  | .regRead _ as => 1 ≤ as.length && as.length ≤ 64
  | .regWrite _ ps _ => 1 ≤ ps.length && ps.length ≤ 64
  | .memRead _ _ len chunk => 1 ≤ len && len < 2 ^ 32 && chunk < 65536
  | .pieceCommit _ _ len sha => len < 2 ^ 32 && sha.length == 32
  | .pieceMap _ _ n => n < 65536
  | .noticeCfg _ rate rto => rate < 65536 && rto < 65536
  | .provision _ body => body.length == 48
  | .setKey _ body => body.length == 48
  | .setDraftKey _ _ key => key.length == 32
  | .memoryWrite _ _ data => 1 ≤ data.length && data.length ≤ 8192
  | .imageWrite _ _ data => 1 ≤ data.length && data.length ≤ 8192
  | .hostAck _ _ also => also.length ≤ 16
  | .matrixMemoryWrite _ _ data => 1 ≤ data.length && data.length ≤ 512
  | .clean m _ dirty => m.val < 2 && dirty.all fun c => c.1 < 2 ^ 48
  | .cleanInv m _ dirty => m.val < 2 && dirty.all fun c => c.1 < 2 ^ 48
  | .inv m _ => m.val < 2
  | .hdlKick m _ => m.val < 2
  | .dqsOscTrack _ ms => ms.length == 10
  | .memoryAccess _ asks _ _ t => asks.all fun x => decide (x.since ≤ t) && decide (x.ecc.length ≤ 4) && match x.req with
    | .read a n => a < 2 ^ 48 && 1 ≤ n && n ≤ 128
    | .write a bs => a < 2 ^ 48 && 1 ≤ bs.length && bs.length ≤ 128
    | .add a _ _ _ c => a < 2 ^ 48 && c < 2 ^ 23
  | .faultRaised _ _ real inj _ _ => real || inj
  | .registerWrite _ a _ _ => a.toNat % 4 == 0
  | .eventNotice a => a.toNat % 4 == 0
  | _ => true

end Sys2Proof
end

