-- ==== Sys2Proof/Tests/Slice0.lean ====
section
/-! SUPPORT. Tests: ill-formed commands that the well-formedness check refuses, and for every obligation with hypotheses a
concrete state and operands that meet them (`wit_<obligation>`), clause by clause, at boundary values where a clause has a
range. Expected values come from the spec's tables and rules. -/

open Sys2Proof Sys2Proof.Machine

set_option Elab.async false

namespace Sys2Proof.Tests

/-- A device just reset, with these register fields set. -/
def dv (l : List (Fld × Nat)) : Device := l.foldl (fun d p => d.set p.1 p.2) Device.cold

/-- The register at `addr` exists and satisfies `p`. -/
def regIs (addr : Nat) (p : RegDesc → Bool) : Bool :=
  match descAt addr with
  | none => false
  | some (r, _, _) => p r

/-! ### Well-formed commands: an ill-formed one for each check -/

def fit : LaneFit := { rdCentre := 32, rdWidth := 16, wrCentre := 32, wrWidth := 16 }
def dimm : Spd := { registered := true, width := 4, dieGb := 16, stacked := false, ranks := 1, capGb := 32, bin := 5600, modules := 1,
                    checked := true, i3c := true, rfm := none }
def module : ModuleReport := { spd := some dimm, lanes := List.replicate 10 fit }
def host : HostHdr := { port := 0, src := { mac := 1, ip := 2, udp := 3, tag := none }, seq := 1, factory := false }
def zeros (n : Nat) : List Byte := List.replicate n 0

theorem test_wf_training : (Instr.dramTrainingDone (List.replicate 24 module)).wellFormed = true ∧
    (Instr.dramTrainingDone (List.replicate 23 module)).wellFormed = false ∧
    (Instr.dramTrainingDone (List.replicate 24 { module with lanes := [fit] })).wellFormed = false := by decide +kernel
theorem test_wf_exit : (Instr.selfRefreshExit 23 (.retrained (List.replicate 9 fit))).wellFormed = false := by decide
theorem test_wf_resume : (Instr.resume (2 ^ 64)).wellFormed = false ∧ (Instr.resume (2 ^ 64 - 1)).wellFormed = true := by decide
theorem test_wf_period : (Instr.periodEnd 4096).wellFormed = false ∧
    (Instr.matrixReadoutEnd 4096 1).wellFormed = false := by decide
theorem test_wf_blocks : ([255, 266].all fun n => let b := List.replicate n true
    [Instr.dataBlock 0 0 0 b false, .idleBlock 0 0 0 b, .trainBlock 0 0 0 b, .markerBlock 0 0 0 b,
     .invalidTypeBlock 0 0 0 b].all fun c => !c.wellFormed) = true ∧
    (Instr.markerBlock 63 3 0 (List.replicate 265 true)).wellFormed = true := by decide +kernel
theorem test_wf_frames : (Instr.clothRxFrame 31 0 ⟨0, 0, true⟩ (zeros 9217)).wellFormed = false ∧
    (Instr.heddleRxFrame 1 true (zeros 9217)).wellFormed = false := by decide +kernel
theorem test_wf_lists : (Instr.regRead host []).wellFormed = false ∧
    (Instr.regRead host (List.replicate 65 0)).wellFormed = false ∧ (Instr.regWrite host [] 0).wellFormed = false ∧
    (Instr.regWrite host (List.replicate 65 (0, 0)) 0).wellFormed = false ∧
    (Instr.hostAck host 0 (List.replicate 17 0)).wellFormed = false := by decide +kernel
theorem test_wf_reads : (Instr.memRead host 0 0 64).wellFormed = false ∧ (Instr.memRead host 0 (2 ^ 32) 64).wellFormed = false ∧
    (Instr.memRead host 0 1 65536).wellFormed = false ∧ (Instr.pieceMap host 0 65536).wellFormed = false := by decide
theorem test_wf_settings : (Instr.noticeCfg host 65536 1).wellFormed = false ∧ (Instr.noticeCfg host 1 65536).wellFormed = false ∧
    (Instr.provision host (zeros 47)).wellFormed = false ∧ (Instr.setKey host (zeros 49)).wellFormed = false ∧
    (Instr.setDraftKey host 0 (zeros 31)).wellFormed = false := by decide
theorem test_wf_pieces : (Instr.pieceCommit host 0 (2 ^ 32) (zeros 32)).wellFormed = false ∧
    (Instr.pieceCommit host 0 1 (zeros 31)).wellFormed = false ∧ (Instr.memoryWrite host 0 []).wellFormed = false ∧
    (Instr.imageWrite host 0 []).wellFormed = false := by decide
theorem test_wf_bulk : (Instr.memoryWrite host 0 (zeros 8193)).wellFormed = false ∧
    (Instr.imageWrite host 0 (zeros 8193)).wellFormed = false ∧ (Instr.matrixMemoryWrite 0 0 []).wellFormed = false ∧
    (Instr.matrixMemoryWrite 0 0 (zeros 513)).wellFormed = false := by decide +kernel
theorem test_wf_pairs : (Instr.clean 2 0 []).wellFormed = false ∧ (Instr.clean 1 0 [(2 ^ 48, 0)]).wellFormed = false ∧
    (Instr.cleanInv 2 0 []).wellFormed = false ∧ (Instr.inv 4 0).wellFormed = false ∧
    (Instr.hdlKick 3 0).wellFormed = false := by decide
theorem test_wf_access : (Instr.dqsOscTrack 0 []).wellFormed = false ∧
    (Instr.memoryAccess 0 [⟨.ring, .read 0 1, 1, []⟩] [] false 0).wellFormed = false ∧
    (Instr.memoryAccess 0 [⟨.ring, .read 0 129, 0, []⟩] [] false 0).wellFormed = false ∧
    (Instr.memoryAccess 0 [⟨.ring, .write (2 ^ 48) [1], 0, []⟩] [] false 0).wellFormed = false ∧
    (Instr.memoryAccess 0 [⟨.spillDrain, .add 0 0 0 false (2 ^ 23), 0, []⟩] [] false 0).wellFormed = false := by decide
theorem test_wf_faults : (Instr.faultRaised .glb 0 false false 0 ⟨0, 0⟩).wellFormed = false ∧
    (Instr.registerWrite 3 2 0 0).wellFormed = false ∧ (Instr.eventNotice 1).wellFormed = false := by decide

/-! ### The queue, the pins, registers -/

theorem wit_EveryCommandCompletesAndLeavesTheQueue : ({ Device.cold with held := true } : Device).held = true ∧
    Instr.pwdClr ≠ .powerOnReset ∧ Instr.pwdClr ≠ .pwrokFall ∧ ∀ t b, Instr.pwdClr ≠ .coldStart t b :=
  ⟨rfl, by decide, by decide, fun _ _ => nofun⟩

theorem wit_PinsAgreeIsKept : let s : State := { dev := Device.cold, pending := [.pwrokFall] }
    s.pinsAgree ∧ ∃ t, step s = .next t ∧ t.dev.powered = false :=
  ⟨fun h => (nomatch h), _, rfl, rfl⟩

theorem wit_AccessCodesGovernWrites :
    let fs : List FieldDesc := [⟨0, 1, .rw, 0⟩, ⟨1, 2, .rwp, 0⟩, ⟨3, 5, .ro, 0⟩, ⟨8, 1, .roh, 0⟩, ⟨9, 22, .wo, 0⟩, ⟨31, 1, .w1c, 0⟩]
    (∀ f ∈ fs, f.lo + f.w ≤ 32) ∧ fs.Pairwise fun f g => f.lo + f.w ≤ g.lo ∨ g.lo + g.w ≤ f.lo := by decide

theorem wit_RegistersAndPairsAreReadAndWritten :
    (Device.cold.held = false ∧ Device.cold.issues 3 = true ∧
      regIs REF_CFG.revertive.addr (fun r => r.half == .single && r.writable && !r.id.acts) = true) ∧
    (let lo := PCK_LOAD_PN_LO.word.addr
     let hi := PCK_LOAD_PN_HI.word.addr
     let held := (Device.cold.setWlatch 3 (some (lo, 7))).setRlatch 3 (some (hi, 9))
     hi = lo + 4 ∧ regIs lo (fun r => r.half == .lo && r.writable && !r.id.acts) = true ∧
     regIs hi (fun r => r.half == .hi && r.writable && !r.id.acts) = true ∧
     Sparse.get (fun _ => none) held.wlatch 3 = some (lo, 7) ∧ Sparse.get (fun _ => none) held.rlatch 3 = some (hi, 9) ∧
     Sparse.get (fun _ => none) Device.cold.wlatch 3 = none ∧ held.issues 3 = true) := by decide +kernel

theorem wit_ClearCommandsZeroTheirCounters : Device.cold.held = false := rfl

/-! ### Attached memory -/

/-- Attached memory is in use, 8 GB to a channel; channel 0 runs; bank A lies at 4096. -/
def memDev : Device :=
  { dv [(DRM_CFG.cap_gb 0, 8), (DRM_STAT.state 0, 2), (HST_BASE_A_LO.base_lo, 4096)] with
    boot := { Device.cold.boot with dramReady := true } }

theorem wit_AttachedMemoryIsReadAndWritten :
    (memDev.issues 3 = true ∧ memDev.decodes false (memDev.generalSize - 64) 64 = some (.general (memDev.generalSize - 64)) ∧
      memDev.bankGuard (memDev.generalSize - 64) 64 = false) ∧
    (let d := memDev.put PCK_WEAVE_STAT.woven true
     d.decodes false 4095 2 = some (.general 4095) ∧ d.bankGuard 4095 2 = true ∧ d.bankGuard 4095 1 = false) ∧
    (memDev.decodes false memDev.generalSize 1 = none ∧ memDev.window false memDev.generalSize = none ∧
      memDev.decodes false (memDev.generalSize - 1) 2 = none ∧ (memDev.window false (memDev.generalSize - 1)).isSome = true ∧ (memDev.put MTX_DEFAULT_HI.valid true).flag MTX_DEFAULT_HI.valid = true) ∧
    (lineChannel 0 = 0 ∧ lineChannel (768 * 24 - 1) = 23 ∧ memDev.chanRuns 0 = true ∧ 128 ≤ memDev.generalSize ∧
     (memDev.dram 0).queue = [] ∧ (memDev.dram 0).marks = [] ∧ MemUser.ring ≠ .ledger ∧ (∀ m, MemUser.ring ≠ .matrix m) ∧
     memDev.boot.dramReady = true) := by decide +kernel

theorem wit_MemoryChannelsTrainRefreshAndScrub :
    (let d := (List.range 24).foldl (fun d ch => d.set (DRM_STAT.state ch) 1) Device.cold
     let rs := List.replicate 24 module
     (∀ ch, ch < 24 → d.get (DRM_STAT.state ch) = 1) ∧ rs.length = 24 ∧ (∀ r ∈ rs, r.lanes.length = 10) ∧
     spdSupported dimm = true ∧ spdSupported { dimm with ranks := 3 } = false ∧
     (∀ r ∈ rs, (∀ l ∈ r.lanes, 16 ≤ l.rdWidth.val ∧ 16 ≤ l.wrWidth.val) ∧ r.spd = some dimm) ∧
     ¬ ∀ r ∈ { module with spd := none } :: rs.drop 1, r.spd.isSome = true) ∧
    (memDev.chanRuns 0 = true ∧ memDev.armed (.drm 0) 1 = false ∧ memDev.armed (.drm 0) 2 = false ∧
      (memDev.set (DRM_CFG.ranks 0) 1).hasRank 0 0 = true ∧ (0 : Fin 20) ≠ 1 ∧ memDev.flag (DRM_STAT.hot 0) = false ∧
      memDev.poisoned 0 1 = false) ∧
    (332 ≤ (332 : BitVec 16).toInt ∧ (340 : BitVec 16).toInt ≤ 340 ∧ 340 < (341 : BitVec 16).toInt ∧
      (380 : BitVec 16).toInt ≤ 380) := by decide +kernel

/-! ### Heddle pairs, the shuttle engine -/

theorem wit_PairsKickAndRing : Device.cold.issues 0 = true ∧ Device.cold.issues 1 = true := by decide +kernel

theorem wit_CleanSlotsRunTheirOperations :
    (let d := dv [(HDL_CLEAN_LEN.length 3, 1)]
     d.issues 1 = true ∧ d.flag (HDL_CLEAN_CTL.busy 3) = false ∧ d.get (HDL_CLEAN_LEN.length 3) ≠ 0) ∧
    (Device.cold.flag (HDL_CLEAN_CTL.busy 0) = false ∧ Device.cold.get (HDL_CLEAN_LEN.length 0) = 0) ∧
    (let d := dv ((List.range 4).map fun k => (HDL_CLEAN_CTL.busy k, 1))
     d.allSlotsBusy = true ∧ d.flag (HDL_CLEAN_CTL.busy 3) = true ∧ Sparse.get (fun _ => []) d.hdl.dirty 3 = [] ∧
     d.rsq.held = []) := by decide +kernel

theorem wit_PairFailureAndTakeover :
    (Device.cold.flag HDL_ROLE.pair0_held = false ∧ Device.cold.flag HDL_ROLE.pair1_held = false ∧
      Device.cold.armed .hdl 2 = false) ∧
    (let d := dv [(HDL_ROLE.pair0_held, 1), (HDL_ROLE.ctl, 0)]
     d.flag HDL_ROLE.pair0_held = true ∧ d.flag HDL_ROLE.pair1_held = false ∧ d.get HDL_ROLE.ctl = 0) := by decide +kernel

theorem wit_ShuttleChannelsStartRunAndStop :
    (Device.cold.issues 1 = true ∧ Device.cold.shtState 15 ≠ 1 ∧ Device.cold.shtState 15 ≠ 2) ∧
    (dv [(SHT_CH_STAT.state 15, 1)]).shtState 15 = 1 ∧ (dv [(SHT_CH_STAT.state 15, 2)]).shtState 15 = 2 ∧
    (let d := dv [(SHT_CH_STAT.state 0, 1), (SHT_STAT.last, 15)]
     d.flag SHT_STAT.busy = false ∧ d.nextChannel = some 0) := by decide +kernel

/-- Channel 15 runs, its next descriptor at 64 of attached memory: length 0, 1 or with a reserved bit. -/
def shtDev (bs : List Byte) : Device :=
  ({ dv [(DRM_CFG.cap_gb 0, 8), (SHT_STAT.busy, 1), (SHT_STAT.running, 15), (SHT_CH_NEXT_LO.lo 15, 64)] with
     boot := { Device.cold.boot with dramReady := true } }).store 64 bs


theorem wit_DescriptorsAreFetchedAndChecked :
    (let d := shtDev ((List.replicate 15 (0 : Byte)) ++ [64, 0, 0, 3, 1] ++ List.replicate 12 0)
     let x := readDesc (d.winBytes false 64 32)
     d.flag SHT_STAT.busy = true ∧ d.hdl.desc = none ∧ d.get SHT_STAT.running = 15 ∧ (d.decodes false 64 32).isSome = true ∧
     d.poisoned 64 32 = false ∧ x.2 = true ∧ x.1.bad = false ∧ x.1.len = 64) ∧
    (let d := shtDev (List.replicate 16 (0 : Byte) ++ [0, 0, 0, 3] ++ List.replicate 12 0)
     let x := readDesc (d.winBytes false 64 32)
     x.2 = true ∧ x.1.bad = false ∧ x.1.len = 0 ∧ bit x.1.flags 2 = false) ∧
    (let d := shtDev (List.replicate 31 (0 : Byte) ++ [1])
     (readDesc (d.winBytes false 64 32)).2 = false) ∧
    (let d := shtDev (List.replicate 16 (0 : Byte) ++ [6] ++ List.replicate 15 0)
     let x := readDesc (d.winBytes false 64 32)
     x.2 = true ∧ x.1.bad = true) := by decide +kernel

theorem wit_DescriptorCompleteCopiesItsBytes :
    let x : Desc := { src := 0, dst := 63, len := 64, srcW := 0, dstW := 0, inc := 3, flags := 2, next := 0 }
    let d := { shtDev [1] with hdl := { Device.cold.hdl with desc := some x } }
    d.hdl.waitSlots = [] ∧ d.get SHT_STAT.running = 15 ∧ d.decodes false 0 64 = some (.general 0) ∧
    d.decodes false 63 64 = some (.general 63) ∧ d.poisoned 0 64 = false ∧ d.bankGuard 63 64 = false ∧
    bit x.flags 1 = true := by decide +kernel

/-! ### Picks, commits and device time -/

/-- PCK is RUNNING at PN 2^48 - 1. -/
def runDev : Device := dv [(PCK_STATE.state, 2), (PCK_PN_LO.pn_lo, 0xFFFFFFFF), (PCK_PN_HI.pn_hi, 0xFFFF)]

theorem wit_PickBoundaryAdvancesPn : runDev.held = false ∧ runDev.running = true := by decide +kernel

theorem wit_IdleBoundariesMoveOnlyTheTimer :
    (runDev.restarting = false ∧ runDev.jrn.resumePick = none ∧ runDev.flag GLB_FATAL.fatal = false ∧ runDev.ports = [] ∧
      runDev.woven = false ∧ runDev.beams = none ∧ runDev.sheds.flipDue = false ∧ runDev.sheds.cur = none ∧
      runDev.sheds.ending = none ∧ runDev.chains.closed = [] ∧ runDev.chains.units = [] ∧ runDev.tm.commit = none ∧
      runDev.tm.fwCommit = false ∧ runDev.tm.syncFrom = none ∧ runDev.jrn.landing = [] ∧ runDev.jrn.replays = [] ∧
      runDev.queues = [] ∧
      runDev.drafts.armed = none ∧ runDev.setter.sw = none ∧ ∀ e, e < 4 → runDev.trdState e < 2) ∧
    (let d : Device := { runDev with jrn := { runDev.jrn with quiesced := some true } }
     d.restarting = true ∧ (d.put PCK_WEAVE_STAT.woven true).woven = true ∧
     (d.put PCK_WEAVE_STAT.woven true).restarting = true) ∧
    (let d := { dv [(PCK_STATE.state, 1)] with tm := { Device.cold.tm with armedFrom := 2 } }
     d.get PCK_STATE.state = 1 ∧ d.tm.armedFrom = 2 ∧ d.running = false) ∧
    Device.cold.running = false ∧ Device.cold.get PCK_STATE.state ≠ 1 := by decide +kernel

theorem wit_CommitRequestsCopyTheShadows :
    (Device.cold.issues 4 = true ∧ Device.cold.tm.commit = none ∧ Device.cold.running = false) ∧
    (let d := dv [(PCK_STATE.state, 2), (PCK_COMMIT_AT_LO.word, 1)]
     d.pn < d.commitAt ∧ 2436 + 64 ≤ (d.at_ 2436).boundaryTime d.commitAt ∧
     (d.at_ 2437).boundaryTime d.commitAt < 2437 + 64) ∧
    runDev.commitAt ≤ runDev.pn ∧
    (let c : Clock := { Device.cold.tm with commit := some { shadows := [], at_ := none, moment := 64, atMoment := true } }
     let d : Device := { Device.cold with
       tm := { c with fwCommit := true }, boot := { Device.cold.boot with phase := .running },
       rsq := { Device.cold.rsq with hdrUp := true } }
     c.commit.isSome = true ∧ c.fwCommit = false ∧ d.fwUp = true ∧ d.issues 3 = true ∧ d.tm.fwCommit = true) := by
  decide +kernel

theorem wit_StoppedCommitTakesEffect :
    let c : Commit := { shadows := [], at_ := none, moment := 64, atMoment := true }
    let d := { Device.cold with tm := { Device.cold.tm with commit := some c } }
    let live (f : Fld) : Nat := f.of (Sparse.get resetWord c.shadows f.addr)
    d.running = false ∧ d.tm.fwCommit = false ∧ c.moment ≤ 64 ∧
    (∀ p, p < 64 → live (WRP_CTL.enable p) = d.liveOf (WRP_CTL.enable p) ∧
      (live (WRP_CTL.enable p) = 0 ∨ live (WRP_CTL.retrain p) = d.liveOf (WRP_CTL.retrain p))) ∧
    (∀ p, p < 32 → live (CLO_CTL.enable p) = d.liveOf (CLO_CTL.enable p)) ∧ (∀ k, k < 68 → live (LOM_RETIRE.retire_req k) = 0) ∧
    (∀ e, e < 4 → d.trdState e ≠ 3 ∧ d.trdState e ≠ 4) ∧ live HST_SWAP.req_seq = d.setter.lastSeq := by decide +kernel

theorem wit_SyncRequestsAndTimeLoads :
    (Device.cold.issues 3 = true ∧ Device.cold.tm.syncFrom = none ∧ Device.cold.get PCK_STATE.state ≠ 1 ∧
      Device.cold.woven = false ∧ (Device.cold.put PCK_WEAVE_STAT.woven true).woven = true) ∧
    ({ Device.cold.tm with syncFrom := some 64 } : Clock).syncFrom.isSome = true ∧
    (dv [(PCK_STATE.state, 1)]).get PCK_STATE.state = 1 ∧ Device.cold.tm.armedFrom < 4 := by decide +kernel

theorem wit_DeviceSecondLoadsOrChecksTime :
    (let d := dv [(REF_STAT.second_valid, 1), (REF_STAT.state, 1), (PCK_STATE.state, 1)]
     d.flag REF_STAT.second_valid = true ∧ d.get REF_STAT.state ≠ 3 ∧ d.tm.commit = none ∧ d.tm.syncFrom = none) ∧
    (let d := dv [(REF_STAT.second_valid, 1), (PCK_STATE.state, 2), (PCK_CFG.pps_aligned, 1)]
     let off (t : Nat) : Nat := min ((t - d.tm.pickStart) % d.period) (d.period - (t - d.tm.pickStart) % d.period)
     d.running = true ∧ d.flag PCK_CFG.pps_aligned = true ∧ off 2 ≤ 2 ∧ off 2498 ≤ 2 ∧ 2 < off 3 ∧ 2 < off 2497) := by
  decide +kernel

theorem wit_AppliedThetaSlewsTowardsItsTarget :
    let d := dv [(REF_THETA.theta, 5), (REF_THETA_APP.theta, 3)]
    d.tm.now < 1600 ∧ d.get REF_STAT.state ≠ 2 ∧ sx 32 (d.get REF_THETA_APP.theta) ≤ sx 32 (d.get REF_THETA.theta) ∧
    (d.set REF_STAT.state 2).get REF_STAT.state = 2 ∧
    (let e := d.set REF_THETA.theta 0xFFFFFFFF
     sx 32 (e.get REF_THETA.theta) ≤ sx 32 (e.get REF_THETA_APP.theta)) := by decide +kernel

/-! ### Captures -/

theorem wit_CapturesTriggerReadAndRelease :
    (let d := { dv [(JRN_CFG.cap_limit, 1), (PCK_PN_LO.word, 5), (JRN_CAP_AT_LO.at_lo, 5)] with
                boot := { Device.cold.boot with dramReady := true } }
     d.armed .jrn 4 = false ∧ d.boot.dramReady = true ∧ (∀ n, n < 16 → d.capState n = 0) ∧ d.jrn.segs = [] ∧ d.jrn.lastTrig = none ∧
     1 ≤ d.get JRN_CFG.cap_limit ∧ d.pn ≤ d.pair JRN_CAP_AT_LO.at_lo JRN_CAP_AT_HI.at_hi ∧ d.issues 3 = true) ∧
    ({ Device.cold with trigAck := some 1600 } : Device).trigAck = some 1600 ∧
    (∀ v ∈ [1, 2, 4], (dv [(JRN_CAP_STAT.state 15, v)]).capState 15 = v) := by decide +kernel

theorem wit_CaptureReadoutStartsAndEnds :
    (let d := (dv [(JRN_CAP_STAT.state 15, 2)]).setCapture 15 { Capture.cold with wantRead := true, ports := 2 ^ 63 }
     d.capState 15 = 2 ∧ (d.capture 15).wantRead = true ∧ (d.set (JRN_CAP_STAT.state 15) 4).capState 15 = 4 ∧
     d.onItsWay 0 0 = false ∧ ({ d with jrn := { d.jrn with landing := [(0, 0, [])] } } : Device).onItsWay 0 0 = true) ∧
    (let d := dv [(JRN_CAP_STAT.state 15, 3)]
     d.capState 15 = 3 ∧ (d.capture 15).autoRelease = false ∧ d.armed .jrn 4 = false) := by decide +kernel

/-! ### Looms, bobbins, records -/

def shed : ShedRef :=
  { start := 0, stop := 256, ent := 0, chan := 0, keeps := true, num := 1, base := 0, slog := 0, log2 := 8,
    map := [(67, 7, 511)], part := [], absent := [], bank := false }
/-- A shed in progress, whose last pass is in slot 8 of loom 67 and adds into its region 7. -/
def workDev : Device :=
  { Device.cold with
    sheds := { Sheds.cold with
      cur := some shed
      work := [{ loom := 67, slot := 8, pass := 511, owner := 67, region := 7 }] } }

theorem wit_PassAddsItsCorrelations :
    let w : WorkSlot := { loom := 67, slot := 8, pass := 511, owner := 67, region := 7 }
    let c := workDev.pickSlot ((workDev.pn + 2 ^ 64 - 1) % 2 ^ 64)
    workDev.testen = false ∧ workDev.sheds.cur = some shed ∧ (workDev.sheds.work.filter fun x => x.slot == 8) = [w] ∧
    w.loom = w.owner ∧ (workDev.loom w.owner).bank shed.bank = [] ∧ c.damaged = [] ∧
    (∀ i, i < 8 → bit c.blank (4088 + i) = true) := by decide +kernel

def spill : Spill := { region := 7, word := 16383, re := 1, im := -1, bank := false, pass := 511, shed := 0 }

theorem wit_SpillsDrainIntoTheirElements :
    let d := workDev.setLoom 67 { Loom.cold with spills := [spill] }
    (d.sheds.turn + 1 + 67) % 68 = 67 ∧ (∀ j, j < 67 → (d.loom ((d.sheds.turn + 1 + j) % 68)).spills = []) ∧
    d.sheds.drainedNow < 1024 ∧
    1024 ≤ ({ d.sheds with drainedNow := 1024 }).drainedNow ∧
    ({ d with sheds := { d.sheds with readouts := [{ ent := 0, buf := 0, base := 0 }] } } : Device).bufferBusy shed = true ∧
    (d.loom 67).spills = [spill] ∧ d.sheds.find spill.shed = some shed ∧ d.armed (loomBlk 67) 4 = false ∧ d.sheds.negate = [] ∧
    d.sheds.ending = none ∧ shed.keeps = true ∧ d.bufferBusy shed = false ∧ Memory.wf d.mem = true ∧
    (let a := elemAddr shed.base spill.pass spill.word
     let log := shed.logArea
     d.poisoned a 12 = false ∧ (a + 12 ≤ log ∨ log + 64 + 16 * (d.logCount shed + 1) ≤ a)) ∧ ({ shed with keeps := false } : ShedRef).keeps = false := by decide +kernel

theorem wit_ShedDumpsStartAndEnd :
    let d := { dv [(PCK_PN_LO.word, 258)] with sheds := { Sheds.cold with ending := some shed } }
    (d.drained shed = true ∧ ahead d.pn (shed.stop + 2) = true ∧ 67 ∈ d.owing shed ∧ 67 ∉ d.sheds.dumping ∧
      d.bufferBusy shed = false ∧
      ({ d with sheds := { d.sheds with readouts := [{ ent := 0, buf := 0, base := 0 }] } } : Device).bufferBusy shed = true) ∧
    (let v : BobWord := { re := 1, im := 0, fray := true, count := 1 }
     let e := ({ d with sheds := { d.sheds with dumping := [67] } }).setLoom 67
       (Loom.cold.setBank shed.bank [(16384 * 7 + 16382, v)])
     67 ∈ e.sheds.dumping ∧ e.sheds.apuDone = false ∧ (shed.map.filter fun x => x.1 == 67) = [(67, 7, 511)] ∧
     shed.absent.contains 511 = false ∧ (e.loom 67).bank shed.bank = [(16384 * 7 + 16382, v)] ∧ v.count ≠ 0 ∧ shed.log2 < 15 ∧ e.poison = [] ∧
     (cellInputs 511 (16382 / 128) (16382 % 128)).isSome = true ∧
     e.poisoned (elemAddr 0 511 16382) 12 = false) := by decide +kernel

def period : Period :=
  { num := 1, n := 1, started := 1, done := 1, first := 0, last := 255, pick0 := 2500, changed := false,
    absent := [], replayed := false, memErr := [], apuFault := false }
def ended : EndedPeriod := { ent := 4095, chan := 0, base := 0, log2 := 8, cut := false, per := period, queues := [], due := false }
def replay : Replay :=
  { logical := 0, retired := 0, spare := some 67, takeover := 3, shed := { shed with keeps := false },
    first := 0, last := 2, slots := [(8, 511)], staged := 0, computed := 0, computing := false, parked := none, hurt := [] }

theorem wit_PeriodsAreReadOut :
    (let d := { Device.cold with sheds := { Sheds.cold with ended := [ended] }, boot := { Device.cold.boot with dramReady := true } }
     d.boot.dramReady = true ∧ d.sheds.late = [] ∧ d.sheds.ended = [ended] ∧ ended.per.done = ended.per.started ∧ d.jrn.replays = [] ∧ d.armed .jrn 4 = false ∧
     ({ d with jrn := { d.jrn with replays := [replay] } } : Device).holds ended = true) ∧
    (let r : Readout := { ent := 4095, buf := 1, base := 64 }
     ([r].find? fun x => x.ent == 4095 && x.buf == 1) = some r) := by decide +kernel

theorem wit_ContainedFaultsRetireTheLoom :
    (let d := { Device.cold with sheds := { Sheds.cold with placed := true }, boot := { Device.cold.boot with phase := .running, dramReady := true } }
     d.boot.dramReady = true ∧ d.sheds.worn = [] ∧ d.role 67 = 1 ∧ d.armed .jrn 4 = false ∧ d.sheds.placed = true ∧ d.boot.phase = .running) ∧
    (dv [(LOM_ROLE.role 67, 3)]).role 67 = 3 ∧ (dv [(LOM_ROLE.role 0, 4)]).role 0 = 4 ∧
    LoomFault.operandPar ≠ .spillqU := by decide +kernel

/-- A directory entry of pick 1 without its check code: no pick is valid in the slot. -/
def dirBody : List Byte := be 2 0 ++ [0, 0] ++ be 8 1 ++ List.replicate (140 + 140 + 140 + 140) 0
def dirDev : Device :=
  let d := { Device.cold with jrn := { Journal.cold with segs := [(0, { span := some 0, openPick := 0, lastPick := 1, opened := 0 })] } }
  d.store (d.dirAddr 0 1) (dirBody ++ be 4 992644185)
/-- The CRC-32C register after `n` zero bytes. -/
def crcZeros (n c : Nat) : Nat := (List.replicate n (0 : Byte)).foldl (crcByte 0x82F63B78) c

theorem crcZeros_add (a b c : Nat) : crcZeros (a + b) c = crcZeros b (crcZeros a c) := by
  simp [crcZeros, ← List.replicate_append_replicate, List.foldl_append]

theorem crc32c_zeros (b x : List Byte) (n c k : Nat) (hb : b = x ++ List.replicate n 0)
    (hx : x.foldl (crcByte 0x82F63B78) 0xFFFFFFFF = c) (hz : crcZeros n c = k) : crc32c b = k ^^^ 0xFFFFFFFF := by
  subst hb hx hz
  simp [crc32c, crcReflected, crcZeros]

theorem dirBody_head : (be 2 0 ++ [0, 0] ++ be 8 1 : List Byte).foldl (crcByte 0x82F63B78) 0xFFFFFFFF = 653576609 := by
  decide +kernel
theorem crcZeros_1 : crcZeros 140 653576609 = 10012883 := by decide +kernel
theorem crcZeros_2 : crcZeros 140 10012883 = 2917515718 := by decide +kernel
theorem crcZeros_3 : crcZeros 140 2917515718 = 248368830 := by decide +kernel
theorem crcZeros_4 : crcZeros 140 248368830 = 3302323110 := by decide +kernel
theorem dirBody_tail : crcZeros (140 + 140 + 140 + 140) 653576609 = 3302323110 := by
  rw [crcZeros_add, crcZeros_add, crcZeros_add, crcZeros_1, crcZeros_2, crcZeros_3, crcZeros_4]
theorem dirBody_crc : crc32c dirBody = 992644185 :=
  (crc32c_zeros dirBody _ _ _ _ rfl dirBody_head dirBody_tail).trans (by decide)

/-- An entry whose check code holds, that names the pick and no valid half, reads back as an empty slot. -/
theorem readBack_empty (d : Device) (x g : Nat) (bs : List Nat) (e : List Byte) (hf : d.jrn.find x = some g)
    (hb : d.bytes (d.dirAddr g x) 576 = e) (hp : d.poisoned (d.dirAddr g x) 576 = false)
    (hc : crc32c (e.take 572) = beAt e 572 4) (hx : beAt e 4 8 = x) (hv : beAt e 2 1 % 4 ≠ 3) :
    d.readBack x bs = .slot { CreelSlot.cold with pick := x } := by
  unfold Device.readBack
  rw [hf]
  dsimp only
  rw [hb, hp, if_neg (by decide), if_neg (fun h => h hc), if_neg (fun h => h hx), if_pos hv]

theorem dirDev_bytes : dirDev.bytes (dirDev.dirAddr 0 1) 576 = dirBody ++ be 4 992644185 := by decide +kernel

theorem wit_ReplaysStageTheirPicksAndEnd :
    (let d := { dv [(LOM_ROLE.role 67, 2), (PCK_PN_LO.word, 258)] with
                jrn := { Journal.cold with replays := [replay] }, boot := { Device.cold.boot with dramReady := true } }
     d.role 67 = 2 ∧ d.testen = false ∧ replay.first + replay.staged ≤ replay.last ∧ replay.staged < replay.computed + 2 ∧
     d.onItsWay 0 0 = false ∧ d.boot.dramReady = true ∧ d.armed .jrn 4 = false ∧ d.sheds.ending = none ∧ d.sheds.waiting = [] ∧
     ahead d.pn (replay.shed.stop + 2) = true ∧ (d.loom 67).spills = [] ∧ d.sheds.ended = [] ∧
     d.sheds.find replay.shed.start = none ∧ replay.shed.keeps = false ∧
     ({ replay with staged := 3, computed := 3 }).last < ({ replay with staged := 3, computed := 3 }).first + 3) ∧
    dirDev.readBack 1 (blocksOf [511]) = .slot { CreelSlot.cold with pick := 1 } := by
  refine ⟨by decide +kernel, ?_⟩
  have ht : (dirBody ++ be 4 992644185).take 572 = dirBody := by decide +kernel
  have h1 : beAt (dirBody ++ be 4 992644185) 572 4 = 992644185 := by decide +kernel
  exact readBack_empty dirDev 1 0 _ _ (by decide +kernel) dirDev_bytes (by decide +kernel)
    (by rw [ht, h1]; exact dirBody_crc) (by decide +kernel) (by decide +kernel)

/-! ### Harnesses, chains -/

theorem wit_WeightSetsFollowTheWeightEquation :
    let w : WeightSet :=
      { bank := false, shed := 0, base := 0, gains := 2 ^ 30, nu := 1, log2 := 8, period := 2500,
        complete := false, descs := [(511, 0)], wfault := [], weights := [] }
    let d := { Device.cold with setter := { Setter.cold with job := some { shed := 0, startPick := 0 }, sets := [w] } }
    d.testen = false ∧ d.poison = [] ∧ d.setter.hurt = [] ∧ d.setter.sets = [w] ∧ w.complete = false ∧ w.descs = [(511, 0)] := by decide +kernel

theorem wit_StateRecordsAreFetchedAndWrittenBack :
    (let d := dv [(PCK_WEAVE_STAT.woven, 1), (PCK_PN_LO.word, 1), (PCK_CFG.shed_log2, 8), (PWD_OUT.configured 511, 1), (ZCH_CFG.configured 0, 1)]
     d.woven = true ∧ d.prefetchDue = true ∧ (d.set PCK_PN_LO.word 2).prefetchDue = false ∧ (d.unit 639).wb = none ∧
     (let a := recordAddr d.stateBase (d.entOf d.pn) 639
      ((d.setUnit 639 { d.unit 639 with wb := some (a, 7, none) }).unit 639).wb = some (a, 7, none)) ∧ d.unitOn 639 = true ∧ d.unitOn 0 = true ∧
     d.poisoned (recordAddr d.stateBase (d.entOf d.pn) 639) (recordSize 639) = false) ∧
    (let d := Device.cold.setUnit 639 { Device.cold.unit 639 with wb := some (64, 7, none) }
     (d.unit 639).wb = some (64, 7, none)) := by decide +kernel

/-! ### Warp lanes, frames, the tie lane -/

theorem wit_LineCodingIsUndoneByTheReceiver : (0 : Nat) < 31 ∧ (30 : Nat) < 31 ∧ (29 : Nat) < 30 ∧ true ≠ false := by decide

/-- Port 63 is enabled, in state `st`; lane 2 descrambles and has logical number 3. -/
def warpDev (st : Nat) : Device :=
  ({ dv ([(WRP_PSTAT.state 63, st)] ++ (List.range 4).map fun k => (WRP_LSTAT.lane_id 63 k, (k + 1) % 4)) with
      live := [((WRP_CTL.enable 63).addr, 1)] } : Device).setLane 63 2 { Lane.cold with gen := 0x2A5B3C71 }
/-- The line bits of a block of this type and start field. -/
def lineBits (ty start : Nat) : List Bool := (scramble 0x2A5B3C71 (toBits 256 (ty * 2 ^ 253 + start * 2 ^ 248 + 0x1234567))).1
def openFrame : FrameAsm := { bytes := [5], errored := false, index := 255, faulty := false }

theorem wit_BlocksOfALaneTakeEffect :
    (let d := (warpDev 6).setPort 63 { WarpPort.cold with chunk := 3, frame := some openFrame }
     let x := (d.at_ 10).rxBits 63 2 false (lineBits 3 31)
     d.receiving 63 = true ∧ (d.lane 63 2).gen ≠ 0 ∧ (x.2.lane 63 2).violations < 16 ∧ x.1.type = 3 ∧ x.1.errored = false ∧
     d.wstate 63 = 6 ∧ d.physical 63 3 = 2 ∧ (∀ j, j < 4 → (d.lane 63 j).fifo = []) ∧ Machine.bits x.1.value 248 5 = 31 ∧
     openFrame.bytes.length + 31 < 16464) ∧
    (let d := (warpDev 6).setPort 63 { WarpPort.cold with chunk := 3, frameIndex := 255 }
     let x := (d.at_ 10).rxBits 63 2 false (lineBits 3 30)
     x.1.type = 3 ∧ Machine.bits x.1.value 248 5 = 30 ∧ (d.port 63).frame = none) ∧
    ((warpDev 6).rxBits 63 2 false (lineBits 0 0)).1.type = 0 ∧ (warpDev 6).wstate 63 ≠ 5 ∧
    ((warpDev 6).rxBits 63 2 false (lineBits 6 0)).1.type = 6 ∧ (warpDev 2).wstate 63 ≠ 6 ∧
    ((warpDev 2).rxBits 63 2 false (lineBits 7 0)).1.type = 7 ∧ (warpDev 2).wstate 63 < 5 ∧
    (warpDev 2).receiving 63 = true := by decide +kernel

/-- A marker of lane 3 of port 63 with chunk_count 7. -/
def markerTop : Nat := 5 * 2 ^ 253 + syncPattern * 2 ^ 184 + 3 * 2 ^ 176 + 63 * 2 ^ 164 + 7 * 2 ^ 128
def markerBits : List Bool :=
  ((toBits 256 (markerTop + crc32c (be 28 (markerTop / 2 ^ 32)))).foldl Destuff.stuff
    { run := 0, runBit := false, out := [], bad := 0 }).out.reverse

theorem wit_MarkersLockTheLane :
    let d := (List.range 4).foldl (fun d j => d.set (WRP_LSTAT.lstate 63 j) 1) (warpDev 2)
    let v := (d.rxBits 63 2 true markerBits).1.value
    d.receiving 63 = true ∧ d.wstate 63 = 2 ∧ d.get (WRP_LSTAT.lstate 63 2) = 1 ∧ d.get (WRP_LSTAT.lstate 63 0) < 2 ∧
    ones 64 (Machine.bits v 184 64 ^^^ syncPattern) ≤ 4 ∧ crc32c (be 28 (v / 2 ^ 32)) = v % 2 ^ 32 ∧
    Machine.bits v 164 6 = 63 ∧ Machine.bits v 128 32 = 7 ∧ (d.lane 63 2).lastCount = none ∧
    ((d.setLane 63 2 { Lane.cold with lastCount := some 6 }).lane 63 2).lastCount = some 6 := by decide +kernel

theorem wit_TrainingAndAdaptation :
    ((warpDev 1).liveOf (WRP_CTL.enable 63) = 1 ∧ (warpDev 1).wstate 63 = 1 ∧ (warpDev 2).wstate 63 = 2 ∧
      (warpDev 3).wstate 63 = 3 ∧ ((warpDev 2).set (WRP_LSTAT.lstate 63 2) 2).get (WRP_LSTAT.lstate 63 2) = 2) ∧
    ((warpDev 2).receiving 63 = true ∧ (warpDev 2).flag (WRP_LSTAT.frozen 63 2) = false ∧
      ((warpDev 2).lane 63 2).windowBlocks < 65536 ∧
      ({ Lane.cold with windowBlocks := 65536 } : Lane).windowBlocks = 65536 ∧
      ∀ i, i < 8 → bit 0xF0 (7 - i) = decide (([0, 1, 2, 0, 3, 9, 4, 3] : List Nat).getD i 0 ≤ 2)) := by decide +kernel

/-- The first 60 bytes of a frame of pick 1, port 63, channel 0, input 0 blanked. -/
def frameTop : List Byte := be 2 0x5746 ++ be 1 1 ++ be 1 63 ++ be 4 1 ++ be 8 0 ++ be 8 1 ++ zeros 36
/-- A frame's bytes but for the check code at its end. -/
def frameBody : List Byte := frameTop ++ (be 4 (crc32c frameTop) ++ (List.replicate 16384 0x88 ++ (be 2 0x4657 ++ zeros 10)))
def goodFrame : EndedFrame :=
  { bytes := frameBody ++ be 4 (crc32c frameBody), errored := false, truncated := false, faulty := false, fatal := false,
    index := 255, ended := 2600 }
/-- A woven device in pick 1, begun 100 cycles before. -/
def pickDev : Device :=
  { dv [(PCK_STATE.state, 2), (PCK_WEAVE_STAT.woven, 1), (PCK_PN_LO.word, 1)] with
    tm := { Device.cold.tm with pickStart := 2500, bases := [(0, 0, 2500)], now := 2600 } }

theorem crcByte_lt (p c : Nat) (b : Byte) (hp : p < 2 ^ 32) (hc : c < 2 ^ 32) : crcByte p c b < 2 ^ 32 := by
  have key : ∀ (l : List Nat) (x : Nat), x < 2 ^ 32 →
      l.foldl (fun x _ => if x % 2 = 1 then (x / 2) ^^^ p else x / 2) x < 2 ^ 32 := by
    intro l
    induction l with
    | nil => exact fun _ h => h
    | cons a l ih =>
      intro x h
      refine ih _ ?_
      dsimp only
      split
      · exact Nat.xor_lt_two_pow (by omega) hp
      · omega
  have hb := b.isLt
  exact key _ _ (Nat.xor_lt_two_pow hc (by omega))

theorem crc32c_lt (bs : List Byte) : crc32c bs < 2 ^ 32 := by
  have key : ∀ (l : List Byte) (c : Nat), c < 2 ^ 32 → l.foldl (crcByte 0x82F63B78) c < 2 ^ 32 := by
    intro l
    induction l with
    | nil => exact fun _ h => h
    | cons a l ih => exact fun c h => ih _ (crcByte_lt _ _ _ (by decide) h)
  exact Nat.xor_lt_two_pow (key _ _ (by decide)) (by decide)

theorem beAt_append (x y : List Byte) (o n : Nat) : beAt (x ++ y) (x.length + o) n = beAt y o n := by
  unfold beAt
  congr 1
  funext a i
  rw [Nat.add_assoc, List.getD_eq_getElem?_getD, List.getD_eq_getElem?_getD, List.getElem?_append_right (Nat.le_add_right ..),
    Nat.add_sub_cancel_left]

theorem beAt_be4 (n : Nat) (h : n < 2 ^ 32) : beAt (be 4 n) 0 4 = n := by
  simp [beAt, be, List.range, List.range.loop]
  omega

theorem frameBody_length : frameBody.length = 16460 := by
  have h1 : frameTop.length = 60 := by decide +kernel
  have h2 : (be 4 (crc32c frameTop)).length = 4 := rfl
  have h3 : (be 2 0x4657 ++ zeros 10).length = 12 := by decide +kernel
  unfold frameBody
  simp only [List.length_append, List.length_replicate, h1, h2] at h3 ⊢
  omega

theorem goodFrame_length : goodFrame.bytes.length = 16464 := by
  have h : (be 4 (crc32c frameBody)).length = 4 := rfl
  show (frameBody ++ be 4 (crc32c frameBody)).length = _
  rw [List.length_append, h, frameBody_length]

theorem goodFrame_crc : crc32c (goodFrame.bytes.take 16460) = beAt goodFrame.bytes 16460 4 := by
  show crc32c ((frameBody ++ be 4 (crc32c frameBody)).take 16460) = beAt (frameBody ++ be 4 (crc32c frameBody)) 16460 4
  have h := beAt_append frameBody (be 4 (crc32c frameBody)) 0 4
  rw [frameBody_length] at h
  rw [h, beAt_be4 _ (crc32c_lt _), List.take_append_of_le_length (Nat.le_of_eq frameBody_length.symm),
    List.take_of_length_le (Nat.le_of_eq frameBody_length)]

theorem goodFrame_trailer : beAt goodFrame.bytes 16448 2 = 0x4657 := by
  have e : goodFrame.bytes = (frameTop ++ be 4 (crc32c frameTop) ++ List.replicate 16384 0x88) ++
      (be 2 0x4657 ++ zeros 10 ++ be 4 (crc32c frameBody)) := by
    show frameTop ++ (be 4 (crc32c frameTop) ++ (List.replicate 16384 (0x88 : Byte) ++ (be 2 0x4657 ++ zeros 10))) ++
      be 4 (crc32c frameBody) = _
    simp only [List.append_assoc]
  have h1 : frameTop.length = 60 := by decide +kernel
  have h2 : (be 4 (crc32c frameTop)).length = 4 := rfl
  have hl : (frameTop ++ be 4 (crc32c frameTop) ++ List.replicate 16384 (0x88 : Byte)).length = 16448 := by
    simp only [List.length_append, List.length_replicate, h1, h2]
  have h := beAt_append (frameTop ++ be 4 (crc32c frameTop) ++ List.replicate 16384 0x88)
    (be 2 0x4657 ++ zeros 10 ++ be 4 (crc32c frameBody)) 0 2
  rw [hl] at h
  rw [e, h]
  decide +kernel

theorem frameCode_ok (d : Device) (p : Nat) (e : EndedFrame) (ht : e.truncated = false) (he : e.errored = false)
    (h1 : crc32c (e.bytes.take 60) = beAt e.bytes 60 4) (h2 : beAt e.bytes 0 2 = 0x5746) (h3 : beAt e.bytes 2 1 = 1)
    (h4 : beAt e.bytes 3 1 % 64 = p) (h5 : crc32c (e.bytes.take 16460) = beAt e.bytes 16460 4)
    (h6 : beAt e.bytes 16448 2 = 0x4657) (h7 : d.running = true) (h8 : d.woven = true) : d.frameCode p e = 0 := by
  unfold Device.frameCode
  dsimp only
  rw [ht, he, h7, h8, if_neg (by decide), if_neg (by decide), if_neg (by simp [h1, h2, h3]), if_neg (by rw [h4]; simp),
    if_neg (by simp [h5, h6]), if_neg (by decide)]

theorem setPort_port (d : Device) (p : Nat) (w : WarpPort) : (d.setPort p w).port p = w := Sparse.get_put_same _ _ _ _

theorem wit_FramesAreCheckedAndAnswered :
    (let d := pickDev.setPort 63 { WarpPort.cold with ended := [goodFrame] }
     d.testen = false ∧ (d.port 63).ended = [goodFrame] ∧ goodFrame.bytes.length = 16464 ∧ goodFrame.fatal = false ∧
     d.frameCode 63 goodFrame = 0 ∧
     (let n := d.extend (beAt goodFrame.bytes 4 4)
      let w := d.pickWindow n
      d.windowCode 63 goodFrame n ((goodFrame.ended : Int) - w.1) w.2 = 0)) ∧
    (let f := { goodFrame with bytes := zeros 8 }
     8 ≤ f.bytes.length ∧ pickDev.frameCode 63 f ≠ 0) := by
  refine ⟨⟨rfl, ?_, goodFrame_length, rfl, ?_, ?_⟩, by decide +kernel⟩
  · exact congrArg WarpPort.ended (setPort_port pickDev 63 _)
  · exact frameCode_ok _ _ _ rfl rfl (by decide +kernel) (by decide +kernel) (by decide +kernel) (by decide +kernel)
      goodFrame_crc goodFrame_trailer (by decide +kernel) (by decide +kernel)
  · decide +kernel

theorem wit_TieLaneSendsInItsOrder :
    (warpDev 6).wstate 63 = 6 ∧ (warpDev 6).liveOf (WRP_CTL.enable 63) = 1 ∧
    (let m : PeriodMsg := { boundary := 5, period := 2600, due := true }
     [m].find? PeriodMsg.due = some m) ∧
    ([{ boundary := 5, period := 2600, due := false }] : List PeriodMsg).find? PeriodMsg.due = none ∧
    (1023 : Nat) ≠ 0 ∧ (1023 : Nat) ≠ 1 ∧ (66 : Nat) % 64 ≠ 1 := by decide +kernel


/-! ### Treadle engines -/

/-- Engine 3 runs, at its last program word, which has opcode `op`, m `m`, d 15 and the other fields 1. -/
def engDev (op m : Nat) : Device :=
  ({ dv [(TRD_STAT.state 3, 2)] with live := [((TRD_CTL.trig_en 3).addr, 3)] } : Device).setEngine 3
    { Engine.cold with
      pc := 16383
      busy := some 65535
      prog := [(16383, BitVec.ofNat 64 (op * 2 ^ 58 + 15 * 2 ^ 53 + 2 ^ 49 + 2 ^ 45 + 2 ^ 43 + 2 ^ 40 + m * 2 ^ 32))] }

/-- The hypothesis of the instruction statements, for every opcode. -/
theorem wit_engines_next_words : (0x0F :: trdOpcodes).all (fun op => let d := engDev op 1
    d.trdState 3 == 2 && !d.armed (.trd 3) 0 && !d.armed (.trd 3) 1 && (d.engine 3).fetch.op == op &&
    (d.engine 3).fetch.d == 15 && (d.engine 3).fetch.b == 1 && (d.engine 3).fetch.m == 1) = true ∧
    0x0F ∉ trdOpcodes := by decide +kernel

theorem wit_TreadleControlFlow : ((engDev 1 0).engine 3).busy = some 65535 ∧
    (let d := (dv [(TRD_STAT.state 3, 3)]).setEngine 3 { Engine.cold with event := true }
     d.trdState 3 = 3 ∧ (d.engine 3).event = true) ∧
    (let d := (dv [(TRD_STAT.state 3, 1), (PCK_PN_LO.word, 5)]).setEngine 3 { Engine.cold with startAt := some 5 }
     d.trdState 3 = 1 ∧ (d.engine 3).startAt = some 5 ∧ ahead d.pn 5 = true) := by decide +kernel

theorem wit_TreadleScalarInstructions : (1 ≤ (1 : Nat) ∧ ((48 : Nat) = 32 ∨ (48 : Nat) = 48) ∧ (15 : Nat) ≠ 0) ∧
    (let d := engDev 0x14 0
     d.held = false ∧ d.trdState 3 = 2 ∧ (d.engine 3).fetch.op = 0x14) := by decide +kernel

theorem wit_TreadleVectorInstructions : (List.replicate 16 (-1 : Int)).length = 16 := by decide

theorem wit_TreadleAddressesAndDataMemory : let w := (engDev 0x3D 0).engine 3
    w.fetch.op = 0x3D ∧ 16 ≤ w.len w.fetch.r ∧ w.len w.fetch.r ≤ 65536 := by decide +kernel

theorem wit_TreadleStreamsSearchesRecords :
    (((engDev 0x36 1).engine 3).fetch.d ≠ ((engDev 0x36 1).engine 3).fetch.b) ∧
    (engDev 0x3A 1).flag (TRD_QUEUE.valid 3 1) = false ∧
    ((engDev 0x3A 1).put (TRD_QUEUE.valid 3 1) true).flag (TRD_QUEUE.valid 3 1) = true ∧
    (engDev 0x3B 0).liveOf (TRD_CTL.trig_en 3) = 1 ∧ ((engDev 0x3B 0).engine 3).trigged = false ∧
    Device.cold.liveOf (TRD_CTL.trig_en 3) ≠ 1 ∧ ({ Engine.cold with trigged := true } : Engine).trigged = true := by
  decide +kernel


/-! ### Drafts, resets, start-up -/

/-- A directory entry of a draft. -/
def dirEnt (ty off len : Nat) : List Byte := be 2 ty ++ be 2 0 ++ be 4 off ++ be 4 len ++ be 4 0
/-- A draft of one channel: P 2500, S 256, the state area at 2^20, bank B at 2^23. -/
def draft : Sparse Byte :=
  let m := Sparse.putAll memDflt [] 16 (be 2 3)
  let m := Sparse.putAll memDflt m 64 (dirEnt 1 256 16 ++ dirEnt 4 512 40 ++ dirEnt 5 1024 128)
  let m := Sparse.putAll memDflt m 256 (be 2 2500 ++ be 1 8)
  let m := Sparse.putAll memDflt m 512 (be 2 1)
  let m := Sparse.putAll memDflt m (1024 + 28) (be 6 (2 ^ 20))
  Sparse.putAll memDflt m (1024 + 46) (be 6 (2 ^ 23))
/-- The draft is staged; PCK runs; the boundary that WEAVE_AT names is 100,096. -/
def stagedDev (stage : Nat) : Device :=
  { dv [(PCK_STATE.state, 2), (PCK_WEAVE_STAT.stage, stage), (PCK_WEAVE_AT_LO.at_lo, 100096), (PCK_CFG.shed_log2, 8)] with
    drafts := { Drafts.cold with slot1 := draft, woven1 := false } }
def armed (u : Bool) (dl : Nat) : Armed := { w := 100096, unweave := u, deadline := dl, changesP := false, prepared := false }

theorem wit_DraftRequestsMoveTheSlot :
    (stagedDev 1).held = false ∧ (stagedDev 1).issues 3 = true ∧ (stagedDev 1).stage = 1 ∧ (stagedDev 2).stage = 2 ∧
    (stagedDev 5).stage = 5 ∧ ((stagedDev 1).at_ 7).armRefusal 100096 = some 16 ∧ (stagedDev 3).weaveAt = 100096 ∧
    ((stagedDev 3).at_ 7).armRefusal 100096 = none ∧
    secN (stagedDev 3).drafts.staging 1 0 2 = (stagedDev 3).periodAt 100096 ∧ (stagedDev 3).drafts.armed = none ∧
    (let a := armed true 0
     let d := { stagedDev 5 with drafts := { (stagedDev 5).drafts with armed := some a } }
     d.drafts.armed = some a ∧ ahead d.pn a.deadline = true ∧ ahead d.pn (armed false 1).deadline = false ∧
     (armed false 1).unweave = false ∧ (armed false 1).changesP = false) ∧
    (stagedDev 3).woven = false ∧
    (let d := (stagedDev 0).set PCK_WEAVE_STAT.woven 1
     d.woven = true ∧ d.running = true ∧ 100096 % d.shedLen = 0 ∧ ahead 100096 (d.pn + 256) = true ∧
     ahead d.pn (d.weaveDeadline 100096) = false) := by decide +kernel

theorem wit_DraftChecksAndPreparationEnd :
    (stagedDev 2).stage = 2 ∧ covers (stagedDev 2).drafts.written 4 8 = false ∧
    (let a := armed false 1
     let d := { (stagedDev 5).set PCK_WEAVE_STAT.woven 1 with drafts := { (stagedDev 5).drafts with armed := some a } }
     d.drafts.armed = some a ∧ a.unweave = false ∧ a.prepared = false ∧ 256 ≤ d.oldShed ∧ d.chains.units = [] ∧
     section_ d.drafts.staging 6 = none ∧ section_ d.drafts.staging 4 ≠ none) := by decide +kernel

def rec0 (state trials run : Nat) : BootRec :=
  { state := state, seq := 7, run := run, trials := trials, reason := 0, warmOk := 1, vAct := 11, vPrev := 3, vStag := 22 }
/-- The boot record and the banks that hold the delivered image. -/
def bootDev (p : StartPhase) (r : BootRec) (banks : List Nat) : Device :=
  { Device.cold with
    boot := { Device.cold.boot with rec0 := some r, rec1 := none, delivered := banks, phase := p } }
/-- A message that waits, arrived under the key [1]. -/
def waits (h : HostHdr) (kind code : Nat) (body : List Byte) : Waiting :=
  { hdr := h, kind := kind, code := code, body := body, key := [1], net := { mac := 7, ip := 0x0A000002, udp := 21075 } }
/-- Firmware runs and holds the control role; a key is installed; these messages wait. -/
def fwDev (w : List Waiting) : Device :=
  { bootDev .running (rec0 0 0 0) [0] with
    rsq := { Rosesque.cold with hdrUp := true, cfg := { Settings.default with key := some [1] }, waiting := w } }

/-- A waiting message is the next that firmware executes. -/
theorem takes_of_waiting (d : Device) (h : HostHdr) (kind code : Nat) (body : List Byte) (rest : List Waiting)
    (hu : d.fwUp = true) (hw : d.rsq.waiting = waits h kind code body :: rest) : d.takes h kind code body :=
  ⟨hu, .inr ⟨_, rest, hw, rfl, rfl, rfl, rfl⟩⟩
/-- So is a fresh one when none waits. -/
theorem takes_of_fresh (d : Device) (h : HostHdr) (kind code : Nat) (body : List Byte)
    (hu : d.fwUp = true) (hk : h.factory = true ∨ d.provisioned = true) (hw : d.rsq.waiting = [])
    (hv : d.verdict h.seq.toNat = .fresh) : d.takes h kind code body := ⟨hu, .inl ⟨hw, hk, hv⟩⟩

/-- Only the registers say whether a pair is in reset. -/
theorem ctlHeld_congr (d e : Device) (h : d.regs = e.regs) : d.ctlHeld = e.ctlHeld := by
  unfold Device.ctlHeld Device.flag Device.get Device.word
  rw [h]

theorem fwUp_of (d : Device) (hp : d.boot.phase = .running) (hh : d.rsq.hdrUp = true) (hr : d.regs = Device.cold.regs) :
    d.fwUp = true := by
  have hc : Device.cold.ctlHeld = false := by decide +kernel
  unfold Device.fwUp
  rw [hp, hh, ctlHeld_congr d Device.cold hr, hc]
  rfl

theorem fwDev_takes (h : HostHdr) (kind code : Nat) (body : List Byte) :
    (fwDev [waits h kind code body]).takes h kind code body :=
  takes_of_waiting _ _ _ _ _ [] (fwUp_of _ rfl rfl rfl) rfl

theorem wit_messages_arrive_fresh : (fwDev []).takes host 1 0x01 [] ∧ (fwDev []).wrongKey host true false = false :=
  ⟨takes_of_fresh _ _ _ _ _ (by decide +kernel) (.inr rfl) rfl (by decide +kernel), by decide +kernel⟩

theorem wit_ColdResetsKeepOnlyTheFlash :
    (let d := { bootDev .off (rec0 0 0 0) [0] with held := true }
     d.powered = true ∧ d.held = true ∧ d.boot.record.state = 0 ∧ d.boot.record.run = 0 ∧ d.boot.bankOk 0 = true) ∧
    (Device.cold.flag GLB_FATAL.fatal = false ∧ (dv [(GLB_FATAL.fatal, 1)]).flag GLB_FATAL.fatal = true) ∧
    (fwDev [waits host 1 0x50 [1]]).takes host 1 0x50 [1] :=
  ⟨by decide +kernel, by decide +kernel, fwDev_takes ..⟩

/-- A staged image of 65,537 bytes: piece 1 has one byte, which its buffer holds. -/
def pieceDev (w : List Waiting) : Device :=
  { fwDev w with
    boot := { (fwDev []).boot with stored := [0], flash := Sparse.putAll (fun _ => (0xFF : Byte)) [] (flashBank 2 + 8) (be 4 65537) }
    rsq := { (fwDev w).rsq with
      pieces := [{ piece := none, bytes := [], written := [] }, { piece := some 1, bytes := [(0, 7)], written := [(0, 1)] }] } }

theorem wit_ImagesAreStoredAndActivated :
    ((pieceDev [waits host 1 0x20 (be 4 1 ++ be 4 1 ++ sha256 [7])]).takes host 1 0x20
      (be 4 1 ++ be 4 1 ++ sha256 [7])) ∧
    (let d := pieceDev []
     let b := d.pieceBuf 1
     d.wrongKey host false false = false ∧ d.boot.stored.contains 0 = true ∧ 1 < d.boot.pieceTotal ∧
     1 = pieceLen (imgN (d.boot.bankByte 2) 8 4) 1 ∧ d.boot.stored.contains 1 = false ∧ b.piece = some 1 ∧
     covers b.written 0 1 = true ∧ Sparse.getAll memDflt b.bytes 0 1 = [7] ∧ covers b.written 0 2 = false) ∧
    (let d := { pieceDev [] with rsq := { (pieceDev []).rsq with programming := [(255, [7], 1)] } }
     d.rsq.programming = [(255, [7], 1)] ∧ d.rsq.queue.length < 4032 ∧ d.boot.stored.contains 255 = false ∧
     ([255, 0].length ≠ (3 : Nat))) ∧
    (let x := (bootDev .copyPrev (rec0 2 0 0) [0]).boot
     x.phase = .copyPrev ∧ (x.copyBank 0 1).bankOk 1 = true) ∧
    (let x := (bootDev .copyAct (rec0 3 0 0) [2]).boot
     x.phase = .copyAct ∧ (x.copyBank 2 0).bankOk 0 = true) ∧
    (let x := { (bootDev .loaded (rec0 4 2 0) [0, 1]).boot with trialRun := true, warm := true }
     x.phase = .loaded ∧ x.record.state = 4 ∧ x.record.run = 0 ∧ x.bankOk 0 = true ∧ x.bankOk 1 = true ∧
     x.record.trials < 3 ∧ 3 ≤ (rec0 4 3 0).trials) := by
  refine ⟨takes_of_waiting _ _ _ _ _ [] (fwUp_of _ rfl rfl rfl) rfl, ?_, ?_, ?_, ?_, ?_⟩ <;> decide +kernel

/-- A bank of 0xFF bytes is no image: the copy into it did not take. -/
theorem wit_bad_copy : (let x := (bootDev .copyPrev (rec0 2 0 0) []).boot
    (x.copyBank 0 1).bankOk 1 = false) := by decide +kernel

/-- A device about to start its firmware, with a store of layout `n`. -/
def startDev (n : Nat) : Device :=
  { bootDev .loaded (rec0 0 0 0) [0] with
    rsq := { Rosesque.cold with store0 := some { layout := n, seq := 1, body := Settings.default } } }

theorem startDev_layout (n : Nat) : (startDev n).boot.layout = (bootDev .loaded (rec0 0 0 0) [0]).boot.layout := by
  have h : (startDev n).boot = (bootDev .loaded (rec0 0 0 0) [0]).boot := rfl
  rw [h]

theorem wit_FirmwareStartBeginsASession :
    (∃ n c, (startDev n).rsq.store = some c ∧ c.layout = (startDev n).boot.layout) ∧
    ((startDev 0).boot.phase = .loaded ∧ (startDev 0).boot.trialRun = false ∧ (startDev 0).boot.note = [] ∧
      (startDev 0).boot.warm = false ∧ (startDev 0).quiesceOutcome ≠ some 0 ∧
      (startDev 0).boot.record.state = 0 ∧ (startDev 0).boot.record.run = 0 ∧ (startDev 0).boot.bankOk 0 = true) ∧
    (let e : LedEvent := { ty := 13, seq := 5, pick := 6, body := [0], ok := true }
     ({ startDev 0 with jrn := { Journal.cold with copy0 := [e] } } : Device).quiesceOutcome = some 0) :=
  ⟨⟨_, _, rfl, (startDev_layout _).symm⟩, by decide +kernel, by decide +kernel⟩

theorem wit_WarmRestartQuiescesAndResumes :
    (fwDev [waits host 1 0x50 [0]]).takes host 1 0x50 [0] ∧
    (let d := fwDev []
     d.flag GLB_FATAL.fatal = false ∧ d.boot.record.state ≠ 1 ∧ d.jrn.quiesced ≠ some false ∧ d.boot.record.state = 0 ∧
     d.boot.record.run = 0 ∧ d.boot.bankOk 0 = true ∧ d.quiesceBlocked = false ∧ d.jrn.quiesceBad = false ∧ d.testen = false ∧
     ({ d with sheds := { Sheds.cold with ending := some shed, readouts := [{ ent := 0, buf := 0, base := 0 }] } } : Device).quiesceBlocked
       = true) ∧
    (let d := (fwDev []).set (DRM_STAT.state 23) 3
     d.get (DRM_STAT.state 23) = 3 ∧ (List.replicate 10 fit).length = 10 ∧
     ∀ l ∈ List.replicate 10 fit, 16 ≤ l.rdWidth.val ∧ 16 ≤ l.wrWidth.val) ∧
    (let d := { fwDev [] with jrn := { Journal.cold with quiesced := some true } }
     d.restarting = true ∧ d.boot.phase = .running ∧ d.jrn.resumePick = none ∧ ahead (d.pn + 1) (d.pn + 1) = true ∧
     d.woven = false ∧ (d.put PCK_WEAVE_STAT.woven true).woven = true ∧
     (d.set (TRD_STAT.state 3) 1).trdState 3 = 1) :=
  ⟨fwDev_takes .., by decide +kernel, by decide +kernel, by decide +kernel⟩


/-! ### Rosesque -/

/-- SHA-256 of "abc" (FIPS 180-4's example). -/
theorem test_sha256_abc : sha256 [0x61, 0x62, 0x63] =
    be 32 0xba7816bf8f01cfea414140de5dae2223b00361a396177a9cb410ff61f20015ad := by decide +kernel

/-- The CRCs' check values over "123456789". -/
theorem test_crc_check_values : crc32c ((List.range 9).map fun i => BitVec.ofNat 8 (0x31 + i)) = 0xE3069283 ∧
    crcEther ((List.range 9).map fun i => BitVec.ofNat 8 (0x31 + i)) = 0xCBF43926 := by decide +kernel

def peer : UdpHead :=
  { dmac := 7, smac := 5, tag := some 0x5007, dscp := 0, ttl := 64, sip := 0x0A000001, dip := 0x0A000002, sport := 4000, dport := 21075 }
/-- Firmware runs in session 77; port 1 has the addresses of `peer`; H is 500, and 400 is answered in the cache. -/
def rxDev : Device :=
  { fwDev [] with
    rsq := { (fwDev []).rsq with
      cfg := { Settings.default with
        key := some [1], session := 77, net1 := some { mac := 7, ip := 0x0A000002, udp := 21075 } }
      h := 500
      accepted := [400, 500]
      cache := [{ hdr := { host with seq := 400 }, payload := [9] }] } }
/-- A PING of this session and sequence number under the installation key. -/
def ping (session seq : Nat) : List Byte := rsqPayload [1] 0 1 1 session seq 0 []

theorem ping_parses : parseUdp (udpFrame peer (ping 77 501)) = some (peer, ping 77 501) := by decide +kernel

theorem ping_tag : (hmac [1] ((ping 77 501).take ((ping 77 501).length - 16))).take 16 =
    (ping 77 501).drop ((ping 77 501).length - 16) := by decide +kernel

theorem wit_MessagesAreAuthenticatedAndTakenOnce :
    (rxDev.boot.phase = .running ∧ rxDev.rsq.hdrUp = true ∧ parseUdp [] = none ∧ rxDev.ctlHeld = false) ∧
    (let net := rxDev.rsq.cfg.net 1
     peer.dmac = net.mac ∧ peer.dip = net.ip ∧ peer.dport = net.udp ∧ peer.dmac ≠ (rxDev.rsq.cfg.net 1).mac + 1) ∧
    (rxDev.keyOf false = some [1] ∧ (Device.cold.keyOf false) = none ∧ ([] : List Byte).length < 48 ∧
      48 ≤ (ping 77 501).length ∧ beAt (ping 77 501) 28 1 < 2 ∧ 2 ≤ beAt (List.replicate 48 2) 28 1 ∧
      (hmac [1] (zeros 32)).take 16 ≠ zeros 16) ∧
    (beAt (ping 77 501) 0 2 = 0x5253 ∧ beAt (ping 77 501) 2 1 = 1 ∧ beAt (ping 77 501) 3 1 = 1 ∧
      beAt (ping 77 501) 6 2 = 0 ∧ beAt (ping 77 501) 8 4 = rxDev.rsq.cfg.session ∧ beAt (ping 76 501) 8 4 ≠ 77 ∧
      beAt (ping 77 501) 12 8 = 501) ∧
    (rxDev.verdict 501 = .fresh ∧ rxDev.verdict 400 = .cached [9] ∧ rxDev.verdict 244 = .stale ∧
      64 ≤ ((List.replicate 64 (waits host 1 1 [])).filter fun w => w.kind != 5).length) ∧
    ((rxDev.acceptSeq 501).misfit host 1 1 []).isNone = true ∧ bulkFits (bulkBody 1 0 []) = false := by
  refine ⟨by decide +kernel, by decide +kernel, by decide +kernel, by decide +kernel, by decide +kernel, by decide +kernel⟩

theorem wit_CommandsReadAndWriteTheDevice :
    (fwDev [waits host 1 0x01 []]).takes host 1 0x01 [] ∧
    (fwDev [waits host 1 0x51 []]).takes host 1 0x51 [] ∧
    (∀ b, (fwDev [waits host 1 0x02 b]).takes host 1 0x02 b) ∧
    (∀ b, (fwDev [waits host 1 0x03 b]).takes host 1 0x03 b) ∧
    (∀ b, (fwDev [waits host 1 0x10 b]).takes host 1 0x10 b) ∧
    (∀ b, (fwDev [waits host 1 0x21 b]).takes host 1 0x21 b) ∧
    (∀ b, (fwDev [waits host 4 0 b]).takes host 4 0 b) ∧
    ((fwDev []).wrongKey host true false = false ∧ (fwDev []).wrongKey host false false = false ∧
      (fwDev []).wrongKey { host with factory := true } false false = true ∧ (fwDev []).provisioned = true) ∧
    (regIs REF_CFG.revertive.addr (fun r => r.half == .single && r.writable && !r.id.acts) = true ∧
      locate 0xFFFFFFFC = none ∧ (fwDev []).rsq.held = []) ∧
    (let d := { memDev with rsq := (fwDev []).rsq }
     (d.decodes false 0 65536).isSome = true ∧ (chunksOf host (d.arrivedUnder host) 0 65536 8192).all (fun c => !d.inClean c.addr c.len) = true ∧
     (let e := (d.set (HDL_CLEAN_CTL.busy 0) 1).set (HDL_CLEAN_LEN.length 0) 0xFFFFFFFF
      (chunksOf host (e.arrivedUnder host) 0 64 64).all (fun c => e.inClean c.addr c.len) = true) ∧
     d.decodes false (2 ^ 48 - 1) 1 = none ∧ d.decodes false 0 1 = some (.general 0) ∧ d.bankGuard 0 1 = false ∧
     (d.put PCK_WEAVE_STAT.woven true).bankGuard 4095 2 = true) ∧
    (stagedDev 1).stage ≠ 2 ∧ (stagedDev 2).stage = 2 ∧ (stagedDev 5).stage = 5 ∧
    (2 ^ 24 - 1) % 65536 + 1 ≤ 65536 ∧ (2 ^ 24 - 1) / 65536 < 256 := by
  refine ⟨fwDev_takes .., fwDev_takes .., fun _ => fwDev_takes .., fun _ => fwDev_takes .., fun _ => fwDev_takes ..,
    fun _ => fwDev_takes .., fun _ => fwDev_takes .., ?_, ?_, ?_, ?_, ?_, ?_, ?_, ?_⟩ <;> decide +kernel

/-- The draft windows decode: the staging slot is written, the woven one only read. -/
theorem wit_draft_windows : (∃ off, memDev.decodes false 0x040040000010 4 = some (.staging off)) ∧
    (∃ v, memDev.decodes false 0x040042000010 4 = some v ∧ v.writable = false) :=
  ⟨⟨16, by decide +kernel⟩, ⟨_, rfl, by decide +kernel⟩⟩

theorem wit_SettingsCommandsTakeEffect :
    (∀ code b, (fwDev [waits host 1 code b]).takes host 1 code b) ∧
    ((fwDev []).wrongKey host false false = false ∧ (fwDev []).keyInUse 3 = false ∧ (zeros 32).length = 32 ∧
      (fwDev []).keyOf false = some [1] ∧ (fwDev []).provisioned = true ∧ Device.cold.provisioned = false ∧
      Device.cold.testen = false ∧ ({ Device.cold with testen := true } : Device).testen = true) ∧
    (let d := (stagedDev 3)
     d.keyInUse 0 = true) ∧
    (let f := { host with factory := true }
     (∀ b, ({ Device.cold with
         boot := (fwDev []).boot
         rsq := { Rosesque.cold with hdrUp := true, waiting := [waits f 1 0x40 b] } }
       : Device).takes f 1 0x40 b) ∧
     (fwDev [waits f 1 0x42 []]).takes f 1 0x42 []) ∧
    (let d := { fwDev [] with rsq := { (fwDev []).rsq with dirty := [(1, .notices 10 20), (2, .deprovision)] } }
     d.boot.phase = .running ∧ d.rsq.dirty.head? = some (1, .notices 10 20) ∧ d.rsq.queue.length < 4032) := by
  refine ⟨fun _ _ => fwDev_takes .., by decide +kernel, by decide +kernel, ⟨fun b => ?_, fwDev_takes ..⟩, by decide +kernel⟩
  exact takes_of_waiting _ _ _ _ _ [] (fwUp_of _ rfl rfl rfl) rfl

def ntc (q sev ex : Nat) (sent : Bool) : Notice :=
  { nseq := q, ty := 16, severity := sev, count := 1, firstPick := 0, lastPick := 0, subject := 0, ref := be 8 0, pairs := [],
    sent := sent, expiries := ex, timeout := 100, sentAt := 0 }
def dest (p : Nat) : Dest := { port := p, ep := host.src }
/-- Firmware runs; both destinations are set; these notices are queued. -/
def ntcDev (q : List Notice) (alt : Bool) : Device :=
  { fwDev [] with
    rsq := { (fwDev []).rsq with
      cfg := { Settings.default with key := some [1], primary := some (dest 1), alternate := some (dest 0) }
      released := true
      queue := q
      onAlternate := alt
      ackSinceUp := true
      linkUp1 := true
      linkAt1 := 1 } }

theorem wit_NoticesAreSentUntilAcknowledged :
    (let d := ntcDev [ntc 1 2 0 false] false
     d.noticesFlow = true ∧ (d.rsq.queue.find? fun n => !n.sent) = some (ntc 1 2 0 false) ∧
     (d.rsq.queue.filter fun n => n.sent).length < 256 ∧ 1600000000 ≤ (d.rsq.refill 0).tokens ∧ (ntc 1 3 0 false).severity = 3 ∧
     256 ≤ ((List.replicate 256 (ntc 1 2 0 true)).filter fun n => n.sent).length) ∧
    (let d := ntcDev [ntc 1 2 3 true] false
     (d.rsq.queue.find? fun n => n.nseq == 1 && n.sent) = some (ntc 1 2 3 true) ∧
     (ntc 1 2 3 true).sentAt + (ntc 1 2 3 true).timeout * 1600000 ≤ 160000000 ∧ d.rsq.cfg.primary.isSome = true ∧
     d.rsq.cfg.alternate.isSome = true ∧ d.rsq.onAlternate = false ∧ (ntc 1 2 2 true).expiries ≠ 3) ∧
    (fwDev [waits host 5 0 (be 8 3 ++ be 1 0)]).takes host 5 0 (be 8 3 ++ be 1 0) ∧
    ((fwDev []).rsq.dropped = 0 ∧ (fwDev []).rsq.queue.length < 4032 ∧ (fwDev []).fwUp = true) ∧
    (let d := ntcDev [] true
     d.rsq.cfg.primary = some (dest 1) ∧ d.rsq.onAlternate = true ∧ d.fwUp = true ∧ d.rsq.ackSinceUp = true ∧
     d.rsq.linkUp1 = true ∧ d.rsq.linkAt1 + 16000000000 ≤ 16000000001 ∧ (ntcDev [] false).rsq.onAlternate = false ∧
     d.rsq.queue.length < 4032 ∧ d.rsq.cfg.alternate.isSome = true) := by
  refine ⟨?_, ?_, fwDev_takes .., ?_, ?_⟩ <;> decide +kernel


/-! ### Cloth ports, spool queues -/

/-- Queue 0 is enabled: home port 1, backup 2, window code 5; ports in these states. -/
def clothDev (sts : List Nat) : Device :=
  { dv ([(SPL_QCFG_A.enabled 0, 1), (SPL_QCFG_A.w 0, 5), (SPL_QCFG_B.ring_mib 0, 1), (SPL_RC_TIME.flush 0, 5),
         (SPL_DEST.word 4, 1 * 2 ^ 24 + 2 * 2 ^ 16), (SPL_DEST.word 3, 1500), (SPL_DEST.word 5, 100 * 2 ^ 16 + 3 * 256),
         (SPL_DEST.word 1, 0x0A00), (SPL_DEST.word 2, 7 * 2 ^ 16 + 5), (CLO_STAT.pcs_lock 1, 1), (CLO_STAT.fec_align 1, 1)] ++
        (List.range 32).map fun c => (CLO_STAT.state c, sts.getD c 3)) with
    live := [((CLO_CTL.enable 1).addr, 1), (SPL_CFG.hb_period.addr, 0xFFFFFFFF)] }
def clothIs (b : Nat) (once : Bool) (cause : Nat) : Cloth := { Cloth.cold with before := b, failedOnce := once, cause := cause }

theorem wit_ClothPortsFollowTheirLinks :
    ((clothDev [3, 1]).get (CLO_STAT.state 1) = 1 ∧ (clothDev [3, 2]).get (CLO_STAT.state 1) = 2 ∧
      (clothDev [3, 3]).get (CLO_STAT.state 1) = 3 ∧ (clothDev [3, 4]).get (CLO_STAT.state 1) = 4 ∧
      (clothDev [3, 1]).liveOf (CLO_CTL.enable 1) = 1) ∧
    (let d := (clothDev [3, 1]).setCloth 1 (clothIs 4 false 0)
     (d.clothPort 1).before ≠ 0 ∧ (d.clothPort 1).before < 8 ∧ d.qOn 0 = true ∧ (d.queue 0).port = none) ∧
    (let d := (clothDev [3, 3]).setCloth 1 (clothIs 0 true 1)
     (d.clothPort 1).cause ≠ 2 ∧ (d.clothPort 1).failedOnce = true ∧ (clothIs 0 false 1).failedOnce = false) := by
  decide +kernel

def bolt (n : Nat) (sent : Option Nat) : Bolt :=
  { seq := n, start := 0, len := 100, first := 0, items := 1, lost := 0, sent := sent, tag := 0 }
/-- Queue 0 on port 1 with one bolt, sent at 5 or not yet. -/
def qDev (sent : Option Nat) : Device :=
  ({ clothDev [3, 2] with boot := { Device.cold.boot with dramReady := true } } : Device).setQueue 0
    { Queue.cold with
      port := some 1, bolts := [bolt 0 sent], next := 1, wr := 200, openAt := 100, timer := sent, timeout := 1 }
/-- A receipt for queue 0 that acknowledges bolt 0; `ver` 1 is the version of the protocol. -/
def receipt (ver : Nat) : List Byte :=
  let x := be 2 0x5243 ++ be 1 ver ++ be 1 0 ++ be 2 0 ++ be 6 0 ++ be 4 0
  x ++ be 4 (crc32c x)
def receiptFrame (d : Device) (ver : Nat) : List Byte :=
  udpFrame { dmac := d.pair (CLO_MAC_LO.mac_lo 1) (CLO_MAC_HI.mac_hi 1), smac := 5, tag := none, dscp := 0, ttl := 64,
             sip := d.qIp 0, dip := d.get (CLO_IP.ip 1), sport := 4000, dport := d.get (CLO_UDP.rcpt_port 1) } (receipt ver)

theorem wit_QueuesSendResendAndFreeTheirBolts :
    (let d := qDev (some 5)
     let x := d.queue 0
     d.qOn 0 = true ∧ d.get (SPL_RC_TIME.flush (d.qClass 0)) ≠ 0 ∧ x.wr ≠ x.openAt ∧ x.port.isSome = true ∧
     d.liveOf SPL_CFG.hb_period ≠ 0 ∧ (∀ b ∈ x.bolts, b.sent ≠ none) ∧ x.timer ≠ none ∧
     (x.bolts.find? fun b => b.sent.isSome) = some (bolt 0 (some 5)) ∧ x.stalled = false ∧ x.expiries + 1 < d.qRetry 0 ∧
     d.qRetry 0 ≤ 2 + 1) ∧
    (let d := ((qDev none).at_ 9).syncQueues
     let again := (((qDev (some 5)).setQueue 0 { (qDev (some 5)).queue 0 with retx := [0] }).at_ 9).syncQueues
     let o : Offer := { bolt := bolt 0 none, heartbeat := false, retransmit := false }
     d.inService 1 = true ∧ d.flag GLB_FATAL.fatal = false ∧ (d.chooseOffer 1 9).map (fun p => p.2) = some (0, o) ∧
     (again.chooseOffer 1 9).map (fun p => p.2) = some (0, { bolt := bolt 0 (some 5), heartbeat := false, retransmit := true }) ∧
     bolt 0 (some 5) ∈ (again.queue 0).bolts ∧
     bolt 0 none ∈ (d.queue 0).bolts ∧ (d.queue 0).port = some 1 ∧ d.qW 0 ≠ 0 ∧ d.armed .spl 2 = false ∧
     d.ringPoison 0 0 100 = none ∧
     (∀ p ∈ d.queues, d.inBoth p.1 (fun v => v == (d.queue p.1).val) = true) ∧ ((clothDev [3, 2]).at_ 9).syncQueues.chooseOffer 1 9 = none) ∧
    (let d := qDev (some 5)
     let x := d.queue 0
     let r := receipt 1
     d.liveOf (CLO_CTL.enable 1) = 1 ∧ d.flag (CLO_STAT.pcs_lock 1) = true ∧ d.flag (CLO_STAT.fec_align 1) = true ∧
     d.clothKeeps 1 true [] = none ∧ d.clothKeeps 1 true (receiptFrame d 1) = some (d.qIp 0, r) ∧
     parseReceipts (r.length + 1) r = ([r], true) ∧ beAt r 4 2 = 0 ∧ beAt r 0 2 = 0x5243 ∧ beAt r 2 1 = 1 ∧ beAt r 3 1 = 0 ∧
     crc32c (r.take 16) = beAt r 16 4 ∧ d.qW 0 ≠ 0 ∧ seqBefore (beAt r 6 6) x.next = true ∧ beAt r 6 6 = x.base ∧
     d.jrn.captures = [] ∧ beAt (receipt 2) 2 1 ≠ 1 ∧ parseReceipts ((receipt 2).length + 1) (receipt 2) = ([receipt 2], true)) := by
  refine ⟨by decide +kernel, by decide +kernel, by decide +kernel⟩

/-! ### References and outputs -/

/-- References in `q` qualified, in distinct ranks, reference `a` active. -/
def refDev (q a : Nat) (more : List (Fld × Nat)) : Device :=
  dv ((List.range 4).map (fun k => (REF_PRIO.enable k, 1)) ++ (List.range 4).map (fun k => (REF_PRIO.rank k, k)) ++
    [(REF_STAT.qualified, q), (REF_STAT.active, a), (REF_STAT.active_valid, 1), (REF_STAT.state, 1), (REF_CFG.revertive, 0)] ++ more)
def goodRef : RefCond := { clock := true, nominal := true, pulse := true, window := true }
def condDev (d : Device) (k : Nat) (c : RefCond) : Device := { d with ref := { d.ref with cond := [(k, c)] } }

theorem wit_ReferencesQualifyAndSwitch :
    (let d := refDev 12 2 []
     d.qualified 3 = true ∧ d.flag (REF_PRIO.enable 3) = true ∧ d.flag REF_STAT.active_valid = true ∧ d.get REF_STAT.active ≠ 3 ∧
     d.qualified (d.get REF_STAT.active) = true ∧ d.flag REF_CFG.revertive = false) ∧
    (let d := refDev 8 3 [(REF_STAT.hist_valid, 1)]
     d.get REF_STAT.qualified = 2 ^ 3 ∧ d.get REF_STAT.active = 3 ∧ d.flag REF_STAT.hist_valid = true ∧
     (refDev 8 3 [(REF_STAT.hist_valid, 0)]).flag REF_STAT.hist_valid = false) ∧
    (let d := refDev 9 3 [(PCK_WEAVE_STAT.woven, 1), (REF_PHASE.value 0, 500000), (REF_CFG.wtr, 1)]
     d.get REF_STAT.qualified = 2 ^ 3 + 2 ^ 0 ∧ d.woven = true ∧ (d.phaseNow 0).natAbs ≤ 500000 ∧
     500000 < ((d.set (REF_PHASE.value 0) 500001).phaseNow 0).natAbs ∧ d.get REF_CFG.wtr ≠ 0) ∧
    (let d := condDev (refDev 4 2 []) 3 { goodRef with clock := false }
     d.qualified 3 = false ∧ (d.refCond 3).nominal = true ∧ (d.refCond 3).pulse = true ∧ (d.refCond 3).window = true ∧
     d.get (reasonField 3) ≠ 5) ∧
    (let d := condDev (refDev 8 3 [(REF_STAT.second_valid, 1)]) 3 goodRef
     d.qualified 3 = true ∧ (d.refCond 3).clock = true ∧ (d.refCond 3).nominal = true ∧ (d.refCond 3).window = true ∧
     d.flag REF_STAT.phase_far = false ∧ d.flag REF_STAT.second_valid = true ∧ d.get REF_STAT.state ≠ 0 ∧
     (∀ j, j < 4 → j ≠ 3 → d.qualified j = true → d.rank j ≠ d.rank 3) ∧ (sx 32 0).natAbs ≤ 10 * d.qualWin ∧
     10 * d.qualWin < (sx 32 (2 ^ 31)).natAbs) ∧
    (let d := condDev (refDev 12 2 [(REF_PRIO.rank 2, 3), (REF_OFS.value 2, 10000)]) 3 goodRef
     d.qualified 2 = true ∧ d.rank 2 = d.rank 3 ∧ 10 * d.agreeThr < (d.refOfs 2 - sx 32 0).natAbs) ∧
    (let d := condDev (refDev 4 2 []) 3 goodRef
     d.qualified 3 = false ∧ d.failing 3 = none) ∧
    (let d := condDev (refDev 0 0 [(REF_STAT.active_valid, 0)]) 3 goodRef
     d.get REF_STAT.qualified = 0 ∧ d.flag REF_STAT.active_valid = false ∧ d.woven = false ∧ d.failing 3 = none) ∧
    (bit ((refDev 12 2 [(REF_STAT.eligible, 4)]).get REF_STAT.eligible) 3 = false ∧
      (refDev 12 2 []).get REF_STAT.state ≠ 2 ∧ (refDev 12 2 [(REF_STAT.state, 2)]).get REF_STAT.state = 2) := by
  decide +kernel

theorem wit_HoldoverStepsAndOutputs :
    (refDev 0 0 []).get REF_STAT.state = 1 ∧
    (let d := dv [(REF_STAT.state, 3), (REF_TIMES.hold_limit, 1)]
     d.get REF_STAT.state = 3 ∧ d.get REF_TIMES.hold_limit ≠ 0) ∧
    (Device.cold.armed .ref 2 = false ∧ Device.cold.flag GLB_FATAL.fatal = false) ∧
    (500000 < (sx 20 500001).natAbs ∧ ¬ 500000 < (sx 20 500000).natAbs) ∧
    ((refDev 8 3 []).flag REF_STAT.active_valid = true ∧ (refDev 8 3 []).get REF_STAT.active = 3) ∧
    (let ws : List (Int × Nat) := [(1, 5)]
     (∀ w ∈ ws, w.2 ≤ 5) ∧ ∀ w ∈ ws, 4 < w.2) ∧
    (let d := { dv [(REF_OUT.pickout_en, 1), (REF_OUT.ppsout_en, 1), (REF_STAT.second_valid, 1), (PCK_STATE.state, 2)] with
                tm := { Device.cold.tm with second := some 0 } }
     ((2500 : Int) = ((d.tm.pickStart + d.period : Nat) : Int) + d.ref.pickOfs) ∧ (0 : Int) = d.tm.pickStart + d.ref.pickOfs ∧
     ((1600000000 : Int) = ((0 + 1600000000 : Nat) : Int) + d.ref.ppsOfs) ∧ d.tm.second = some 0 ∧ d.flag REF_OUT.pickout_en = true ∧ d.running = true ∧ d.ref.pickOut = false ∧ d.flag REF_OUT.ppsout_en = true ∧
     d.flag REF_STAT.second_valid = true ∧ d.ref.ppsOut = false ∧ d.ref.pickEnd ≤ 0 ∧ d.ref.ppsEnd ≤ 0) := by
  decide +kernel


/-! ### Faults, wear, supply -/

theorem wit_FaultsAreRecordedAndReported :
    (faultClass (.wrp 63) 1 ≠ 0 ∧ Device.cold.armed (.wrp 63) 1 = false ∧
      ({ dv [(FINJ.pending (blkBase (.wrp 63)), 1)] with
          testen := true, sup := { Device.cold.sup with armedSrc := [(blkBase (.wrp 63), 1)] } } : Device).armed
        (.wrp 63) 1 = true ∧
      Device.cold.word (FSTAT.word (blkBase (.wrp 63))).addr = 0 ∧
      (dv [(FSTAT.real (blkBase (.wrp 63)), 1)]).word (FSTAT.word (blkBase (.wrp 63))).addr ≠ 0) ∧
    (Device.cold.armed .jrn 3 = false ∧
      ((Device.cold.setPort 63 { WarpPort.cold with frame := some openFrame }).port 63).frame = some openFrame ∧
      (clothDev [2, 2]).get (CLO_STAT.state 1) = 2 ∧ Device.cold.armed (.clo 1) 1 = false ∧
      Device.cold.armed (.hrn 63) 2 = false) ∧
    (Blk.spl ∈ [Blk.hst, .spl] ++ (List.finRange 32).map Blk.clo ∧ Device.cold.armed .spl 0 = false ∧
      Device.cold.armed .spl 1 = false ∧ Device.cold.armed .hst 3 = false) ∧
    (let d := { fwDev [] with regs := (dv [(FSTAT.real (blkBase .spl), 1)]).regs }
     d.fwUp = true ∧ d.rsq.queue.length < 4032 ∧ d.irq .spl = true ∧ 3 ∉ blkClasses .spl ∧ (fwDev []).irq .spl = false ∧
     d.rsq.queue.length + 64 < 4032) ∧
    (let d := fwDev []
     let e := { d with regs := (dv [(REF_EVENT.holdover, 1)]).regs }
     (∃ f ∈ fieldsAt REF_EVENT.holdover.addr, f.acc = .w1c ∧ e.get ⟨REF_EVENT.holdover.addr, f.lo, f.w⟩ ≠ 0) ∧
     REF_EVENT.holdover.addr % 4096 < 0xF00 ∧ e.fwUp = true ∧
     ¬ (∃ f ∈ fieldsAt REF_EVENT.holdover.addr, f.acc = .w1c ∧ d.get ⟨REF_EVENT.holdover.addr, f.lo, f.w⟩ ≠ 0)) ∧
    (let b := blkBase .glb
     let d := dv [(FSTAT.real b, 1), (FFIRST.class_ b, 1), (FFIRST.valid b, 1)]
     ({ d with tm := { d.tm with mark := d.regs } } : Device).wordAtCycle (FSTAT.word b).addr ≠ 0 ∧ faultClass .glb 2 = 3 ∧
     (let e : Device := { d with tm := { d.tm with mark := [] } }
      e.word (FSTAT.word b).addr ≠ 0 ∧ e.wordAtCycle (FSTAT.word b).addr = 0 ∧ e.get (FFIRST.class_ b) < 3)) ∧
    (let d := { dv [(GLB_FATAL.fatal, 1)] with sup := { Device.cold.sup with fatalAt := some 0 } }
     d.sup.fatalAt = some 0 ∧ d.flag GLB_FATAL.fatal = true ∧ d.flag GLB_CTL.fatal_hold = false ∧
     (d.set GLB_CTL.fatal_hold 1).flag GLB_CTL.fatal_hold = true) := by decide +kernel

/-- Some block's fault has no consequence beyond its records, whatever its subject. -/
theorem wit_faults_alone : ∀ (d : Device) (n m : Nat), d.consequence .glb 0 n m = d := fun _ _ _ => rfl

/-- Every domain holds supply code 80 and has path code 68 to hold. -/
def wearDev (rail : Nat) : Device :=
  { fwDev [] with
    regs := (List.range 133).flatMap fun k => [(0x7e0100 + 0x10 * k, 80), (0x7e0104 + 0x10 * k, 68)]
    sup := { Device.cold.sup with rail := rail } }

theorem wearDev_values : ∀ k, k < 133 → (wearDev 0).need k = 80 ∧ (wearDev 0).domSet k = 80 := by decide +kernel
theorem wearDev_need (r k : Nat) : (wearDev r).need k = (wearDev 0).need k := rfl
theorem wearDev_domSet (r k : Nat) : (wearDev r).domSet k = (wearDev 0).domSet k := rfl

theorem wit_wear_domains (r : Nat) : (wearDev r).boot.phase = .running ∧ (wearDev r).sup.rail = r ∧
    ∀ k, k < 133 → (wearDev r).need k ≤ 80 ∧ max ((wearDev r).need k) ((wearDev r).domSet k - 2) = 80 := by
  refine ⟨rfl, rfl, fun k h => ?_⟩
  rw [wearDev_need, wearDev_domSet, (wearDev_values k h).1, (wearDev_values k h).2]
  decide

theorem wit_WearReadingsPlanTheSupply :
    (bit ((dv [(WGE_BUSY.busy 4, 16)]).get (WGE_BUSY.busy (132 / 32))) (132 % 32) = true ∧ Device.cold.armed .wge 2 = false ∧
      bit (Device.cold.get (WGE_BUSY.busy 4)) 4 = false) ∧
    (∀ j, j < 32 → bit (2 ^ 4) j = true → 32 * 2 + j < 68 → Device.cold.flag (LOM_ROLE.bobbin_ok (32 * 2 + j)) = false) ∧
    (bit 1 0 = true ∧ 32 * 2 + 3 < 68) ∧
    (∀ k, k < 68 → (wearDev 80).get (WGE_DOM_READ.sram_code k) < 52) ∧
    (let p : Replan := { codes := [(0, 80), (132, 80)], rail := 80, tries := 1 }
     (p.codes.Pairwise fun a b => a.1 ≠ b.1) ∧ (∀ a ∈ p.codes, a.1 < 133 ∧ a.2 ≤ 80) ∧ p.tries < 3) ∧
    (let p : Replan := { codes := [(68, 80)], rail := 80, tries := 3 }
     3 ≤ p.tries ∧ (∀ a ∈ p.codes, 68 ≤ a.1 ∨ a.2 ≤ Device.cold.domSet a.1)) ∧
    (80 < ((fwDev []).set (WGE_DOM_READ.path_code 67) 81).need 67 ∧ (dv [(WGE_DOM_SET.set_ 67, 5)]).domSet 67 < 6) ∧
    ((fwDev []).rsq.queue = [] ∧ (fwDev []).rsq.queue.length < 4096) := by decide +kernel

/-! ### Further clauses: memory, heddle, shuttle -/

theorem wit_memory_channels_more :
    memDev.svcHeld = false ∧ (dv [(DRM_STAT.hot 0, 1)]).flag (DRM_STAT.hot 0) = true ∧
    ((331 : BitVec 16).toInt < 332 ∧ 340 < (380 : BitVec 16).toInt ∧ 380 < (381 : BitVec 16).toInt) ∧
    (memDev.dram 0).sensorFails < 2 ∧ 2 ≤ ({ memDev.dram 0 with sensorFails := 2 }).sensorFails ∧
    memDev.rsq.queue = [] := by decide +kernel

theorem wit_matrix_writes_more : (memDev.decodesHeddle 2 = false ∧
      (memDev.set SHT_STAT.running 15).decodes (memDev.decodesHeddle 2) 0 512 = some (.general 0)) ∧
    ((dv [(SHT_CH_CTL.heddle 15, 1), (SHT_STAT.running, 15), (SHT_STAT.busy, 1)]).decodesHeddle 2 = true) := by decide +kernel

/-- Slot 3 is busy for pair 1 with two dirty bytes of one line. -/
def cleanDev : Device :=
  { dv ([(DRM_CFG.cap_gb 0, 8), (HDL_CLEAN_CTL.busy 3, 1), (HDL_CLEAN_CTL.pair 3, 1), (HDL_CLEAN_LO.base_lo 3, 100),
         (HDL_CLEAN_LEN.length 3, 2)]) with
    boot := { Device.cold.boot with dramReady := true }, hdl := { Device.cold.hdl with dirty := [(3, [(100, 7), (101, 9)])] } }

theorem wit_clean_slots_more :
    let base := cleanDev.get (HDL_CLEAN_LO.base_lo 3) + 2 ^ 32 * cleanDev.get (HDL_CLEAN_HI.base_hi 3)
    let dirty := Sparse.get (fun _ => []) cleanDev.hdl.dirty 3
    dirty ≠ [] ∧ (∀ c ∈ dirty, base ≤ c.1 ∧ c.1 < base + cleanDev.get (HDL_CLEAN_LEN.length 3) ∧
      c.1 / 64 * 64 + 64 ≤ cleanDev.generalSize ∧ cleanDev.bankGuard (c.1 / 64 * 64) 64 = false) ∧
    (dirty.Pairwise fun b c => b.1 ≠ c.1) ∧ (∀ ch, ch < 24 → (cleanDev.dram ch).queue = []) ∧ cleanDev.hdl.atPort = [] ∧
    cleanDev.flag (HDL_CLEAN_CTL.busy 3) = true ∧ cleanDev.allSlotsBusy = false ∧ cleanDev.rsq.held = [] := by decide +kernel

theorem wit_pair_failure_more : let d := dv [(HDL_ROLE.pair1_held, 1)]
    d.flag (pairHeld 0) = false ∧ d.flag (pairHeld 1) = true ∧ d.armed .hdl 3 = false ∧ d.rsq.linkUp0 = true ∧
    d.rsq.linkUp1 = true := by decide +kernel

theorem wit_descriptors_more :
    (let d := (shtDev (List.replicate 16 (0 : Byte) ++ [0, 0, 0, 4] ++ List.replicate 12 0)).put (HDL_CLEAN_CTL.busy 2) true
     let x := readDesc (d.winBytes false 64 32)
     x.2 = true ∧ x.1.bad = false ∧ x.1.len = 0 ∧ bit x.1.flags 2 = true ∧
     ((List.range 4).filter fun k => d.flag (HDL_CLEAN_CTL.busy k)) ≠ []) ∧
    (let d := (shtDev []).set (SHT_CH_NEXT_HI.hi 15) 0x8000
     d.decodes false (64 + 2 ^ 47) 32 = none) ∧
    (let d := { shtDev [] with poison := [1] }
     (d.decodes false 64 32).isSome = true ∧ d.poisoned 64 32 = true) ∧
    (let x : Desc := { src := 0, dst := 0, len := 0, srcW := 0, dstW := 0, inc := 0, flags := 4, next := 0 }
     let d := { shtDev [] with hdl := { Device.cold.hdl with desc := some x, waitSlots := [2] } }
     d.hdl.desc = some x ∧ d.hdl.waitSlots ≠ [] ∧ x.len = 0 ∧
     ({ d.hdl with waitSlots := [] } : Heddle).waitSlots = []) := by decide +kernel

/-- The forms of a move: fixed source, fixed destination, more than one burst, overlapping, not the last, stopped. -/
theorem wit_descriptor_complete_more :
    let x : Desc := { src := 0, dst := 4096, len := 200, srcW := 3, dstW := 2, inc := 2, flags := 0, next := 128 }
    let y := { x with inc := 1 }
    let z := { x with inc := 3, dst := 8 }
    let d := { shtDev [] with hdl := { Device.cold.hdl with desc := some x } }
    let ok (x : Desc) : Bool :=
      let r := if bit x.inc 0 then x.len else 2 ^ x.srcW
      let w := if bit x.inc 1 then x.len else 2 ^ x.dstW
      !x.bad && decide (x.src + r ≤ d.generalSize) && decide (x.dst + w ≤ d.generalSize) && !d.poisoned x.src r &&
        !d.bankGuard x.dst w && (x.inc == 3 || decide (x.src + r ≤ x.dst) || decide (x.dst + w ≤ x.src))
    ok x = true ∧ ok y = true ∧ ok z = true ∧ z.descending = true ∧ d.hdl.desc = some x ∧ d.hdl.waitSlots = [] ∧
    (∀ ch, ch < 24 → (d.dram ch).queue = []) ∧ d.hdl.atPort = [] ∧ d.flag (SHT_CH_STAT.stop_pending 15) = false ∧
    (d.put (SHT_CH_STAT.stop_pending 15) true).flag (SHT_CH_STAT.stop_pending 15) = true := by decide +kernel

/-! ### Further clauses: boundaries of a working device -/

theorem wit_boundaries_while_restarting :
    let d : Device := { dv [(PCK_STATE.state, 2), (PCK_WEAVE_STAT.woven, 1), (PCK_CFG.shed_log2, 8)] with jrn := { Journal.cold with quiesced := some true } }
    d.running = true ∧ d.restarting = true ∧ d.woven = true ∧ d.jrn.resumePick = none ∧ d.flag GLB_FATAL.fatal = false ∧ d.ports = [] ∧
    d.tm.commit = none ∧ d.tm.fwCommit = false ∧ d.tm.syncFrom = none ∧ d.tm.stretch = none ∧ d.drafts.armed = none ∧
    ((d.pn + 1) % 2 ^ 64 + 2 ^ 48 - 1) % 2 ^ 48 % d.shedLen = 0 ∧
    ((d.pn + 2) % 2 ^ 64 + 2 ^ 48 - 1) % 2 ^ 48 % d.shedLen ≠ 0 := by decide +kernel

theorem wit_boundary_commits :
    let d := dv [(PCK_STATE.state, 2)]
    let now := d.tm.pickStart + d.period
    let m := (d.pn + 1) % 2 ^ 64
    let with_ (c : Commit) : Clock := { d.tm with commit := some c }
    let c : Commit := { shadows := [(JRN_CAP_PRE.picks.addr, 7)], at_ := none, moment := now, atMoment := false }
    d.held = false ∧ d.running = true ∧ d.drafts.armed = none ∧ (with_ c).commit = some c ∧ (with_ c).fwCommit = false ∧
    c.moment ≤ now ∧ ({ c with at_ := some m } : Commit).at_ = some m ∧ 0 < m ∧ now < ({ c with moment := now + 1 } : Commit).moment ∧
    m < m + 1 := by decide +kernel

theorem wit_boundary_sync :
    let d := dv [(PCK_STATE.state, 2), (ZCH_GEN.gen, 2 ^ 32 - 2)]
    let now := d.tm.pickStart + d.period
    d.running = true ∧ d.drafts.armed = none ∧ ({ d.tm with syncFrom := some now } : Clock).syncFrom = some now ∧ now ≤ now ∧
    now < now + 1 ∧ d.get ZCH_GEN.gen ≠ 2 ^ 32 - 1 ∧ (d.set ZCH_GEN.gen (2 ^ 32 - 1)).get ZCH_GEN.gen = 2 ^ 32 - 1 := by decide +kernel

/-- A woven device in pick 1029, the fifth of its shed: a voltage, a zoom and a power beam are computed for the pick before. -/
def wovenDev : Device :=
  let regs := dv ([(PCK_STATE.state, 2), (PCK_WEAVE_STAT.woven, 1), (PCK_PN_LO.word, 1029), (PCK_CFG.shed_log2, 8),
    (ZCH_CFG.configured 3, 1), (ZCH_CFG.beam 3, 5), (ZCH_CFG.n_hb 3, 2), (PWD_OUT.configured 7, 1), (PWD_CFG.decim 7, 256),
    (PWD_CFG.length 7, 512), (PWD_OUT.configured 9, 1), (SPL_QCFG_A.enabled 2, 1), (SPL_QCFG_B.ring_mib 2, 1),
    (SPL_DEST.word (8 * 2 + 3), 1500), (JRN_CAP_STAT.state 15, 1)])
  let p : BeamPick :=
    { pick := 1028, ent := 0, chan := 0, shed := 1024, descs := [(0, 1), (5, 3), (7, 5)], bank := false, old := false, oldW := [],
      mix := none, newW := [], wfault := [], refs := [(0, 32768 + 2)], partialAll := false, partialBeams := [], reset := false,
      fresh := false, cfgRegs := regs.regs, cfgLive := [] }
  let d : Device :=
    { regs with boot := { Device.cold.boot with dramReady := true }, beams := some p
                jrn := { Journal.cold with reopen := false, cur := some 1,
                                           segs := [(1, { span := some 1, opened := 0, openPick := 1024, lastPick := 1028 })] } }
  ((d.setUnit 3 { Unit.cold with live := some (Series.cold 2 0) }).setUnit 135
    { Unit.cold with live := some { Series.cold 0 0 with subs := [5, 6], started := true } }).setUnit 137
    { Unit.cold with live := some { Series.cold 0 0 with started := true } }

theorem wit_boundary_plain : wovenDev.plainBoundary := by unfold Device.plainBoundary; decide +kernel

theorem wit_boundary_journal :
    wovenDev.boot.dramReady = true ∧ wovenDev.jrn.reopen = false ∧ wovenDev.pn % 1024 ≠ 0 ∧ wovenDev.jrn.cur = some 1 ∧
    ({ wovenDev.jrn with cur := none } : Journal).cur = none ∧ wovenDev.capState 15 = 1 ∧
    (wovenDev.capture 15).last ≤ wovenDev.pn := by decide +kernel

theorem wit_boundary_beams : ∃ p, wovenDev.beams = some p ∧ p.mix = none ∧ wovenDev.chains.closed = [] ∧
    wovenDev.jrn.landing = [] ∧ (wovenDev.beamOuts p (wovenDev.pickSlot p.pick)).map (fun o => (o.beam, descClass o.desc)) =
      [(0, 0), (5, 1), (7, 2)] ∧ queueRef (Sparse.get (fun _ => 0) p.refs 0) = some 2 ∧ wovenDev.qOn 2 = true ∧
    0 < wovenDev.capacity 2 ∧ (wovenDev.queue 2).wr - (wovenDev.queue 2).free + 544 ≤ wovenDev.ringSize 2 :=
  ⟨_, rfl, by decide +kernel⟩

theorem wit_boundary_units : ∃ p, wovenDev.beams = some p ∧ p.fresh = false ∧ p.reset = false ∧
    (let v := wovenDev.under p
     let outs := wovenDev.beamOuts p (wovenDev.pickSlot p.pick)
     p.pick % v.shedLen ≠ 0 ∧ (∀ z ∈ [3, 135, 137], v.unitOn z = true) ∧ (v.fedBy 137 outs).isNone = true ∧
     (wovenDev.unit 137).live.isSome = true ∧ (v.fedBy 135 outs).isSome = true ∧ len16 (v.get (PWD_CFG.decim 7)) = 256 ∧
     (wovenDev.unit 135).live = some { Series.cold 0 0 with subs := [5, 6], started := true } ∧
     (Series.cold 0 0).cur = 0 ∧ (Series.cold 0 0).curN = 0 ∧ (Series.cold 0 0).settle = 0 ∧
     (v.fedBy 3 outs).isSome = true ∧ (wovenDev.unit 3).live = some (Series.cold 2 0)) :=
  ⟨_, rfl, by decide +kernel⟩

theorem wit_captures_more :
    (let d := { dv [(JRN_CFG.cap_limit, 1), (PCK_PN_LO.word, 5)] with jrn := { Journal.cold with unjournalled := [spanOf 5] } }
     (∀ n, n < 16 → d.capState n = 0) ∧ d.jrn.segs = [] ∧ d.jrn.lastTrig = none ∧ d.jrn.unjournalled.contains (spanOf d.pn) = true ∧
     d.jrn.unjournalled.contains (spanOf 1024) = false) ∧
    (dv [(JRN_CAP_STAT.state 15, 3)]).capState 15 = 3 := by decide +kernel

theorem wit_drain_limits :
    let d := workDev.setLoom 67 { Loom.cold with spills := [spill] }
    let ends (e : Device) : Bool :=
      e.looms.any fun l => l.2.spills.any fun x => (e.sheds.ending.toList ++ e.sheds.late.map LateShed.shed).any fun r => x.shed == r.start
    ends { d with sheds := { d.sheds with ending := some shed } } = true ∧ ends d = false ∧
    8192 ≤ ({ d.sheds with drainedNow := 8192 } : Sheds).drainedNow ∧ [spill].tail.length < 2 ^ 11 ∧
    (Loom.cold).lost = [] := by decide +kernel

/-- Loom 0 is ACTIVE and has begun pass 511 in slot 8 for the shed in progress; two picks are journalled. -/
def faultDev (l : List (Fld × Nat)) : Device :=
  { dv ([(PCK_PN_LO.word, 2), (LOM_PASS.entry 0 8, passEntry 511)] ++ l) with
    sheds := { Sheds.cold with placed := true, cur := some shed, work := [{ loom := 0, slot := 8, pass := 511, owner := 0, region := 8 }] }
    boot := { Device.cold.boot with phase := .running, dramReady := true }
    jrn := { Journal.cold with segs := [(0, { span := some 0, opened := 0, openPick := 0, lastPick := 1 })] } }

theorem wit_contained_fault_takeover :
    let d := faultDev []
    d.armed .jrn 4 = false ∧ d.role 0 = 0 ∧ d.logicalOf 0 = some 0 ∧ d.jrn.replays = [] ∧ d.pastSlots 0 = [(8, 511)] ∧
    ((d.pastSlots 0).map Prod.fst).Nodup ∧ (∀ p ∈ d.pastSlots 0, p.1 < 9 ∧ p.2 < 512) ∧ d.slotsOf 0 = [(8, 511)] ∧
    d.freeSpares = [64, 65, 66, 67] ∧ d.sheds.cur = some shed ∧ (∃ n ∈ (d.pastSlots 0).map Prod.snd, n ∉ shed.absent) ∧
    d.journalled shed.start ((d.pn + 2 ^ 64 - 1) % 2 ^ 64) = true ∧
    ({ d with jrn := Journal.cold } : Device).journalled shed.start ((d.pn + 2 ^ 64 - 1) % 2 ^ 64) = false ∧
    (faultDev [(LOM_ROLE.role 65, 3), (LOM_ROLE.role 66, 3), (LOM_ROLE.role 67, 3)]).freeSpares = [64] := by decide +kernel

theorem wit_contained_fault_orphans :
    let d := faultDev ((PCK_WEAVE_STAT.woven, 1) :: (CRL_CFG.policy, 1) :: (LOM_ROLE.bobbin_ok 0, 1) ::
      [64, 65, 66, 67].map fun k => (LOM_ROLE.role k, 3))
    d.freeSpares = [] ∧ d.logicalOf 0 = some 0 ∧
    (∀ n, n < 512 → d.flag (CRL_PLACE.lent n) = true → d.get (CRL_PLACE.lender n) ≠ 0) ∧ d.woven = true ∧ d.get CRL_CFG.policy = 1 ∧
    d.flag PCK_CFG.stretched = false ∧ d.tm.stretch = none ∧ d.flag (LOM_ROLE.bobbin_ok 0) = true ∧
    (d.set CRL_CFG.policy 0).get CRL_CFG.policy ≠ 1 := by decide +kernel

theorem wit_contained_fault_replaying :
    let d := faultDev ([64, 65, 66].map fun k => (LOM_ROLE.role k, 3)) |>.set (LOM_ROLE.role 67) 2
    let e := { d with jrn := { d.jrn with replays := [replay] } }
    e.role 67 = 2 ∧ e.jrn.replays = [replay] ∧ replay.spare = some 67 ∧ e.freeSpares = [] ∧ e.sheds.cur = some shed ∧
    shed.start = replay.shed.start := by decide +kernel

/-- An entry whose check code is not its own fails the read. -/
theorem readBack_badCrc (d : Device) (x g : Nat) (bs : List Nat) (e : List Byte) (hf : d.jrn.find x = some g)
    (hb : d.bytes (d.dirAddr g x) 576 = e) (hp : d.poisoned (d.dirAddr g x) 576 = false)
    (hc : crc32c (e.take 572) ≠ beAt e 572 4) : d.readBack x bs = .badCrc (d.dirAddr g x / 64 * 64) := by
  unfold Device.readBack
  rw [hf]
  dsimp only
  rw [hb, hp, if_neg (by decide), if_pos hc]

/-- `dirDev` with the check code 1. -/
def badDirDev : Device :=
  let d := { Device.cold with jrn := { Journal.cold with segs := [(0, { span := some 0, openPick := 0, lastPick := 1, opened := 0 })] } }
  d.store (d.dirAddr 0 1) (dirBody ++ be 4 1)

theorem badDirDev_bytes : badDirDev.bytes (badDirDev.dirAddr 0 1) 576 = dirBody ++ be 4 1 := by decide +kernel

theorem wit_replay_reads_that_fail :
    badDirDev.readBack 1 (blocksOf [511]) = .badCrc (badDirDev.dirAddr 0 1 / 64 * 64) ∧
    Device.cold.readBack 1 (blocksOf [511]) = .bad 0 ∧ Device.cold.get (FSTAT.word (blkBase .jrn)) = 0 := by
  have ht : (dirBody ++ be 4 1).take 572 = dirBody := by decide +kernel
  have h1 : beAt (dirBody ++ be 4 1) 572 4 = 1 := by decide +kernel
  exact ⟨readBack_badCrc badDirDev 1 0 _ _ (by decide +kernel) badDirDev_bytes (by decide +kernel)
    (by rw [ht, h1, dirBody_crc]; decide), by decide +kernel⟩

/-! ### Further clauses: warp, drafts, start-up -/

theorem wit_marker_completes_a_point :
    let v := ((warpDev 2).rxBits 63 2 true markerBits).1.value
    let w : Lane := { Lane.cold with lastCount := some 7, fifo := [.marker (some 0)] }
    let d := (((warpDev 2).setLane 63 0 w).setLane 63 1 w).setLane 63 3 w
    Machine.bits v 96 32 = 0 ∧
    (∀ i, i < 4 → i ≠ 2 → (d.lane 63 i).lastCount = some 7 ∧ (d.lane 63 i).fifo = [.marker (some 0)]) ∧ (d.port 63).chunk = 0 ∧
    ((d.setPort 63 { WarpPort.cold with chunk := 5 }).port 63).chunk ≠ 0 := by decide +kernel

theorem wit_lane_blocks_more :
    ((warpDev 6).rxBits 63 2 false (lineBits 0 0)).1.errored = false ∧
    ((warpDev 6).rxBits 63 2 false (lineBits 6 0)).1.type = 6 ∧ (warpDev 6).wstate 63 = 6 ∧
    (let d := (warpDev 6).set (WRP_LSTAT.lstate 63 2) 2
     2 ≤ d.get (WRP_LSTAT.lstate 63 2) ∧
     65536 ≤ ((d.setLane 63 2 { Lane.cold with windowBlocks := 65536, windowIdle := 65537 }).lane 63 2).windowBlocks) ∧
    (let f := { goodFrame with bytes := zeros 8, fatal := true }
     f.fatal = true ∧ 8 ≤ f.bytes.length) := by decide +kernel

theorem wit_boundary_weaves : ∀ u : Bool,
    let a : Armed := { w := 1, unweave := u, deadline := 0, changesP := false, prepared := true }
    let d := { dv [(PCK_STATE.state, 2)] with drafts := { Drafts.cold with slot1 := draft, woven1 := false, armed := some a } }
    d.held = false ∧ d.running = true ∧ d.restarting = false ∧ d.tm.fwCommit = false ∧ d.jrn.resumePick = none ∧
    d.drafts.armed = some a ∧ a.w = (d.pn + 1) % 2 ^ 64 ∧ secN d.drafts.staging 1 0 2 = 2500 := by decide +kernel

theorem wit_a_bank_image_is_staged :
    (section_ (Sparse.putAll memDflt (Sparse.putAll memDflt draft 16 (be 2 4)) 112 (dirEnt 6 65536 bankSize)) 6).isSome = true := by
  decide +kernel

theorem wit_trial_starts_end :
    let x := { (bootDev .loaded (rec0 4 2 0) [0, 1]).boot with trialRun := true }
    x.phase = .loaded ∧ x.warm = false ∧ x.record.state = 4 ∧ x.record.run = 0 ∧ x.bankOk 0 = true ∧ x.record.trials < 3 := by
  decide +kernel

/-- Whatever layout the running image has, the settings may be of a newer one. -/
theorem newer_store (l : Nat) : ∃ n c, (startDev n).rsq.store = some c ∧ l < c.layout := ⟨l + 1, _, rfl, Nat.lt_succ_self l⟩

theorem wit_incompatible_settings : let x := (bootDev .loaded (rec0 0 0 0) [0, 1]).boot
    (∃ n c, (startDev n).rsq.store = some c ∧ x.layout < c.layout) ∧ x.usePrev = false ∧ x.bankOk 1 = true ∧ x.warm = false :=
  ⟨newer_store _, rfl, by decide +kernel, rfl⟩

theorem wit_quiesce_ends :
    let d := { fwDev [] with jrn := { Journal.cold with quiesced := some false }, boot := { (fwDev []).boot with dramReady := true } }
    let f := d.put GLB_FATAL.fatal true
    d.jrn.quiesced = some false ∧ d.flag GLB_FATAL.fatal = false ∧ d.quiesceBlocked = false ∧ d.testen = false ∧
    d.boot.dramReady = true ∧ d.boot.record.state = 0 ∧ d.boot.record.run = 0 ∧ d.boot.bankOk 0 = true ∧
    f.jrn.quiesced = some false ∧ f.flag GLB_FATAL.fatal = true ∧
    ({ d.jrn with quiesceBad := true } : Journal).quiesceBad = true ∧ ({ d.boot with warm := true } : Boot).warm = true ∧
    ((d.set (DRM_STAT.state 23) 2).get (DRM_STAT.state 23) = 2) := by decide +kernel

/-! ### Further clauses: notices, queues, outputs, supply -/

theorem wit_lost_notices :
    let n : Notice := { ntc 9 2 0 false with ty := 2, count := 65535 }
    let q := [ntc 1 2 0 true, n]
    let left (u : Nat) : List Notice := q.filter fun n => !(n.sent && decide (n.nseq ≤ u))
    ({ (fwDev []).rsq with dropped := 1 } : Rosesque).dropped = 1 ∧ (left 1).length < 4096 ∧
    (∃ k ∈ left 1, k.ty = 2 ∧ k.sent = false) ∧ (∀ k ∈ [ntc 2 2 0 true], k.ty = 2 → k.sent = true) := by decide +kernel

theorem wit_settings_storage_waits :
    let d := { fwDev [] with rsq := { (fwDev []).rsq with dirty := [(1, .notices 10 20)] } }
    d.rsq.dirty = [(1, .notices 10 20)] ∧ d.svcHeld = false ∧ (1 : Nat) ≠ 2 := by decide +kernel

theorem wit_heartbeat_is_offered :
    let d := ((qDev none).setQueue 0 { Queue.cold with port := some 1, next := 1, base := 1, hbDue := true, tokens := 2 ^ 30 }).at_ 9
    let y := d.syncQueues
    y.inService 1 = true ∧ y.flag GLB_FATAL.fatal = false ∧
    (y.chooseOffer 1 9).map (fun p => (p.2.1, p.2.2.heartbeat, p.2.2.retransmit)) = some (0, true, false) := by decide +kernel

theorem wit_nothing_to_flush : (Queue.cold).wr = (Queue.cold).openAt ∧ ∀ b ∈ (Queue.cold).bolts, b.sent ≠ none := by
  decide

theorem wit_output_edges :
    (let d := { dv [(REF_OUT.pickout_en, 1), (REF_OUT.ppsout_en, 1), (REF_STAT.second_valid, 1), (PCK_STATE.state, 2)] with
                tm := { Device.cold.tm with second := some 0 } }
     d.pickEdge 2500 = some 2500 ∧ d.ppsEdge 1600000000 = some 1600000000 ∧ d.pickEdge 1 = none ∧ d.ppsEdge 1 = none ∧
     (d.set REF_OUT.pickout_en 0).flag REF_OUT.pickout_en = false ∧
     ({ d with ref := { d.ref with pickDone := some 2500 } } : Device).pickEdge 2500 = none) ∧
    ((7 : Nat) : Int) ≤ (5 : Nat) + (2 : Int) ∧ (∀ w ∈ [((3 : Int), (9 : Nat))], ((5 : Nat) : Int) + w.1 < w.2) := by decide +kernel

theorem wit_switch_slew_ends : (refDev 8 3 [(REF_STAT.state, 2), (REF_CFG.wtr, 1)]).get REF_STAT.state = 2 ∧
    (refDev 8 3 [(REF_STAT.state, 2), (REF_CFG.wtr, 1)]).get REF_CFG.wtr ≠ 0 := by decide +kernel

theorem wit_faults_more :
    checkedByRows (.wrp 63) 1 = false ∧ checkedByRows .hst 3 = true ∧ eventEnable PCK_COMMIT_STAT.late.addr = none ∧
    (∃ f ∈ fieldsAt PCK_COMMIT_STAT.late.addr, f.acc = .w1c ∧
      (dv [(PCK_COMMIT_STAT.late, 1)]).get ⟨PCK_COMMIT_STAT.late.addr, f.lo, f.w⟩ ≠ 0) ∧
    eventEnable REF_EVENT.holdover.addr = some REF_EVT_EN.enable ∧
    (let d := (fwDev []).set REF_EVENT.holdover 1
     (d.word REF_EVENT.holdover.addr).toNat &&& d.get REF_EVT_EN.enable = 0 ∧
     (let e := d.set REF_EVT_EN.enable 0xFFFFFFFF
      (e.word REF_EVENT.holdover.addr).toNat &&& e.get REF_EVT_EN.enable ≠ 0 ∧ e.fwUp = true)) := by decide +kernel

theorem wit_supply_more :
    (fwDev []).svcHeld = false ∧ (dv [(HDL_ROLE.pair0_held, 1), (HDL_ROLE.pair1_held, 1)]).svcHeld = true ∧
    (fwDev []).sup.plan = none ∧ (fwDev []).sup.settling = none ∧
    ({ (fwDev []).sup with settling := some 2 } : Supply).settling = some 2 ∧ (2 : Nat) < 3 ∧ 3 ≤ (3 : Nat) := by decide +kernel

end Sys2Proof.Tests
end

section
/-! The values that a cold reset leaves (00 R7). -/

namespace Sys2Proof.Machine

/-- LOM_ROLE: looms 0 to 63 are looms in service, each its own logical loom; 64 to 67 are spares; every bobbin is usable
(05 R151, R544). -/
theorem cold_loomRole : (∀ k, k < 64 → Device.cold.get (LOM_ROLE.role k) = 0 ∧
      Device.cold.get (LOM_ROLE.logical k) = k) ∧
    (∀ k, k < 68 → 64 ≤ k → Device.cold.get (LOM_ROLE.role k) = 1) ∧
    ∀ k, k < 68 → Device.cold.get (LOM_ROLE.bobbin_ok k) = 1 := by decide +kernel

/-- CRL_LMAP maps each logical loom to the physical loom of its number (05 R152). -/
theorem cold_loomMap : ∀ l, l < 64 → Device.cold.get (CRL_LMAP.physical l) = l := by
  decide +kernel

/-- REF_PRIO ranks the references in their order (14 R409). -/
theorem cold_refRank : ∀ k, k < 4 → Device.cold.get (REF_PRIO.rank k) = k := by decide +kernel

/-- Every capture slot is free. -/
theorem cold_captureState : ∀ n, n < 16 → Device.cold.get (JRN_CAP_STAT.state n) = 0 := by
  decide +kernel

/-- Every treadle engine is in state 0. -/
theorem cold_treadleState : ∀ e, e < 4 → Device.cold.get (TRD_STAT.state e) = 0 := by
  decide +kernel

/-- PCK: pick 0, state 0, no draft woven, a period of 2,500 cycles and sheds of one pick (02 R53). -/
theorem cold_pick : Device.cold.pn = 0 ∧ Device.cold.get PCK_STATE.state = 0 ∧ Device.cold.get PCK_CFG.period = 2500 ∧
    Device.cold.get PCK_CFG.shed_log2 = 0 ∧ Device.cold.stage = 0 ∧ Device.cold.woven = false := by decide +kernel

/-- REF: state 0, no reference qualified (14 R402). -/
theorem cold_reference : Device.cold.get REF_STAT.state = 0 ∧ Device.cold.get REF_STAT.qualified = 0 := by decide +kernel

/-- Settles O60: every store of `Device.cold` is empty, so each register reads as `resetWord` gives it, and the lemmas
above read the fields named. -/
theorem resetHoldsTheSpecsValues : Obligations.ResetHoldsTheSpecsValues := by
  obtain ⟨hpn, hstate, hperiod, hshed, hstage, hwoven⟩ := cold_pick
  obtain ⟨hrole, hspare, hbobbin⟩ := cold_loomRole
  exact ⟨rfl, fun _ => rfl, hpn, hstate, hperiod, hshed, hstage, hwoven, cold_reference.1, cold_reference.2,
    cold_refRank, hrole, fun k h1 h2 => hspare k h2 h1, hbobbin, cold_loomMap, cold_captureState,
    fun _ => rfl, fun _ => rfl, cold_treadleState, rfl, rfl⟩

end Sys2Proof.Machine
end

section
/-! What a register write leaves in each field, by its access code (00 R5, R6). -/

namespace Sys2Proof.Machine

/-- The bits of a field within its register's word. -/
def FieldDesc.bits (f : FieldDesc) : Fld := ⟨0, f.lo, f.w⟩

/-- What a write of `v` leaves in the field `f` that held `was`, by its access code (00 R5); `hot` are the bits that hardware has
set in this matrix cycle (00 R6). -/
def FieldDesc.written (f : FieldDesc) (hot v : W32) (was : Nat) : Nat :=
  match f.acc with
  | .rw => f.bits.of v
  | .rwp => f.bits.of v
  | .w1c => was &&& (2 ^ f.w - 1 - (f.bits.of v &&& (2 ^ f.w - 1 - f.bits.of hot)))
  | .ro => was
  | .roh => was
  | .wo => was

section
variable (hot v : W32)

theorem applyAccess_cons (f : FieldDesc) (fs : List FieldDesc) (old : W32) :
    applyAccess (f :: fs) hot old v = applyAccess fs hot (applyAccess [f] hot old v) v := rfl

theorem applyAccess_single_same (f : FieldDesc) (old : W32) (hf : f.bits.fits) :
    f.bits.of (applyAccess [f] hot old v) = f.written hot v (f.bits.of old) := by
  have hinto : ∀ n, n < 2 ^ f.w → f.bits.of (f.bits.into old n) = n := fun n hn =>
    (Fld.of_into f.bits old n hf).trans (Nat.mod_eq_of_lt hn)
  cases h : f.acc <;> simp only [applyAccess, List.foldl_cons, List.foldl_nil, FieldDesc.written, h]
  case rw => exact hinto _ (Fld.of_lt _ v)
  case rwp => exact hinto _ (Fld.of_lt _ v)
  case w1c => exact hinto _ (Nat.lt_of_le_of_lt Nat.and_le_left (Fld.of_lt f.bits old))

theorem applyAccess_single_apart (f : FieldDesc) (g : Fld) (old : W32) (hf : f.bits.fits) (hg : f.bits.apart g) :
    g.of (applyAccess [f] hot old v) = g.of old := by
  cases h : f.acc <;> simp only [applyAccess, List.foldl_cons, List.foldl_nil, h]
  all_goals exact Fld.of_into_apart f.bits g old _ hf hg

/-- A write leaves a field that lies apart from those of the register. -/
theorem applyAccess_apart (fs : List FieldDesc) (g : Fld) (old : W32) (hf : ∀ f ∈ fs, f.bits.fits)
    (hg : ∀ f ∈ fs, f.bits.apart g) : g.of (applyAccess fs hot old v) = g.of old := by
  induction fs generalizing old with
  | nil => rfl
  | cons f fs ih =>
    rw [List.forall_mem_cons] at hf hg
    rw [applyAccess_cons, ih _ hf.2 hg.2, applyAccess_single_apart hot v f g old hf.1 hg.1]

/-- Each field is written as if it were the only one of its register. -/
theorem applyAccess_mem (fs : List FieldDesc) (old : W32) (hfits : ∀ f ∈ fs, f.bits.fits)
    (hapart : fs.Pairwise fun f g => f.bits.apart g.bits) (f : FieldDesc) (hf : f ∈ fs) :
    f.bits.of (applyAccess fs hot old v) = f.written hot v (f.bits.of old) := by
  induction fs generalizing old with
  | nil => cases hf
  | cons g fs ih =>
    rw [List.forall_mem_cons] at hfits
    obtain ⟨hg, hfs⟩ := List.pairwise_cons.mp hapart
    rw [applyAccess_cons]
    rcases List.mem_cons.mp hf with rfl | hmem
    · rw [applyAccess_apart hot v fs _ _ hfits.2 fun g' hg' => (hg g' hg').symm,
        applyAccess_single_same hot v f old hfits.1]
    · rw [ih _ hfits.2 hfs hmem, applyAccess_single_apart hot v g f.bits old hfits.1 (hg f hmem)]

end

/-- The bits that a write of `a` to a W1C field does not clear where those of `b` are just set. -/
theorem testBit_keptByW1c (w a b i : Nat) (ha : a < 2 ^ w) (hb : b < 2 ^ w) :
    (2 ^ w - 1 - (a &&& (2 ^ w - 1 - b))).testBit i = (decide (i < w) && !(a.testBit i && !b.testBit i)) := by
  have hsub : ∀ x, x < 2 ^ w → (2 ^ w - 1 - x).testBit i = (decide (i < w) && !x.testBit i) := fun x hx => by
    rw [Nat.sub_sub, Nat.add_comm, Nat.testBit_two_pow_sub_succ hx]
  rw [hsub _ (Nat.lt_of_le_of_lt Nat.and_le_left ha), Nat.testBit_and, hsub b hb]
  by_cases hi : i < w <;> simp [hi]

/-- Settles O5: each field of the register is written as if it alone were (`applyAccess_mem`), and `FieldDesc.written` says
what its code leaves; for W1C bit by bit. -/
theorem accessCodesGovernWrites : Obligations.AccessCodesGovernWrites := by
  intro fs hot old v hfits hapart f hf
  have hafter : f.bits.of (applyAccess fs hot old v) = f.written hot v (f.bits.of old) :=
    applyAccess_mem hot v fs old hfits hapart f hf
  unfold FieldDesc.bits at hafter
  dsimp only
  rw [hafter]
  cases h : f.acc <;> simp only [FieldDesc.written, FieldDesc.bits, h]
  case w1c =>
    intro i
    rw [Nat.testBit_and, testBit_keptByW1c f.w _ _ i (Fld.of_lt ⟨0, f.lo, f.w⟩ v) (Fld.of_lt ⟨0, f.lo, f.w⟩ hot)]
    by_cases hi : i < f.w
    · simp [hi]
    · simp [hi, Fld.testBit_of]

end Sys2Proof.Machine
end

section
/-! Register accesses of a matrix master: what a read returns, what a write leaves, and the latches of the pairs (00 R8, R9, 19
R522, R523). -/

namespace Sys2Proof.Machine

/-- A register command whose effect keeps the pins completes, as one request of its master. -/
theorem State.actReg_pins {qs : List Part} (s : State) (m : Nat) (f : Device → Device) (e : Device) (hs : s.dev.held = false)
    (hm : s.dev.issues m = true) (he : f (s.dev.request m 1) = e) (hk : (s.dev.request m 1).keeps e qs)
    (h1 : Part.held ∉ qs) (h2 : Part.powered ∉ qs) : s.actReg m f = .next { s with dev := e } := by
  have hreq := Device.request_keeps s.dev m 1
  have hheld : e.held = false := ((hk _ h1).trans (hreq .held (by decide))).trans hs
  have hpow : e.powered = s.dev.powered := (hk _ h2).trans (hreq .powered (by decide))
  rw [State.actReg_next s f m hs hm, he, ← hheld, ← hpow]

/-- The register `r` at `addr` after a write of `v` that does no more than its access codes say. -/
def Device.writeByCodes (d : Device) (r : RegDesc) (addr : Nat) (v : W32) : Device :=
  d.setWord addr (applyAccess r.fields (d.hotAt addr) (d.word addr) v)

section
variable {d : Device} {m addr : Nat} {v : W32} {t : Nat} {r : RegDesc} {i k : Nat}

/-- A register lies where an address decodes. -/
theorem locate_of_descAt {x : RegDesc × Nat × Nat} (h : descAt addr = some x) : ∃ y, locate addr = some y := by
  cases hl : locate addr with
  | none => simp [descAt, hl] at h
  | some y => exact ⟨y, rfl⟩

theorem halfAt_of_descAt (h : descAt addr = some (r, i, k)) : halfAt addr = r.half := by
  simp only [halfAt, h]

/-! ### Reads -/

theorem Device.regRead_single (h : descAt addr = some (r, i, k)) (hr : r.half = .single) :
    d.regRead m addr = (some (d.readAs m addr), d) := by
  obtain ⟨y, hy⟩ := locate_of_descAt h
  simp only [Device.regRead, hy, h, hr]

theorem Device.regRead_lo (h : descAt addr = some (r, i, k)) (hr : r.half = .lo) :
    d.regRead m addr = (some (d.readVal addr), d.setRlatch m (some (addr + 4, d.readVal (addr + 4)))) := by
  obtain ⟨y, hy⟩ := locate_of_descAt h
  simp only [Device.regRead, hy, h, hr]

theorem Device.regRead_hi_latched (h : descAt addr = some (r, i, k)) (hr : r.half = .hi)
    (hl : Sparse.get (fun _ => none) d.rlatch m = some (addr, v)) : d.regRead m addr = (some v, d.setRlatch m none) := by
  obtain ⟨y, hy⟩ := locate_of_descAt h
  simp only [Device.regRead, hy, h, hr, hl, if_true]

theorem Device.regRead_hi_live (h : descAt addr = some (r, i, k)) (hr : r.half = .hi)
    (hl : ∀ v, Sparse.get (fun _ => none) d.rlatch m ≠ some (addr, v)) : d.regRead m addr = (some (d.readVal addr), d) := by
  obtain ⟨y, hy⟩ := locate_of_descAt h
  simp only [Device.regRead, hy, h, hr]
  cases hx : Sparse.get (fun _ => none) d.rlatch m with
  | none => rfl
  | some x => exact if_neg fun hax => hl x.2 (by rw [hx, ← hax])

/-! ### Writes -/

theorem Device.word_writeByCodes :
    (d.writeByCodes r addr v).word addr = applyAccess r.fields (d.hotAt addr) (d.word addr) v := Device.word_setWord_same _ _ _

theorem Device.word_writeByCodes_other {b : Nat} (h : b ≠ addr) : (d.writeByCodes r addr v).word b = d.word b :=
  Device.word_setWord_other _ _ _ _ h

theorem Device.writeByCodes_keeps : d.keeps (d.writeByCodes r addr v) [.regs] :=
  Device.keeps_setWord _ _ Device.keeps_refl (by decide)

theorem Device.onlyFields_writeByCodes {e : Device} {fs : List Fld} (h : d.onlyFields e fs) (ha : (⟨addr, 0, 32⟩ : Fld) ∈ fs) :
    d.onlyFields (e.writeByCodes r addr v) fs := Device.onlyFields_setWord h _ _ ha

theorem Device.applyWrite_plain (h : r.id.acts = false) : d.applyWrite m r i k addr v t = d.writeByCodes r addr v := by
  simp [Device.applyWrite, Device.writeByCodes, h]

theorem Device.regWrite_single (h : descAt addr = some (r, i, k)) (hw : r.writable = true) (hr : r.half = .single) :
    d.regWrite m addr v t = (true, d.applyWrite m r i k addr v t) := by
  obtain ⟨y, hy⟩ := locate_of_descAt h
  simp [Device.regWrite, hy, h, hw, hr]

theorem Device.regWrite_lo (h : descAt addr = some (r, i, k)) (hw : r.writable = true) (hr : r.half = .lo) :
    d.regWrite m addr v t = (true, d.setWlatch m (some (addr, v))) := by
  obtain ⟨y, hy⟩ := locate_of_descAt h
  simp [Device.regWrite, hy, h, hw, hr]

/-- A write to the _HI whose _LO is held applies both halves and empties the latch. -/
theorem Device.regWrite_hi_held {u : W32} {q : RegDesc} {i' k' : Nat} (h : descAt (addr + 4) = some (r, i, k))
    (hq : descAt addr = some (q, i', k')) (hw : r.writable = true) (hr : r.half = .hi)
    (hl : Sparse.get (fun _ => none) d.wlatch m = some (addr, u)) :
    d.regWrite m (addr + 4) v t =
      (true, ((d.setWlatch m none).applyWrite m q i k addr u t).applyWrite m r i k (addr + 4) v t) := by
  obtain ⟨y, hy⟩ := locate_of_descAt h
  simp [Device.regWrite, hy, h, hw, hr, hl, hq]

/-- A write to the _HI whose _LO is not held applies its own half. -/
theorem Device.regWrite_hi_alone (h : descAt (addr + 4) = some (r, i, k)) (hw : r.writable = true) (hr : r.half = .hi)
    (hl : ∀ u, Sparse.get (fun _ => none) d.wlatch m ≠ some (addr, u)) :
    d.regWrite m (addr + 4) v t = (true, d.applyWrite m r i k (addr + 4) v t) := by
  obtain ⟨y, hy⟩ := locate_of_descAt h
  simp only [Device.regWrite, hy, h, hw, hr, Bool.not_true, Bool.false_eq_true, if_false]
  split
  next a u _ _ _ hx _ => exact if_neg fun ha => hl u (by rw [hx, Nat.add_right_cancel ha])
  next => rfl

end

/-- PCK_COMMIT acts on a write, so a register that does not act lies elsewhere. -/
theorem ne_commit_of_not_acts {addr : Nat} {r : RegDesc} {i k : Nat} (h : descAt addr = some (r, i, k))
    (ha : r.id.acts = false) : addr ≠ PCK_COMMIT.word.addr := by
  rintro rfl
  have hacts : (descAt PCK_COMMIT.word.addr).all (fun x => x.1.id.acts) = true := by decide +kernel
  rw [h] at hacts
  exact Bool.false_ne_true (ha.symm.trans hacts)

/-! ### The commands -/

section
variable (s : State) (m : Master) (lo hi addr v : W32) (t : Nat)

theorem exec_registerWrite : exec (.registerWrite m addr v t) s = s.actReg m.val fun d =>
    if addr.toNat = PCK_COMMIT.word.addr then ((d.at_ t).regWrite m.val addr.toNat v t).2.firmwareTurn
    else ((d.at_ t).regWrite m.val addr.toNat v t).2 := rfl

theorem exec_pairLoRead : exec (.pairLoRead m lo) s = s.actReg m.val fun d =>
    if halfAt lo.toNat = .lo then (d.regRead m.val lo.toNat).2 else d := rfl

theorem exec_pairLoWrite : exec (.pairLoWrite m lo v) s = s.actReg m.val fun d =>
    if halfAt lo.toNat = .lo then (d.regWrite m.val lo.toNat v d.tm.now).2 else d := rfl

theorem exec_pairHiWrite : exec (.pairHiWrite m hi v) s = s.actReg m.val fun d =>
    if halfAt hi.toNat = .hi then (d.regWrite m.val hi.toNat v d.tm.now).2 else d := rfl

variable (hs : s.dev.held = false) (hm : s.dev.issues m.val = true)
variable {r q : RegDesc} {i k i' k' : Nat}
include hs hm

theorem exec_registerWrite_plain (h : descAt addr.toNat = some (r, i, k)) (hr : r.half = .single) (hw : r.writable = true)
    (ha : r.id.acts = false) : exec (.registerWrite m addr v t) s =
      .next { s with dev := ((s.dev.request m.val 1).at_ t).writeByCodes r addr.toNat v } := by
  rw [exec_registerWrite]
  refine State.actReg_pins (qs := [.regs, .ref, .tm]) s m.val _ _ hs hm ?_ ?_ (by decide) (by decide)
  · rw [if_neg (ne_commit_of_not_acts h ha), Device.regWrite_single h hw hr,
      Device.applyWrite_plain ha]
  · exact Device.keeps_trans (Device.at_keeps t) Device.writeByCodes_keeps (by decide)

/-- A read of a _LO loads the read latch with the matching _HI. -/
theorem exec_pairLoRead_latches (h : descAt lo.toNat = some (q, i, k)) (hq : q.half = .lo) :
    exec (.pairLoRead m lo) s = .next { s with dev := ((s.dev.request m.val 1).setRlatch m.val
      (some (lo.toNat + 4, (s.dev.request m.val 1).readVal (lo.toNat + 4)))) } := by
  rw [exec_pairLoRead]
  refine State.actReg_pins (qs := [.rlatch]) s m.val _ _ hs hm ?_ ?_ (by decide) (by decide)
  · rw [if_pos ((halfAt_of_descAt h).trans hq), Device.regRead_lo h hq]
  · exact Device.keeps_rlatch _ Device.keeps_refl (by decide)

/-- A write to the _LO of a writable pair loads the write latch. -/
theorem exec_pairLoWrite_latches (h : descAt lo.toNat = some (q, i, k)) (hq : q.half = .lo) (hw : q.writable = true) :
    exec (.pairLoWrite m lo v) s = .next { s with dev := (s.dev.request m.val 1).setWlatch m.val (some (lo.toNat, v)) } := by
  rw [exec_pairLoWrite]
  refine State.actReg_pins (qs := [.wlatch]) s m.val _ _ hs hm ?_ ?_ (by decide) (by decide)
  · rw [if_pos ((halfAt_of_descAt h).trans hq), Device.regWrite_lo h hw hq]
  · exact Device.keeps_wlatch _ Device.keeps_refl (by decide)

/-- A write to a _HI whose _LO is held sets both halves. -/
theorem exec_pairHiWrite_held (hlh : hi.toNat = lo.toNat + 4) (h : descAt hi.toNat = some (r, i, k)) (hr : r.half = .hi)
    (hw : r.writable = true) (ha : r.id.acts = false) (hq : descAt lo.toNat = some (q, i', k')) (hqa : q.id.acts = false)
    (u : W32) (hl : Sparse.get (fun _ => none) (s.dev.request m.val 1).wlatch m.val = some (lo.toNat, u)) :
    exec (.pairHiWrite m hi v) s = .next { s with dev :=
      (((s.dev.request m.val 1).setWlatch m.val none).writeByCodes q lo.toNat u).writeByCodes r hi.toNat v } := by
  rw [exec_pairHiWrite]
  refine State.actReg_pins (qs := [.wlatch, .regs]) s m.val _ _ hs hm ?_ ?_ (by decide) (by decide)
  · rw [if_pos ((halfAt_of_descAt h).trans hr)]
    rw [hlh] at h ⊢
    rw [Device.regWrite_hi_held h hq hw hr hl, Device.applyWrite_plain ha,
      Device.applyWrite_plain hqa]
  · refine Device.keeps_trans (Device.keeps_trans ?_ Device.writeByCodes_keeps (by decide))
      Device.writeByCodes_keeps (by decide)
    exact Device.keeps_wlatch _ Device.keeps_refl (by decide)

/-- A write to a _HI whose _LO is not held sets its own half. -/
theorem exec_pairHiWrite_alone (hlh : hi.toNat = lo.toNat + 4) (h : descAt hi.toNat = some (r, i, k)) (hr : r.half = .hi)
    (hw : r.writable = true) (ha : r.id.acts = false)
    (hl : ∀ u : W32, Sparse.get (fun _ => none) (s.dev.request m.val 1).wlatch m.val ≠ some (lo.toNat, u)) :
    exec (.pairHiWrite m hi v) s = .next { s with dev := (s.dev.request m.val 1).writeByCodes r hi.toNat v } := by
  rw [exec_pairHiWrite]
  refine State.actReg_pins (qs := [.regs]) s m.val _ _ hs hm ?_ Device.writeByCodes_keeps (by decide) (by decide)
  rw [if_pos ((halfAt_of_descAt h).trans hr)]
  rw [hlh] at h ⊢
  rw [Device.regWrite_hi_alone h hw hr hl, Device.applyWrite_plain ha]

end

/-- A master's read latch is its own. -/
theorem Device.rlatch_setRlatch_other {d : Device} {m n : Nat} {x : Option (Nat × W32)} (h : n ≠ m) :
    Sparse.get (fun _ => none) (d.setRlatch m x).rlatch n = Sparse.get (fun _ => none) d.rlatch n :=
  Sparse.get_put_other _ d.rlatch m n x h

/-- A master's write latch is its own. -/
theorem Device.wlatch_setWlatch_other {d : Device} {m n : Nat} {x : Option (Nat × W32)} (h : n ≠ m) :
    Sparse.get (fun _ => none) (d.setWlatch m x).wlatch n = Sparse.get (fun _ => none) d.wlatch n :=
  Sparse.get_put_other _ d.wlatch m n x h

/-- Settles O6: the device that each command leaves (`exec_registerWrite_plain` and the lemmas of the pairs), what each read
returns (the `Device.regRead` lemmas), and what a write of one register leaves of the others. -/
theorem registersAndPairsAreReadAndWritten : Obligations.RegistersAndPairsAreReadAndWritten := by
  refine ⟨fun s m addr v t r i k hs hm h hr hw ha => ?_,
    fun s m lo hi r q i k i' k' hs hm hlh hlo hq hhi hr => ⟨?_, ?_, ?_, ?_, ?_, ?_, ?_⟩⟩
  · exact ⟨_, exec_registerWrite_plain s m addr v t hs hm h hr hw ha, Device.word_writeByCodes,
      Device.onlyFields_writeByCodes Device.onlyFields_refl (by simp)⟩
  · exact ⟨_, exec_pairLoRead_latches s m lo hs hm hlo hq, by rw [hlh], fun n hn => Device.rlatch_setRlatch_other hn⟩
  · rw [Device.regRead_lo hlo hq]
  · exact fun v hl => Device.regRead_hi_latched hhi hr hl
  · exact fun hl => Device.regRead_hi_live hhi hr hl
  · exact fun a z j l hz hsingle => Device.regRead_single hz hsingle
  · exact fun hw v => ⟨_, exec_pairLoWrite_latches s m lo v hs hm hlo hq hw, rfl, rfl, rfl,
      fun n hn => Device.wlatch_setWlatch_other hn⟩
  · intro hw ha w
    refine ⟨fun v hqa hl => ⟨_, exec_pairHiWrite_held s m lo hi w hs hm hlh hhi hr hw ha hlo hqa v hl, ?_, ?_, ?_⟩,
      fun hl => ⟨_, exec_pairHiWrite_alone s m lo hi w hs hm hlh hhi hr hw ha hl, Device.word_writeByCodes, ?_⟩⟩
    · rw [Device.word_writeByCodes_other (by omega), Device.word_writeByCodes]
      rfl
    · rw [Device.word_writeByCodes, Device.word_writeByCodes_other (by omega)]
      rfl
    · exact Device.onlyFields_writeByCodes (Device.onlyFields_writeByCodes Device.onlyFields_refl (by simp))
        (by simp)
    · exact Device.onlyFields_writeByCodes Device.onlyFields_refl (by simp)

end Sys2Proof.Machine
end
